-- ==== Sys2Proof/Word.lean ====
section
/-! DEFINITION. The plain value types that every file of the model shares: a byte, a text, a tag. -/

namespace Sys2Proof

/-- An 8-bit value as the links carry it. -/
abbrev Byte := BitVec 8

/-- A text field or a print line: 8-bit characters in order (R70, R97, R195). -/
abbrev Text := List Byte

/-- A request tag, 0 to 15, chosen by the host (R7). -/
abbrev Tag := Fin 16

/-- A clerk, 1 to 16, held as the index 0 to 15 of the clerk's record (R103). -/
abbrev ClerkNo := Fin 16

/-- A permission set: one flag per group, WEIGH in the least significant bit (section 11.6). -/
abbrev PermSet := BitVec 8

/-- A set of ticket classes: class A in the least significant bit (R113). -/
abbrev CallSet := BitVec 8

/-- The characters of a fixed word of a label, as bytes. PRESUMED (log entry 42): the spec speaks of 8-bit characters and
names no code set; each character here has its ASCII code. -/
def asText (s : String) : Text := s.toList.map fun c => BitVec.ofNat 8 c.toNat

end Sys2Proof
end

