-- ==== Sys2Proof/Syntax.lean ====
section
/-! DEFINITION. The commands of the IFD-64: the enumerations of section 11.2, the operands of the requests, and `Instr`
with one constructor per row of the table of operations and events. -/

namespace Sys2Proof

/-- The six clerk stations. -/
inductive Station | s1 | s2 | s3 | s4 | s5 | s6
  deriving DecidableEq, Repr

/-- A port: a station link or the office link O. -/
inductive Port | station (s : Station) | office
  deriving DecidableEq, Repr

/-- The four platters, each with its weighing channel. -/
inductive Platter | w1 | w2 | w3 | w4
  deriving DecidableEq, Repr

/-- The four outlets. -/
inductive OutletId | p1 | p2 | p3 | p4
  deriving DecidableEq, Repr

/-- The four ticket classes. -/
inductive TicketClass | a | b | c | d
  deriving DecidableEq, Repr

/-- The four dispenser lines. -/
inductive DispenserLine | d1 | d2 | d3 | d4
  deriving DecidableEq, Repr

/-- How a PLU is priced (R70). -/
inductive PluKind | byWeight | byCount
  deriving DecidableEq, Repr

/-- The label choice of PRICE ITEM and ADD COUNT ITEM (R112). -/
inductive LabelChoice | no | yes | dflt
  deriving DecidableEq, Repr

/-- The mode of CLOSE DAY (R173). -/
inductive CloseMode | normal | force
  deriving DecidableEq, Repr

/-- The sections of READ TOTALS and READ CLOSED DAY (R182). -/
inductive Section | day | grand | department | clerk | station | plu
  deriving DecidableEq, Repr

/-- The kind of an outlet (R152). -/
inductive OutletKind | label | ticket | display
  deriving DecidableEq, Repr

/-- The notice mode of an outlet (R160). -/
inductive NoticeMode | each | drain
  deriving DecidableEq, Repr

/-- The edge selection of a class's dispenser line (R130). -/
inductive EdgeSelection | rising | falling | both | off
  deriving DecidableEq, Repr

/-- The eleven notice kinds (R14). -/
inductive NoticeKind
  | weight | platterAlert | queueChange | callExpired | jobDone | outletDrained | outletState | stockLow | watchFired
  | approvalNeeded | dayState
  deriving DecidableEq, Repr

/-- The kind of a watch as SET WATCH carries it (R184). -/
inductive WatchKind | off | pluSale | txnAmount | clerkAmount | queueLength
  deriving DecidableEq, Repr

/-- The action of a watch (R184). -/
inductive WatchAction | notice | hold
  deriving DecidableEq, Repr

/-- A date as the links carry it: year, month, day. -/
structure Date where
  year : Nat
  month : Nat
  day : Nat
  deriving DecidableEq, Repr

/-- A time of day as the links carry it. -/
structure Time where
  hour : Nat
  minute : Nat
  second : Nat
  deriving DecidableEq, Repr

/-- A PLU's promotion: its price and the dates it holds between, both included (R70, R91). -/
structure Promotion where
  price : Nat
  first : Date
  last : Date
  deriving DecidableEq, Repr

/-- The descriptive fields of a PLU record, as PLU WRITE carries them (R70, R73). -/
structure PluFields where
  name : Text
  second : Option Text
  kind : PluKind
  unitPrice : Nat
  promotion : Option Promotion
  department : Nat
  presetTare : Option Nat
  shelfLife : Option Nat
  deriving DecidableEq, Repr

/-- The watch level of STOCK LOAD: absent, given, or "keep" (R78). -/
inductive WatchLevel | absent | given (level : Nat) | keep
  deriving DecidableEq, Repr

/-- What RESUME names besides the clerk (R118). -/
inductive ResumeTarget | number (n : Nat) | oldest
  deriving DecidableEq, Repr

/-- What VOID TRANSACTION and READ TRANSACTION name (R125, R128). -/
inductive TxnName | byClerk (clerk : Nat) | byNumber (n : Nat)
  deriving DecidableEq, Repr

/-- The fields of CONFIGURE PLATTER, each present or absent (R68). -/
structure PlatterFields where
  max1 : Option Nat
  e1 : Option Nat
  max2 : Option Nat
  e2 : Option Nat
  n : Option Nat
  m : Option Nat
  motionBand : Option Nat
  captureTimeout : Option Nat
  reportInterval : Option Nat
  home : Option Port
  autoTareClear : Option Bool
  deriving DecidableEq, Repr

/-- The fields of CONFIGURE STATION, each present or absent (R113). An outlet field that is present holds an outlet
or "none". -/
structure StationFields where
  primary : Option (Option OutletId)
  fallback : Option (Option OutletId)
  labelEach : Option Bool
  callSet : Option CallSet
  prefixDigit : Option Nat
  step : Option Nat
  deriving DecidableEq, Repr

/-- One entry of CONFIGURE CLASS (R131). -/
structure ClassEntry where
  cls : TicketClass
  enabled : Option Bool
  rank : Option Nat
  waitLimit : Option Nat
  callTimeout : Option Nat
  line : Option (Option DispenserLine)
  edge : Option EdgeSelection
  holdOff : Option Nat
  deriving DecidableEq, Repr

/-- The fields of CONFIGURE OUTLET, each present or absent (R153). -/
structure OutletFields where
  kind : Option OutletKind
  prescale : Option Nat
  limitCount : Option Nat
  mode : Option NoticeMode
  deriving DecidableEq, Repr

/-- A ticket's class and number (R132). -/
structure TicketId where
  cls : TicketClass
  number : Nat
  deriving DecidableEq, Repr

/-- A report on its way to the totals unit, each one posting (R180). -/
inductive TotalsReport
  | captureCompleted (s : Station)
  | labelPrinted (s : Station)
  | labelLost
  | refusal (s : Station)
  deriving DecidableEq, Repr

/-- A value per station. -/
structure PerStation (α : Type) where
  s1 : α
  s2 : α
  s3 : α
  s4 : α
  s5 : α
  s6 : α
  deriving DecidableEq, Repr

/-- The same value for every station. -/
def PerStation.const {α : Type} (x : α) : PerStation α := ⟨x, x, x, x, x, x⟩

/-- A value per port. -/
structure PerPort (α : Type) where
  stations : PerStation α
  office : α
  deriving DecidableEq, Repr

/-- A value per platter. -/
structure PerPlatter (α : Type) where
  w1 : α
  w2 : α
  w3 : α
  w4 : α
  deriving DecidableEq, Repr

/-- A value per outlet. -/
structure PerOutlet (α : Type) where
  p1 : α
  p2 : α
  p3 : α
  p4 : α
  deriving DecidableEq, Repr

/-- A value per ticket class. -/
structure PerClass (α : Type) where
  a : α
  b : α
  c : α
  d : α
  deriving DecidableEq, Repr

/-- A value per dispenser line. -/
structure PerLine (α : Type) where
  d1 : α
  d2 : α
  d3 : α
  d4 : α
  deriving DecidableEq, Repr

/-- The levels of the input lines that a start samples (R1, R151, R170, R62). -/
structure Levels where
  present : PerPort Bool
  outletPresent : PerOutlet Bool
  outletHold : PerOutlet Bool
  dispenser : PerLine Bool
  sealHigh : Bool
  deriving DecidableEq, Repr

/-- The commands: one constructor per row of the table of operations and events. A request carries the port and tag
that hold its slot and its body's fields; every other command is an event on a line, a timer or a device, or the taking
of a message one block has sent another. -/
inductive Instr
  -- links
  | presentLineRises (p : Port)
  | linkReset (p : Port)
  | rateLearningCharacter (p : Port) (lowNs : Nat) (decoded : Byte)
  | frameReceived (p : Port) (bytes : List Byte)
  | frameGapTimeout (p : Port)
  | transmitComplete (p : Port)
  | readStatus (p : Port) (t : Tag)
  | readRefusal (p : Port) (t : Tag) (named : Port)
  | readLink (p : Port) (t : Tag) (named : Port)
  | setThreshold (p : Port) (t : Tag) (value : Nat)
  | setNoticePriority (p : Port) (t : Tag) (kind : NoticeKind) (priority : Nat)
  | setPermissions (p : Port) (t : Tag) (station : Port) (set : PermSet)
  | requestCancellation (p : Port) (t : Tag)
  -- weighing channels
  | sampleArrival (w : Platter) (sample : BitVec 24)
  | silenceTimerExpiry (w : Platter)
  | reportTimerExpiry (w : Platter)
  | readWeight (p : Port) (t : Tag) (w : Platter)
  | presetTare (p : Port) (t : Tag) (w : Platter) (grams : Nat)
  | clearTare (p : Port) (t : Tag) (w : Platter)
  -- platter operations and calibration
  | zero (p : Port) (t : Tag) (w : Platter)
  | tare (p : Port) (t : Tag) (w : Platter)
  | operationTimeout (w : Platter)
  | captureCancellation (w : Platter)
  | captureConsumed (w : Platter)
  | calHold (p : Port) (t : Tag) (w : Platter)
  | calRelease (p : Port) (t : Tag) (w : Platter)
  | calZero (p : Port) (t : Tag) (w : Platter)
  | calSpan (p : Port) (t : Tag) (w : Platter) (loadGrams : Nat)
  | storeWriteEnd (w : Platter) (success : Bool)
  | sealFalls
  | configurePlatter (p : Port) (t : Tag) (w : Platter) (fields : PlatterFields)
  | readCalibration (p : Port) (t : Tag) (w : Platter)
  -- PLU table and stock
  | pluRead (p : Port) (t : Tag) (number : Nat)
  | pluReadNext (p : Port) (t : Tag) (number : Nat)
  | pluWrite (p : Port) (t : Tag) (number : Nat) (fields : PluFields)
  | pluDelete (p : Port) (t : Tag) (number : Nat)
  | pluWithdraw (p : Port) (t : Tag) (number : Nat)
  | pluRestore (p : Port) (t : Tag) (number : Nat)
  | stockLoad (p : Port) (t : Tag) (number : Nat) (quantity : Nat) (watch : WatchLevel)
  | stockLoadNone (p : Port) (t : Tag) (number : Nat)
  -- clerks and transactions
  | clerkWrite (p : Port) (t : Tag) (clerk : Nat) (name : Text) (enabled : Bool)
  | priceItem (p : Port) (t : Tag) (w : Platter) (plu : Nat) (clerk : Nat) (label : LabelChoice)
  | captureTaken (w : Platter)
  | captureRefusalTaken (w : Platter)
  | addCountItem (p : Port) (t : Tag) (plu : Nat) (quantity : Nat) (clerk : Nat) (label : LabelChoice)
  | configureStation (p : Port) (t : Tag) (station : Port) (fields : StationFields)
  | voidLine (p : Port) (t : Tag) (clerk : Nat) (index : Nat)
  | park (p : Port) (t : Tag) (clerk : Nat)
  | resume (p : Port) (t : Tag) (clerk : Nat) (target : ResumeTarget)
  | approve (p : Port) (t : Tag) (number : Nat)
  | closeTransaction (p : Port) (t : Tag) (clerk : Nat) (label : Bool)
  | reprintTotal (p : Port) (t : Tag) (number : Nat)
  | voidTransaction (p : Port) (t : Tag) (name : TxnName)
  | readTransaction (p : Port) (t : Tag) (name : TxnName) (first : Nat)
  | readClerk (p : Port) (t : Tag) (clerk : Nat)
  -- service tickets
  | openBound (ticket : TicketId)
  | discard (ticket : TicketId)
  | boundTxnReport (ticket : TicketId)
  | ticketOutcomeReport (ticket : TicketId)
  | configureClass (p : Port) (t : Tag) (entries : List ClassEntry)
  | issueTicket (p : Port) (t : Tag) (cls : TicketClass)
  | dispenserLineChange (d : DispenserLine) (high : Bool)
  | holdOffExpiry (d : DispenserLine)
  | callNext (p : Port) (t : Tag) (clerk : Nat)
  | callTimerExpiry (ticket : TicketId)
  | recall (p : Port) (t : Tag) (clerk : Nat)
  | skip (p : Port) (t : Tag) (clerk : Nat)
  | reinstate (p : Port) (t : Tag) (ticket : TicketId)
  | readQueue (p : Port) (t : Tag)
  -- outlets
  | lineTaken (o : OutletId)
  | deviceJobDone (o : OutletId)
  | holdAsserted (o : OutletId)
  | holdReleased (o : OutletId)
  | holdTimerExpiry (o : OutletId)
  | resumeOutlet (p : Port) (t : Tag) (o : OutletId)
  | paperOut (o : OutletId)
  | paperReady (o : OutletId)
  | outletPresentFalls (o : OutletId)
  | outletPresentRises (o : OutletId) (hold : Bool)
  | cancelJob (p : Port) (t : Tag) (o : OutletId) (job : Nat)
  | readOutlet (p : Port) (t : Tag) (o : OutletId)
  | configureOutlet (p : Port) (t : Tag) (o : OutletId) (fields : OutletFields)
  -- day totals and watches
  | openDay (p : Port) (t : Tag) (date : Date)
  | closeDay (p : Port) (t : Tag) (mode : CloseMode)
  | totalsReport (report : TotalsReport)
  | readTotals (p : Port) (t : Tag) (sec : Section) (key : Nat)
  | readClosedDay (p : Port) (t : Tag) (sec : Section) (key : Nat)
  | setWatch (p : Port) (t : Tag) (number : Nat) (kind : WatchKind) (target : Nat) (threshold : Nat)
      (action : WatchAction)
  | readWatch (p : Port) (t : Tag)
  -- clock and starts
  | setClock (p : Port) (t : Tag) (date : Date) (time : Time)
  | clockSecond
  | daySecondsAdvance
  | powerUp (backupGood : Bool) (levels : Levels)
  | restart (p : Port) (t : Tag)
  | restartEffects (levels : Levels)
  | sealRises
  deriving DecidableEq, Repr

end Sys2Proof
end

