-- ==== Sys2Proof/Config.lean ====
section
/-! DEFINITION. The capacities and fixed figures the spec gives the part, and the free values: constants without a
body, each standing for a figure the spec leaves open. -/

namespace Sys2Proof.Config

/-- Request slots of one link (section "Figures shared by all chapters", R7). -/
def slotsPerLink : Nat := 4
/-- Good frames the receive buffer of one link holds (R4). -/
def receiveBuffer : Nat := 2
/-- Notices the queue of one port holds (R16). -/
def noticeQueue : Nat := 16
/-- Cap of each link count and of the refusal count (R5, R13). -/
def linkCountCap : Nat := 65535
/-- Cap of the dropped-notice count (R16). -/
def droppedCap : Nat := 255
/-- PLU records the table holds (R71). -/
def pluRecords : Nat := 1000
/-- PARKED transactions the parked list holds (R105). -/
def parkedPlaces : Nat := 8
/-- Lines a transaction holds, voided ones counted (R105). -/
def linesPerTxn : Nat := 40
/-- Entries of the closed list (R123). -/
def closedPlaces : Nat := 8
/-- Upper end of a line amount and of a code's amount digits (R92, R96). -/
def lineAmountMax : Nat := 99999
/-- Upper end of a subtotal (R106). -/
def subtotalMax : Nat := 9999999
/-- Tickets the missed list holds (R144). -/
def missedPlaces : Nat := 8
/-- Entries of the recent-calls list (R146). -/
def recentPlaces : Nat := 4
/-- Jobs of one outlet's queue (R152). -/
def jobQueue : Nat := 8
/-- Lines of one outlet's line queue (R152). -/
def lineQueue : Nat := 4
/-- Entries of the PLU totals table (R181). -/
def pluTotals : Nat := 1000
/-- Cap of amounts, weights and the wait sum of the accumulators (R175). -/
def amountCap : Nat := 999999999
/-- Cap of every count of the accumulators and of the day record (R171, R175). -/
def countCap : Nat := 999999
/-- Cap of the calibration counter (R67). -/
def calibrationCounterCap : Nat := 65535
/-- The calibration history's widest spread at a calibration-stable evaluation, in counts (R63). -/
def calibrationSpread : Int := 64
/-- The lowest span K a CAL SPAN may write, in counts (R65). -/
def spanMin : Int := 100000
/-- The silence timer's period in ms (R23). -/
def silenceMs : Nat := 500
/-- Upper end of the issue counter and of the capture request number (R109, R133). -/
def sequenceMax : Nat := 4294967295
/-- Where the day-seconds counter stops (R190). -/
def daySecondsMax : Nat := 999999

/-- FREE VALUE. How much of a running timer is left at the n-th reading of one: the model counts no milliseconds, so
the remaining time that READ OUTLET and READ QUEUE report (R150, R169) is open below the timer's period. -/
opaque timeLeft : Nat → Nat

/-- FREE VALUE. The threshold bytes of a WATCH_FIRED notice of kind PLU_SALE: section 11.5 sends four bytes and R184
gives the kind no threshold. -/
opaque pluSaleThreshold : Nat

end Sys2Proof.Config
end

