-- ==== Sys2Proof/Machine/Records.lean ====
section
/-! DEFINITION. The records the IFD-64's blocks keep, the notices and replies they compose, and the messages they send
each other: the types that the state is made of. -/

namespace Sys2Proof.Machine

/-- A timer: stopped, or running with the period it was last started at (ms; seconds for a call timer). The model
counts no time of its own: an expiry is a command. -/
abbrev Timer := Option Nat

/-- A calendar date and time (R188). -/
structure DateTime where
  date : Date
  time : Time
  deriving DecidableEq, Repr

/-- The result codes of section 11.7. -/
inductive Result
  | ok | busy | tagInUse | badRequest | denied | badValue | noSuch | dayClosed | dayOpen | clockUnset | tableFull
  | inUse | withdrawn | notReady | motion | reweigh | overload | underload | belowMin | negative | tareLimit | zeroRange
  | platterBusy | held | sealed | badSpan | storeFault | priceLimit | stock | txnGone | txnFull | openTxn | hasLines
  | hasNoLines | approval | inService | queueEmpty | limit | noOutlet | cancelled
  deriving DecidableEq, Repr

/-! ### Weighing channels and calibration store -/

/-- The eight platter states (R27). -/
inductive PlatterState | uncalibrated | zeroing | motion | stable | overload | underload | fault | held
  deriving DecidableEq, Repr

/-- The kind of a platter's tare (R33). -/
inductive TareKind | none | weighed | preset
  deriving DecidableEq, Repr

/-- The metrology settings, in g (R19, R66). -/
structure Metrology where
  max1 : Nat
  e1 : Nat
  max2 : Nat
  e2 : Nat
  deriving DecidableEq, Repr

/-- One platter's record of the calibration store (R66): Z and K in counts, L in mg. -/
structure StoreRecord where
  met : Metrology
  z : Option Int
  k : Option Int
  l : Option Nat
  valid : Bool
  counter : Nat
  deriving DecidableEq, Repr

/-- The working settings of a platter, held in the retained domain (R19). -/
structure WorkingSettings where
  n : Nat
  m : Nat
  motionBand : Nat
  captureTimeout : Nat
  reportInterval : Nat
  home : Station
  autoTareClear : Bool
  deriving DecidableEq, Repr

/-- The four weight fields of a report, present in MOTION and STABLE (R39), in g. -/
structure Weights where
  gross : Int
  net : Int
  tare : Nat
  division : Nat
  deriving DecidableEq, Repr

/-- The fields of a weight report (R39). -/
structure Report where
  platter : Platter
  state : PlatterState
  weights : Option Weights
  tareKind : TareKind
  zeroCentre : Bool
  interlock : Bool
  deriving DecidableEq, Repr

/-- Where a reply goes: the port and tag of its request, and the request's code. -/
structure Requester where
  port : Port
  tag : Tag
  code : Byte
  deriving DecidableEq, Repr

/-- The kind of an entry of the operation slot (R49). -/
inductive OpKind | zero | tare | capture | calZero | calSpan | configure
  deriving DecidableEq, Repr

/-- The phase of an entry of the operation slot (R49). A WRITING entry holds the record being written, and for a
CONFIGURE PLATTER the fields whose working part takes effect at the write's end (R67, R68). -/
inductive OpPhase
  | waiting
  | writing (record : StoreRecord) (working : Option PlatterFields)
  deriving DecidableEq, Repr

/-- The last unmet condition of a waiting operation (R49). -/
inductive Unmet | notReady | motion | reweigh | overload | underload
  deriving DecidableEq, Repr

/-- An entry of the operation slot (R49): `port` and `tag` are those of the request that led to it, for a CAPTURE of the
PRICE ITEM. `replyTo` is where the entry's own reply goes: absent for a CAPTURE, whose outcome goes to the transaction
table, and once the request was cancelled (R52). -/
structure OpEntry where
  kind : OpKind
  port : Port
  tag : Tag
  replyTo : Option Requester
  captureRequest : Nat
  loadGrams : Nat
  phase : OpPhase
  timer : Timer
  lastUnmet : Unmet
  deriving DecidableEq, Repr

/-- One weighing channel (section 2.1) with its record of the calibration store. Fine values, Zi, Zp, the tare and the
interlock reference are in mg; the window and the calibration history in counts. -/
structure Channel where
  window : List Int
  sum : Int
  extremes : Nat
  fine : Option Int
  history : List Int
  calHistory : List Int
  zi : Option Int
  zp : Int
  tare : Nat
  tareKind : TareKind
  consumedSinceTare : Bool
  state : PlatterState
  zeroAlert : Bool
  silence : Timer
  lastSent : Option Report
  reportTimer : Timer
  reportPending : Bool
  interlock : Bool
  interlockRef : Int
  slot : Option OpEntry
  holdOwner : Option Port
  pendingGrant : Option Requester
  openCapture : Option (Nat × Int)
  nextCapture : Nat
  working : WorkingSettings
  record : StoreRecord
  deriving DecidableEq, Repr

/-- A capture record (R55): fine weights in mg, the rest in g. -/
structure CaptureRecord where
  number : Nat
  platter : Platter
  grossFine : Int
  netFine : Int
  net : Int
  division : Nat
  tare : Nat
  tareKind : TareKind
  met : Metrology
  request : Nat
  deriving DecidableEq, Repr

/-! ### PLU table -/

/-- A stock account (R77). -/
structure Stock where
  loaded : Nat
  remaining : Nat
  held : Nat
  sold : Nat
  watch : Option Nat
  lowNotified : Bool
  deriving DecidableEq, Repr

/-- A PLU record (R70). -/
structure PluRecord where
  number : Nat
  fields : PluFields
  active : Bool
  openLines : Nat
  stock : Option Stock
  deriving DecidableEq, Repr

/-! ### Jobs -/

/-- The kind of a job (R86). -/
inductive JobKind | item | total | ticket | display
  deriving DecidableEq, Repr

/-- A composed job (R86). -/
structure Job where
  kind : JobKind
  copy : Bool
  origin : Option Port
  lines : List Text
  deriving DecidableEq, Repr

/-! ### Transaction table -/

/-- Where an applied tare came from (R88). -/
inductive TareSource | platter | plu
  deriving DecidableEq, Repr

/-- A transaction's line (R106), with the pack date and the sell-by date that R88 copies into it (log entry 40). -/
structure Line where
  index : Nat
  plu : Nat
  name : Text
  department : Nat
  kind : PluKind
  quantity : Nat
  division : Option Nat
  tare : Option (Nat × TareSource)
  unitPrice : Nat
  promotion : Bool
  amount : Nat
  packed : Date
  sellBy : Option Date
  capture : Option (Platter × Nat)
  station : Port
  label : Option (OutletId × Nat)
  voided : Bool
  deriving DecidableEq, Repr

/-- A transaction's approval state (R119). -/
inductive Approval | none | required | granted
  deriving DecidableEq, Repr

/-- A held transaction (R105); it is PARKED when `parkedAt` is present and OPEN otherwise. -/
structure Txn where
  number : Nat
  clerk : ClerkNo
  ticket : Option TicketId
  approval : Approval
  lines : List Line
  subtotal : Nat
  itemCount : Nat
  openedAt : DateTime
  parkedAt : Option DateTime
  lastStation : Port
  deriving DecidableEq, Repr

/-- An entry of the closed list (R123). -/
structure ClosedEntry where
  number : Nat
  clerk : ClerkNo
  clerkName : Text
  ticket : Option TicketId
  subtotal : Nat
  itemCount : Nat
  lines : List Line
  closedAt : DateTime
  port : Port
  deriving DecidableEq, Repr

/-- A clerk record (R103). -/
structure Clerk where
  name : Text
  enabled : Bool
  openTxn : Option Nat
  lastStation : Option Port
  deriving DecidableEq, Repr

/-- An entry of the in-flight list: a PRICE ITEM awaiting its capture (R109). -/
structure InFlight where
  requester : Requester
  request : Nat
  platter : Platter
  plu : Nat
  clerk : ClerkNo
  label : LabelChoice
  target : Option Nat
  day : Nat
  deriving DecidableEq, Repr

/-- A station's outlet settings (R113). -/
structure OutletRouting where
  primary : Option OutletId
  fallback : Option OutletId
  labelEach : Bool
  deriving DecidableEq, Repr

/-- The transaction table (R103, R105, R107, R109, R113, R123). -/
structure TxnTable where
  clerks : Vector Clerk 16
  held : List Txn
  parked : List Nat
  closed : List ClosedEntry
  nextNumber : Nat
  inFlight : List InFlight
  nextRequest : Nat
  routing : PerStation OutletRouting
  deriving DecidableEq, Repr

/-! ### Ticket queue -/

/-- A ticket (R132). The reinstated flag is held as the turn at which the ticket was reinstated, so that the head part
of a waiting list can be kept in that order (R138). -/
structure Ticket where
  id : TicketId
  seq : Nat
  issuedAt : Nat
  reinstated : Option Nat
  calledAt : Option Nat
  deriving DecidableEq, Repr

/-- The bound state of a CALLED ticket (R132). -/
inductive BoundState | openEmpty | openWithLines | parked
  deriving DecidableEq, Repr

/-- A CALLED ticket (R132). -/
structure CalledTicket where
  ticket : Ticket
  recalls : Nat
  txn : Nat
  station : Port
  bound : BoundState
  timer : Timer
  deriving DecidableEq, Repr

/-- A class record (R130). -/
structure ClassRecord where
  enabled : Bool
  rank : Nat
  waitLimit : Nat
  callTimeout : Nat
  line : Option DispenserLine
  edge : EdgeSelection
  holdOff : Nat
  next : Nat
  waiting : List Ticket
  deriving DecidableEq, Repr

/-- A dispenser line: the level last seen and its hold-off timer (R137). -/
structure DispenserState where
  level : Bool
  holdOff : Timer
  deriving DecidableEq, Repr

/-- A CALL NEXT between its opening test and its open bound: the ticket it chose, the order's clerk and port, and where
its reply goes (R139). -/
structure Call where
  ticket : Ticket
  clerk : ClerkNo
  port : Port
  replyTo : Requester
  deriving DecidableEq, Repr

/-- The ticket queue (R130 to R147). -/
structure TicketQueue where
  classes : PerClass ClassRecord
  calls : List Call
  called : List CalledTicket
  missed : List Ticket
  recent : List (TicketId × Port)
  issueCounter : Nat
  reinstateTurn : Nat
  lines : PerLine DispenserState
  callSets : PerStation CallSet
  deriving DecidableEq, Repr

/-! ### Outlets -/

/-- The six outlet states (R152). -/
inductive OutletState | offline | ready | printing | held | stalled | noPaper
  deriving DecidableEq, Repr

/-- A job in an outlet's queue (R154). -/
structure QueuedJob where
  id : Nat
  job : Job
  moved : Nat
  taken : Nat
  started : Bool
  passes : Nat
  cancelWaiting : Bool
  cancels : List Requester
  deriving DecidableEq, Repr

/-- A line on its way to a device, with its first-line and last-line markers (R158). -/
structure PrintLine where
  text : Text
  first : Bool
  last : Bool
  deriving DecidableEq, Repr

/-- What an outlet sends its device: a line, or "abort job" (R158, R167). -/
inductive DeviceSignal | line (l : PrintLine) | abortJob
  deriving DecidableEq, Repr

/-- One outlet (R152). `transfer` is set while the first line of the line queue is the line in transfer;
`completed` counts the jobs completed since the queue was last empty (R160); `labelCount` is the retained queued label
count (R191); `sent` lists what went to the device since the last start, newest first. -/
structure Outlet where
  kind : OutletKind
  prescale : Nat
  limitCount : Nat
  mode : NoticeMode
  stalls : Nat
  state : OutletState
  present : Bool
  hold : Bool
  paperOut : Bool
  jobs : List QueuedJob
  lineQueue : List PrintLine
  transfer : Bool
  holdTimer : Timer
  nextId : Nat
  completed : Nat
  labelCount : Nat
  sent : List DeviceSignal
  deriving DecidableEq, Repr

/-! ### Totals unit -/

/-- Ticket tallies of one class in the grand record (R175). -/
structure ClassTally where
  issued : Nat
  served : Nat
  missed : Nat
  abandoned : Nat
  deriving DecidableEq, Repr

/-- The grand record (R175). -/
structure GrandRecord where
  transactions : Nat
  items : Nat
  weight : Nat
  amount : Nat
  voids : Nat
  voidAmount : Nat
  lineVoids : Nat
  noSale : Nat
  classes : PerClass ClassTally
  waitSum : Nat
  waitCount : Nat
  saturated : Bool
  deriving DecidableEq, Repr

/-- A department record (R175). -/
structure DepartmentRecord where
  items : Nat
  amount : Nat
  saturated : Bool
  deriving DecidableEq, Repr

/-- A clerk's totals record (R175). -/
structure ClerkTotals where
  transactions : Nat
  items : Nat
  amount : Nat
  voids : Nat
  voidAmount : Nat
  lineVoids : Nat
  saturated : Bool
  deriving DecidableEq, Repr

/-- A station record (R175). -/
structure StationRecord where
  captures : Nat
  labels : Nat
  refusals : Nat
  saturated : Bool
  deriving DecidableEq, Repr

/-- An entry of the PLU totals table (R181). -/
structure PluTotal where
  plu : Nat
  count : Nat
  weight : Nat
  amount : Nat
  saturated : Bool
  deriving DecidableEq, Repr

/-- The accumulators (R175). -/
structure Accumulators where
  grand : GrandRecord
  departments : Vector DepartmentRecord 16
  clerks : Vector ClerkTotals 16
  stations : PerStation StationRecord
  plus : List PluTotal
  deriving DecidableEq, Repr

/-- What the day record holds only while the day is OPEN (R171). -/
structure OpenDay where
  date : Date
  openedAt : DateTime
  deriving DecidableEq, Repr

/-- The day record (R171): the day is OPEN when `opened` is present. -/
structure DayRecord where
  opened : Option OpenDay
  number : Nat
  postings : Nat
  forcedVoids : Nat
  labelsLost : Nat
  refusals : Nat
  saturated : Bool
  deriving DecidableEq, Repr

/-- The snapshot of the last closed day (R183). -/
structure Snapshot where
  day : DayRecord
  acc : Accumulators
  mode : CloseMode
  closedAt : DateTime
  deriving DecidableEq, Repr

/-- A watch's condition: its kind with the target and threshold the kind has (R184). -/
inductive WatchCondition
  | off
  | pluSale (plu : Nat)
  | txnAmount (threshold : Nat)
  | clerkAmount (clerk : ClerkNo) (threshold : Nat)
  | queueLength (cls : TicketClass) (threshold : Nat)
  deriving DecidableEq, Repr

/-- A watch record (R184). -/
structure Watch where
  cond : WatchCondition
  action : WatchAction
  armed : Bool
  fires : Nat
  deriving DecidableEq, Repr

/-- The totals unit (R171, R175, R183, R184). -/
structure Totals where
  day : DayRecord
  acc : Accumulators
  snapshot : Option Snapshot
  watches : Vector Watch 4
  deriving DecidableEq, Repr

/-! ### Clock and retention -/

/-- The kind of the last start (R17, R193). -/
inductive StartKind | cold | warm | restart
  deriving DecidableEq, Repr

/-- The calendar clock, the day-seconds counter and the kind of the last start (R188, R190, R193). -/
structure Clock where
  now : DateTime
  unset : Bool
  daySeconds : Nat
  lastStart : StartKind
  deriving DecidableEq, Repr

/-! ### Notices and replies -/

/-- The reason of a PLATTER_ALERT (R28). -/
inductive AlertReason | fault | overload | underload | uncalibrated | zeroRange
  deriving DecidableEq, Repr

/-- The cause of a QUEUE_CHANGE (R148). -/
inductive QueueCause | issue | call | reinstate | close
  deriving DecidableEq, Repr

/-- The action a CALL_EXPIRED reports (R143). -/
inductive ExpiryAction | recall | skip
  deriving DecidableEq, Repr

/-- The cause of a DAY_STATE (R172, R174). -/
inductive DayCause | opened | closeNormal | closeForce
  deriving DecidableEq, Repr

/-- A notice, with the fields of its kind (section 11.5). -/
inductive Notice
  | weight (r : Report)
  | platterAlert (w : Platter) (reason : AlertReason) (after : PlatterState)
  | queueChange (cls : TicketClass) (cause : QueueCause) (waiting : Nat) (head : Option Nat)
  | callExpired (ticket : TicketId) (txn : Nat) (action : ExpiryAction) (recalls : Nat)
  | jobDone (o : OutletId) (job : Nat) (kind : JobKind) (copy : Bool)
  | outletDrained (o : OutletId) (completed : Nat)
  | outletState (o : OutletId) (before after : OutletState) (jobs : Nat) (head : Option (Nat × Nat)) (stalls : Nat)
  | stockLow (plu remaining held watch : Nat)
  | watchFired (number : Nat) (cond : WatchCondition) (value : Nat) (txn : Option Nat) (fires : Nat)
  | approvalNeeded (txn : Nat) (clerk : ClerkNo) (subtotal : Nat) (watches : List Nat)
  | dayState (isOpen : Bool) (number : Nat) (date : Date) (cause : DayCause) (forced : Nat)
  deriving DecidableEq, Repr

/-- What became of a label: queued with its outlet and job id, not asked, or not queued (R111). -/
inductive LabelStatus | queued (o : OutletId) (job : Nat) | notAsked | notQueued
  deriving DecidableEq, Repr

/-- The states of a link (R1). -/
inductive LinkState | down | learn | up
  deriving DecidableEq, Repr

/-- The four rates a link can learn (R2). -/
inductive Rate | r19200 | r38400 | r57600 | r115200
  deriving DecidableEq, Repr

/-- What READ STATUS replies (R17). -/
structure StatusView where
  lastStart : StartKind
  now : DateTime
  clockUnset : Bool
  opened : Option Date
  dayNumber : Nat
  links : PerPort LinkState
  platters : PerPlatter (PlatterState × Option Port)
  outlets : PerOutlet OutletState
  permissions : PermSet
  threshold : Nat
  notices : Nat
  dropped : Nat
  slots : Nat
  deriving DecidableEq, Repr

/-- A port's last refusal (R13). -/
structure RefusalRecord where
  code : Byte
  tag : Tag
  result : Result
  at_ : DateTime
  daySeconds : Nat
  deriving DecidableEq, Repr

/-- What READ LINK replies (R5). -/
structure LinkView where
  state : LinkState
  rate : Option Rate
  rateError : Bool
  good : Nat
  checkErrors : Nat
  overruns : Nat
  deriving DecidableEq, Repr

/-- What READ CALIBRATION replies (R69). -/
structure CalibrationView where
  record : StoreRecord
  writing : Bool
  sealHigh : Bool
  holdOwner : Option Port
  pending : Option Port
  deriving DecidableEq, Repr

/-- The head ticket of a class as READ QUEUE shows it (R150). -/
structure HeadView where
  number : Nat
  issuedAt : Nat
  seq : Nat
  reinstated : Bool
  overdue : Bool
  deriving DecidableEq, Repr

/-- A class as READ QUEUE shows it (R150). -/
structure ClassView where
  enabled : Bool
  rank : Nat
  waitLimit : Nat
  callTimeout : Nat
  next : Nat
  waiting : Nat
  head : Option HeadView
  deriving DecidableEq, Repr

/-- A CALLED ticket as READ QUEUE shows it (R150); `left` is absent for "stopped". -/
structure CalledView where
  ticket : TicketId
  txn : Nat
  station : Port
  recalls : Nat
  bound : BoundState
  left : Option Nat
  deriving DecidableEq, Repr

/-- What READ QUEUE replies (R150). -/
structure QueueView where
  classes : PerClass ClassView
  missed : List (TicketId × Nat)
  recent : List (TicketId × Port)
  called : List CalledView
  issueCounter : Nat
  callSet : CallSet
  deriving DecidableEq, Repr

/-- A job as READ OUTLET shows it (R169). -/
structure JobView where
  id : Nat
  kind : JobKind
  copy : Bool
  origin : Option Port
  lineCount : Nat
  taken : Nat
  passes : Nat
  cancelWaiting : Bool
  deriving DecidableEq, Repr

/-- What READ OUTLET replies (R169). -/
structure OutletView where
  kind : OutletKind
  prescale : Nat
  limitCount : Nat
  limitMs : Nat
  mode : NoticeMode
  state : OutletState
  present : Bool
  hold : Bool
  paperOut : Bool
  left : Option Nat
  jobs : List JobView
  lineQueue : Nat
  transfer : Bool
  stalls : Nat
  nextId : Nat
  deriving DecidableEq, Repr

/-- One section of a totals reading (R182, R183). The DAY section of READ CLOSED DAY adds the close's mode and time;
the GRAND section carries the mean wait beside the record. -/
inductive SectionView
  | day (d : DayRecord) (close : Option (CloseMode × DateTime))
  | grand (g : GrandRecord) (meanWait : Nat)
  | department (ds : Vector DepartmentRecord 16)
  | clerk (rows : List (ClerkNo × ClerkTotals)) (follows : Bool)
  | station (ss : PerStation StationRecord)
  | plu (rows : List PluTotal) (follows : Bool)
  deriving DecidableEq, Repr

/-- What a reply carries after its result code: nothing, or the fields its request's rule names (R196). -/
inductive Payload
  | empty
  | status (v : StatusView)
  | refusal (r : Option RefusalRecord) (count : Nat)
  | link (v : LinkView)
  | report (r : Report)
  | tareApplied (grams : Nat)
  | calibration (v : CalibrationView)
  | pluRecord (r : PluRecord)
  | pluWritten (replaced : Bool)
  | stock (a : Stock)
  | lineAdded (txn index amount subtotal : Nat) (approval : Approval) (label : LabelStatus)
  | lineVoided (subtotal itemCount : Nat)
  | parked (txn : Nat)
  | resumed (txn subtotal : Nat) (approval : Approval)
  | closed (txn subtotal itemCount : Nat) (label : LabelStatus)
  | reprinted (o : OutletId) (job : Nat)
  | voided (txn subtotal : Nat)
  | heldTxn (t : Txn) (lineCount : Nat)
  | closedTxn (e : ClosedEntry) (lineCount : Nat)
  | clerk (number : Nat) (r : Clerk) (parked : List Nat)
  | called (ticket : TicketId) (txn recalls : Nat)
  | recalled (ticket : TicketId) (recalls : Nat)
  | skipped (ticket : TicketId)
  | reinstated (ticket : TicketId) (place : Nat)
  | issued (ticket : TicketId) (seq ahead : Nat)
  | queue (v : QueueView)
  | outlet (v : OutletView)
  | outletState (s : OutletState)
  | dayOpened (number : Nat) (date : Date)
  | dayClosed (number forced : Nat)
  | totals (postings : Nat) (v : SectionView)
  | watches (ws : Vector Watch 4)
  deriving DecidableEq, Repr

/-- A reply: its request's tag and code, its result, its fields, and the moment it was produced (R11, R13). -/
structure Reply where
  tag : Tag
  code : Byte
  result : Result
  payload : Payload
  at_ : DateTime
  daySeconds : Nat
  deriving DecidableEq, Repr

/-! ### Link controller -/

/-- Where the request in a slot stands: on its way to its block, taken by it, or answered (R7, R11). -/
inductive SlotPhase | admitted | taken | ready
  deriving DecidableEq, Repr

/-- A request slot (R7). The request tells its code and its owning block; `order` is the place of its admission among
those of all links, in which requests reach a block. -/
structure Slot where
  tag : Tag
  request : Instr
  phase : SlotPhase
  order : Nat
  deriving DecidableEq, Repr

/-- A good frame of the receive buffer; `refused` is set while its admission refusal waits to be sent (R4, R7). -/
structure Frame where
  tag : Tag
  code : Byte
  body : List Byte
  refused : Bool
  deriving DecidableEq, Repr

/-- A reply waiting for the transmitter, from a slot or from an admission refusal (R12). -/
structure ReadyReply where
  fromSlot : Bool
  reply : Reply
  deriving DecidableEq, Repr

/-- The frame the transmitter is sending (R12); a notice carries the dropped count of that moment (R16). -/
inductive Transmission
  | reply (r : ReadyReply)
  | notice (n : Notice) (dropped : Nat)
  deriving DecidableEq, Repr

/-- One link (section 1.1). `rx` holds the bytes of the frame being collected, from its start byte on. -/
structure Link where
  state : LinkState
  rate : Option Rate
  rateError : Bool
  rx : List Byte
  buffer : List Frame
  slots : List Slot
  ready : List ReadyReply
  tx : Option Transmission
  notices : List Notice
  dropped : Nat
  threshold : Nat
  good : Nat
  checkErrors : Nat
  overruns : Nat
  refusal : Option RefusalRecord
  refusalCount : Nat
  deriving DecidableEq, Repr

/-- The priority of each notice kind (R14). -/
structure Priorities where
  weight : Nat
  platterAlert : Nat
  queueChange : Nat
  callExpired : Nat
  jobDone : Nat
  outletDrained : Nat
  outletState : Nat
  stockLow : Nat
  watchFired : Nat
  approvalNeeded : Nat
  dayState : Nat
  deriving DecidableEq, Repr

/-- Where a RESTART stands: none, its reply on its way, or its effects due (R194). -/
inductive RestartPhase | idle | replying (t : Tag) | due
  deriving DecidableEq, Repr

/-- The link controller: the links, the permission sets, the priorities, and the stop of admission by a RESTART. -/
structure LinkController where
  links : PerPort Link
  permissions : PerStation PermSet
  priorities : Priorities
  restart : RestartPhase
  deriving DecidableEq, Repr

/-! ### Messages between blocks -/

/-- A cancellation on its way to the block that owns the dropped request (R6). While `untaken` is set the request itself
is still on its way there too, ahead of the cancellation or behind it, at its place `order` among the admissions.
`session` tells apart the cancellations of several resets of one port. -/
structure Cancellation where
  port : Port
  tag : Tag
  request : Instr
  session : Nat
  untaken : Bool
  order : Nat
  deriving DecidableEq, Repr

/-- A capture refusal on its way to the transaction table (R51). -/
structure CaptureRefusal where
  platter : Platter
  request : Nat
  result : Result
  deriving DecidableEq, Repr

/-- A discard order on its way to the transaction table: from SKIP, with its reply's address, or from an automatic
skip (R143, R145). -/
structure DiscardOrder where
  ticket : TicketId
  txn : Nat
  automatic : Bool
  replyTo : Option Requester
  deriving DecidableEq, Repr

/-- What the transaction table reports of a bound transaction still in hand (R127). -/
inductive BoundReport | firstLine | parked | resumed (empty : Bool)
  deriving DecidableEq, Repr

/-- What the transaction table reports of a bound transaction that has gone (R127). -/
inductive TicketOutcome | sale | noSale | abandoned
  deriving DecidableEq, Repr

/-- A report on its way from the transaction table to the ticket queue. -/
inductive TicketReport | bound (r : BoundReport) | outcome (o : TicketOutcome)
  deriving DecidableEq, Repr

/-- The messages that one block has sent and another has not taken yet, oldest first in each list. -/
structure Transit where
  cancellations : List Cancellation
  captures : List CaptureRecord
  captureRefusals : List CaptureRefusal
  captureCancels : List (Platter × Nat)
  consumptions : List (Platter × Nat)
  discards : List DiscardOrder
  ticketReports : List (TicketId × TicketReport)
  totals : List TotalsReport
  deriving DecidableEq, Repr

/-- The two store-wide settings of the pricing unit (R87). -/
structure PricingSettings where
  prefixDigit : Nat
  step : Nat
  deriving DecidableEq, Repr

end Sys2Proof.Machine
end

