-- ==== Sys2Proof/Machine/Defaults.lean ====
section
/-! DEFINITION. The values each block's records hold right after a start: the cold-start defaults of the retained items
and the start values of the volatile ones. -/

namespace Sys2Proof.Machine

/-- The calendar clock's cold-start value (R188). -/
def clockStart : DateTime := ⟨⟨2000, 1, 1⟩, ⟨0, 0, 0⟩⟩

/-- A link after a start: DOWN, or LEARN where its present line is high (R1, R18). Refusal record and count are those
given. -/
def Link.started (present : Bool) (refusal : Option RefusalRecord) (refusalCount : Nat) : Link where
  state := if present then .learn else .down
  rate := none
  rateError := false
  rx := []
  buffer := []
  slots := []
  ready := []
  tx := none
  notices := []
  dropped := 0
  threshold := 1
  good := 0
  checkErrors := 0
  overruns := 0
  refusal := refusal
  refusalCount := refusalCount

/-- The default priorities (R14). -/
def Priorities.default : Priorities where
  weight := 2
  platterAlert := 5
  queueChange := 2
  callExpired := 4
  jobDone := 3
  outletDrained := 3
  outletState := 5
  stockLow := 4
  watchFired := 4
  approvalNeeded := 6
  dayState := 6

/-- A cold start's permission set: WEIGH, SELL, TICKETS and OUTLETS (R10). -/
def defaultPermissions : PermSet := 0b00001111

/-- The record of a store that has never been written (R66). -/
def StoreRecord.blank : StoreRecord where
  met := ⟨6000, 2, 6000, 2⟩
  z := none
  k := none
  l := none
  valid := false
  counter := 0

/-- The cold-start working settings of the platter whose home station is given (R19). -/
def WorkingSettings.default (home : Station) : WorkingSettings where
  n := 8
  m := 6
  motionBand := 2
  captureTimeout := 3000
  reportInterval := 200
  home := home
  autoTareClear := false

/-- A channel after any start (R47, R55): volatile values as the rule gives them, settings and record as handed over. -/
def Channel.started (working : WorkingSettings) (record : StoreRecord) : Channel where
  window := []
  sum := 0
  extremes := 0
  fine := none
  history := []
  calHistory := []
  zi := none
  zp := 0
  tare := 0
  tareKind := .none
  consumedSinceTare := false
  state := if record.valid then .zeroing else .uncalibrated
  zeroAlert := false
  silence := some Config.silenceMs
  lastSent := none
  reportTimer := none
  reportPending := false
  interlock := false
  interlockRef := 0
  slot := none
  holdOwner := none
  pendingGrant := none
  openCapture := none
  nextCapture := 1
  working := working
  record := record

/-- A clerk at a cold start (R103). -/
def Clerk.cold : Clerk := ⟨[], false, none, none⟩

/-- The transaction table at a cold start (R103, R107, R113, R129). -/
def TxnTable.cold : TxnTable where
  clerks := Vector.replicate 16 Clerk.cold
  held := []
  parked := []
  closed := []
  nextNumber := 1
  inFlight := []
  nextRequest := 1
  routing := .const ⟨some .p1, some .p2, false⟩

/-- A class at a cold start (R130). -/
def ClassRecord.cold (enabled : Bool) (rank : Nat) (line : Option DispenserLine) : ClassRecord where
  enabled := enabled
  rank := rank
  waitLimit := 0
  callTimeout := 60
  line := line
  edge := .rising
  holdOff := 1000
  next := 1
  waiting := []

/-- A dispenser line after any start: its level as sampled, its hold-off stopped (R151). -/
def DispenserState.started (level : Bool) : DispenserState := ⟨level, none⟩

/-- The four dispenser lines after any start (R151). -/
def startedLines (lv : PerLine Bool) : PerLine DispenserState :=
  ⟨.started lv.d1, .started lv.d2, .started lv.d3, .started lv.d4⟩

/-- The ticket queue at a cold start (R130, R147, R151). -/
def TicketQueue.cold (lv : PerLine Bool) : TicketQueue where
  classes := ⟨.cold true 1 (some .d1), .cold false 2 none, .cold false 3 none, .cold false 4 none⟩
  calls := []
  called := []
  missed := []
  recent := []
  issueCounter := 1
  reinstateTurn := 0
  lines := startedLines lv
  callSets := .const 0b0001

/-- An outlet after any start (R156, R170): settings and stall count as handed over, OFFLINE where its present line is
low, otherwise HELD where HOLD is asserted (with the hold timer started at the limit), otherwise READY. -/
def Outlet.started (kind : OutletKind) (prescale limitCount : Nat) (mode : NoticeMode) (stalls : Nat)
    (present hold : Bool) : Outlet where
  kind := kind
  prescale := prescale
  limitCount := limitCount
  mode := mode
  stalls := stalls
  state := if present then (if hold then .held else .ready) else .offline
  present := present
  hold := hold
  paperOut := false
  jobs := []
  lineQueue := []
  transfer := false
  holdTimer := if present && hold then some (prescale * limitCount * 100) else none
  nextId := 1
  completed := 0
  labelCount := 0
  sent := []

/-- An outlet at a cold start (R170). -/
def Outlet.cold (kind : OutletKind) (present hold : Bool) : Outlet := .started kind 8 10 .each 0 present hold

/-- Ticket tallies at zero. -/
def ClassTally.zero : ClassTally := ⟨0, 0, 0, 0⟩

/-- The accumulators after a cold start and after each close: every field 0, every flag clear (R175). -/
def Accumulators.zero : Accumulators where
  grand := ⟨0, 0, 0, 0, 0, 0, 0, 0, ⟨.zero, .zero, .zero, .zero⟩, 0, 0, false⟩
  departments := Vector.replicate 16 ⟨0, 0, false⟩
  clerks := Vector.replicate 16 ⟨0, 0, 0, 0, 0, 0, false⟩
  stations := .const ⟨0, 0, 0, false⟩
  plus := []

/-- The day record at a cold start (R171). -/
def DayRecord.cold : DayRecord := ⟨none, 0, 0, 0, 0, 0, false⟩

/-- A watch at a cold start (R184). -/
def Watch.cold : Watch := ⟨.off, .notice, false, 0⟩

/-- The totals unit at a cold start (R187). -/
def Totals.cold : Totals where
  day := .cold
  acc := .zero
  snapshot := none
  watches := Vector.replicate 4 .cold

/-- No message on its way. -/
def Transit.empty : Transit := ⟨[], [], [], [], [], [], [], []⟩

/-- The links after a start that keeps no refusal record (R18). -/
def coldLinks (lv : PerPort Bool) : PerPort Link where
  stations := ⟨.started lv.stations.s1 none 0, .started lv.stations.s2 none 0, .started lv.stations.s3 none 0,
    .started lv.stations.s4 none 0, .started lv.stations.s5 none 0, .started lv.stations.s6 none 0⟩
  office := .started lv.office none 0

/-- Every sampled input line low (DESIGN CHOICE for reset; unsafe: the spec gives no line level at a start). -/
def lowLevels : Levels where
  present := ⟨.const false, false⟩
  outletPresent := ⟨false, false, false, false⟩
  outletHold := ⟨false, false, false, false⟩
  dispenser := ⟨false, false, false, false⟩
  sealHigh := false

end Sys2Proof.Machine
end

