-- ==== Sys2Proof/Machine/State.lean ====
section
/-! DEFINITION. The state of the IFD-64, the reasons a command could stop, and the state right after reset: a cold start
with every sampled input line low and a calibration store that has never been written. -/

namespace Sys2Proof.Machine

/-- The whole state of the part, and the queue of commands that wait. `timeReadings` counts the readings of running
timers: each reading takes the next free value. -/
structure State where
  pending : List Instr
  link : LinkController
  weigh : PerPlatter Channel
  sealHigh : Bool
  plus : List PluRecord
  pricing : PricingSettings
  txn : TxnTable
  queue : TicketQueue
  outlets : PerOutlet Outlet
  totals : Totals
  clock : Clock
  transit : Transit
  timeReadings : Nat
  deriving DecidableEq, Repr

/-- Why a run would stop with a fault. The spec gives every command of its table an effect in every state, so no
meaning raises one. -/
inductive Fault
  /-- Raised by no meaning (safe: a stop the model never makes). It keeps the type inhabited. -/
  | unreachable
  deriving DecidableEq, Repr

/-- Why the model would refuse a command. -/
inductive Refusal
  /-- Raised by an arm of `exec` whose command has no meaning yet (safe: the run stops there); no arm is left so. -/
  | notModelled (mnemonic : String)
  deriving DecidableEq, Repr

/-- The state right after reset: a cold start (R193) with every retained item at its default and every volatile item at
its start value, every input line low, and a calibration store that has never been written (R66). -/
def State.reset : State where
  pending := []
  link := ⟨coldLinks lowLevels.present, .const defaultPermissions, .default, .idle⟩
  weigh := ⟨.started (.default .s1) .blank, .started (.default .s2) .blank, .started (.default .s3) .blank,
    .started (.default .s4) .blank⟩
  sealHigh := false
  plus := []
  pricing := ⟨0, 1⟩
  txn := .cold
  queue := .cold lowLevels.dispenser
  outlets := ⟨.cold .label false false, .cold .label false false, .cold .ticket false false, .cold .display false false⟩
  totals := .cold
  clock := ⟨clockStart, true, 0, .cold⟩
  transit := .empty
  timeReadings := 0

end Sys2Proof.Machine
end

