-- ==== Sys2Proof/Machine/Tables.lean ====
section
/-! DEFINITION. Reading and writing the tables that hold one value per port, station, platter, outlet, class or line;
the codes of section 11.2 for those names; and small list helpers. -/

namespace Sys2Proof

/-- The value kept for one Station. -/
def PerStation.get {α : Type} (m : PerStation α) : Station → α
  | .s1 => m.s1
  | .s2 => m.s2
  | .s3 => m.s3
  | .s4 => m.s4
  | .s5 => m.s5
  | .s6 => m.s6

/-- The table with one Station's value replaced. -/
def PerStation.set {α : Type} (m : PerStation α) : Station → α → PerStation α
  | .s1, x => { m with s1 := x }
  | .s2, x => { m with s2 := x }
  | .s3, x => { m with s3 := x }
  | .s4, x => { m with s4 := x }
  | .s5, x => { m with s5 := x }
  | .s6, x => { m with s6 := x }

/-- Every Station, in order. -/
def Station.all : List Station := [.s1, .s2, .s3, .s4, .s5, .s6]

/-- The one-byte code of a Station (section 11.2). -/
def Station.code : Station → Nat
  | .s1 => 1
  | .s2 => 2
  | .s3 => 3
  | .s4 => 4
  | .s5 => 5
  | .s6 => 6

/-- The Station a code names. -/
def Station.ofCode : Nat → Option Station
  | 1 => some .s1
  | 2 => some .s2
  | 3 => some .s3
  | 4 => some .s4
  | 5 => some .s5
  | 6 => some .s6
  | _ => none

/-- The value kept for one Platter. -/
def PerPlatter.get {α : Type} (m : PerPlatter α) : Platter → α
  | .w1 => m.w1
  | .w2 => m.w2
  | .w3 => m.w3
  | .w4 => m.w4

/-- The table with one Platter's value replaced. -/
def PerPlatter.set {α : Type} (m : PerPlatter α) : Platter → α → PerPlatter α
  | .w1, x => { m with w1 := x }
  | .w2, x => { m with w2 := x }
  | .w3, x => { m with w3 := x }
  | .w4, x => { m with w4 := x }

/-- Every Platter, in order. -/
def Platter.all : List Platter := [.w1, .w2, .w3, .w4]

/-- The one-byte code of a Platter (section 11.2). -/
def Platter.code : Platter → Nat
  | .w1 => 1
  | .w2 => 2
  | .w3 => 3
  | .w4 => 4

/-- The Platter a code names. -/
def Platter.ofCode : Nat → Option Platter
  | 1 => some .w1
  | 2 => some .w2
  | 3 => some .w3
  | 4 => some .w4
  | _ => none

/-- The value kept for one OutletId. -/
def PerOutlet.get {α : Type} (m : PerOutlet α) : OutletId → α
  | .p1 => m.p1
  | .p2 => m.p2
  | .p3 => m.p3
  | .p4 => m.p4

/-- The table with one OutletId's value replaced. -/
def PerOutlet.set {α : Type} (m : PerOutlet α) : OutletId → α → PerOutlet α
  | .p1, x => { m with p1 := x }
  | .p2, x => { m with p2 := x }
  | .p3, x => { m with p3 := x }
  | .p4, x => { m with p4 := x }

/-- Every OutletId, in order. -/
def OutletId.all : List OutletId := [.p1, .p2, .p3, .p4]

/-- The one-byte code of a OutletId (section 11.2). -/
def OutletId.code : OutletId → Nat
  | .p1 => 1
  | .p2 => 2
  | .p3 => 3
  | .p4 => 4

/-- The OutletId a code names. -/
def OutletId.ofCode : Nat → Option OutletId
  | 1 => some .p1
  | 2 => some .p2
  | 3 => some .p3
  | 4 => some .p4
  | _ => none

/-- The value kept for one TicketClass. -/
def PerClass.get {α : Type} (m : PerClass α) : TicketClass → α
  | .a => m.a
  | .b => m.b
  | .c => m.c
  | .d => m.d

/-- The table with one TicketClass's value replaced. -/
def PerClass.set {α : Type} (m : PerClass α) : TicketClass → α → PerClass α
  | .a, x => { m with a := x }
  | .b, x => { m with b := x }
  | .c, x => { m with c := x }
  | .d, x => { m with d := x }

/-- Every TicketClass, in order. -/
def TicketClass.all : List TicketClass := [.a, .b, .c, .d]

/-- The one-byte code of a TicketClass (section 11.2). -/
def TicketClass.code : TicketClass → Nat
  | .a => 1
  | .b => 2
  | .c => 3
  | .d => 4

/-- The TicketClass a code names. -/
def TicketClass.ofCode : Nat → Option TicketClass
  | 1 => some .a
  | 2 => some .b
  | 3 => some .c
  | 4 => some .d
  | _ => none

/-- The value kept for one DispenserLine. -/
def PerLine.get {α : Type} (m : PerLine α) : DispenserLine → α
  | .d1 => m.d1
  | .d2 => m.d2
  | .d3 => m.d3
  | .d4 => m.d4

/-- The table with one DispenserLine's value replaced. -/
def PerLine.set {α : Type} (m : PerLine α) : DispenserLine → α → PerLine α
  | .d1, x => { m with d1 := x }
  | .d2, x => { m with d2 := x }
  | .d3, x => { m with d3 := x }
  | .d4, x => { m with d4 := x }

/-- Every DispenserLine, in order. -/
def DispenserLine.all : List DispenserLine := [.d1, .d2, .d3, .d4]

/-- The one-byte code of a DispenserLine (section 11.2). -/
def DispenserLine.code : DispenserLine → Nat
  | .d1 => 1
  | .d2 => 2
  | .d3 => 3
  | .d4 => 4

/-- The DispenserLine a code names. -/
def DispenserLine.ofCode : Nat → Option DispenserLine
  | 1 => some .d1
  | 2 => some .d2
  | 3 => some .d3
  | 4 => some .d4
  | _ => none

/-- The value kept for one port. -/
def PerPort.get {α : Type} (m : PerPort α) : Port → α
  | .station s => m.stations.get s
  | .office => m.office

/-- The table with one port's value replaced. -/
def PerPort.set {α : Type} (m : PerPort α) : Port → α → PerPort α
  | .station s, x => { m with stations := m.stations.set s x }
  | .office, x => { m with office := x }

/-- Every port, in order. -/
def Port.all : List Port := Station.all.map .station ++ [.office]

/-- The one-byte code of a port (section 11.2). -/
def Port.code : Port → Nat
  | .station s => s.code
  | .office => 7

/-- The port a code names. -/
def Port.ofCode : Nat → Option Port
  | 7 => some .office
  | n => (Station.ofCode n).map .station

/-- The station behind a port, absent for the office. -/
def Port.station? : Port → Option Station
  | .station s => some s
  | .office => none

/-- The clerk a clerk number names: 1 to 16 (R103). -/
def clerkOf (n : Nat) : Option ClerkNo :=
  if h : 1 ≤ n ∧ n ≤ 16 then some ⟨n - 1, by omega⟩ else none

/-- The clerk's number, 1 to 16. -/
def clerkNumber (c : ClerkNo) : Nat := c.val + 1

/-- The record of a department 1 to 16, as an index 0 to 15 (R70, R175). -/
def departmentIndex (n : Nat) : Fin 16 := Fin.ofNat 16 (n - 1)

/-- The first entry that passes the test, and the list without it. -/
def takeFirst {α : Type} (test : α → Bool) : List α → Option (α × List α)
  | [] => none
  | x :: xs =>
    if test x then some (x, xs)
    else match takeFirst test xs with
      | none => none
      | some (y, ys) => some (y, x :: ys)

/-- The list with the first entry that passes the test changed by `f`. -/
def updateFirst {α : Type} (test : α → Bool) (f : α → α) : List α → List α
  | [] => []
  | x :: xs => if test x then f x :: xs else x :: updateFirst test f xs

/-- The last `n` entries of a list kept oldest first. -/
def lastEntries {α : Type} (n : Nat) (xs : List α) : List α := xs.drop (xs.length - n)

end Sys2Proof
end

