-- ==== Sys2Proof/Machine/Operands.lean ====
section
/-! DEFINITION. The operands of the requests: the request codes with their groups and owning blocks (section 11.6), the
encodings of values (R195), and the body of every request, read into a command and written out again (section 11.4,
R197). -/

namespace Sys2Proof.Machine

/-! ### Request codes, groups and owners -/

/-- The permission groups, in the order of their flags (R8, section 11.6). -/
inductive Group | weigh | sell | tickets | outlets | calibrate | maintain | day | approve
  deriving DecidableEq, Repr

/-- The group's flag in a permission set, WEIGH in the least significant bit (section 11.6). -/
def Group.flag : Group → Nat
  | .weigh => 0
  | .sell => 1
  | .tickets => 2
  | .outlets => 3
  | .calibrate => 4
  | .maintain => 5
  | .day => 6
  | .approve => 7

/-- Who may send a request: any port, the holders of a group, or the office alone (R8). -/
inductive Access | any | group (g : Group) | officeOnly
  deriving DecidableEq, Repr

/-- The access class of each request code (section 11.6); absent for an unknown code. -/
def accessOf (code : Nat) : Option Access :=
  if 0x01 ≤ code ∧ code ≤ 0x06 then some .any
  else if 0x10 ≤ code ∧ code ≤ 0x14 then some (.group .weigh)
  else if 0x20 ≤ code ∧ code ≤ 0x29 then some (.group .sell)
  else if 0x30 ≤ code ∧ code ≤ 0x35 then some (.group .tickets)
  else if 0x40 ≤ code ∧ code ≤ 0x42 then some (.group .outlets)
  else if 0x50 ≤ code ∧ code ≤ 0x54 then some (.group .calibrate)
  else if 0x60 ≤ code ∧ code ≤ 0x6C then some (.group .maintain)
  else if 0x70 ≤ code ∧ code ≤ 0x73 then some (.group .day)
  else if code = 0x78 then some (.group .approve)
  else if code = 0x7E ∨ code = 0x7F then some .officeOnly
  else none

/-- The permission set a port holds (R8): all eight groups for the office. -/
def heldSet (permissions : PerStation PermSet) : Port → PermSet
  | .station s => permissions.get s
  | .office => 0xFF

/-- Whether a port passes the permission check of a request (R8). -/
def Access.passes (permissions : PerStation PermSet) (p : Port) : Access → Bool
  | .any => true
  | .group g => (heldSet permissions p).getLsbD g.flag
  | .officeOnly => p = .office

/-- The blocks that own requests (R7). DESIGN CHOICE (log entry 44): the table of blocks has one row for the weighing
channels W1 to W4 and one for the outlets P1 to P4; each platter's channel and each outlet is a block of its own here. -/
inductive Block | link | weighing (w : Platter) | plu | txn | tickets | outlet (o : OutletId) | totals | clock
  deriving DecidableEq, Repr

/-- A request's port, tag, code and owning block; absent for the commands that are no requests. -/
def requestInfo : Instr → Option (Port × Tag × Nat × Block)
  | .readStatus p t => some (p, t, 0x01, .link)
  | .readRefusal p t _ => some (p, t, 0x02, .link)
  | .readLink p t _ => some (p, t, 0x03, .link)
  | .setThreshold p t _ => some (p, t, 0x04, .link)
  | .pluRead p t _ => some (p, t, 0x05, .plu)
  | .pluReadNext p t _ => some (p, t, 0x05, .plu)
  | .readCalibration p t w => some (p, t, 0x06, .weighing w)
  | .readWeight p t w => some (p, t, 0x10, .weighing w)
  | .zero p t w => some (p, t, 0x11, .weighing w)
  | .tare p t w => some (p, t, 0x12, .weighing w)
  | .presetTare p t w _ => some (p, t, 0x13, .weighing w)
  | .clearTare p t w => some (p, t, 0x14, .weighing w)
  | .priceItem p t _ _ _ _ => some (p, t, 0x20, .txn)
  | .addCountItem p t _ _ _ _ => some (p, t, 0x21, .txn)
  | .voidLine p t _ _ => some (p, t, 0x22, .txn)
  | .park p t _ => some (p, t, 0x23, .txn)
  | .resume p t _ _ => some (p, t, 0x24, .txn)
  | .closeTransaction p t _ _ => some (p, t, 0x25, .txn)
  | .voidTransaction p t _ => some (p, t, 0x26, .txn)
  | .readTransaction p t _ _ => some (p, t, 0x27, .txn)
  | .reprintTotal p t _ => some (p, t, 0x28, .txn)
  | .readClerk p t _ => some (p, t, 0x29, .txn)
  | .callNext p t _ => some (p, t, 0x30, .tickets)
  | .recall p t _ => some (p, t, 0x31, .tickets)
  | .skip p t _ => some (p, t, 0x32, .tickets)
  | .reinstate p t _ => some (p, t, 0x33, .tickets)
  | .issueTicket p t _ => some (p, t, 0x34, .tickets)
  | .readQueue p t => some (p, t, 0x35, .tickets)
  | .readOutlet p t o => some (p, t, 0x40, .outlet o)
  | .cancelJob p t o _ => some (p, t, 0x41, .outlet o)
  | .resumeOutlet p t o => some (p, t, 0x42, .outlet o)
  | .calHold p t w => some (p, t, 0x50, .weighing w)
  | .calZero p t w => some (p, t, 0x51, .weighing w)
  | .calSpan p t w _ => some (p, t, 0x52, .weighing w)
  | .calRelease p t w => some (p, t, 0x53, .weighing w)
  | .configurePlatter p t w _ => some (p, t, 0x54, .weighing w)
  | .pluWrite p t _ _ => some (p, t, 0x60, .plu)
  | .pluDelete p t _ => some (p, t, 0x61, .plu)
  | .pluWithdraw p t _ => some (p, t, 0x62, .plu)
  | .pluRestore p t _ => some (p, t, 0x63, .plu)
  | .stockLoad p t _ _ _ => some (p, t, 0x64, .plu)
  | .stockLoadNone p t _ => some (p, t, 0x64, .plu)
  | .clerkWrite p t _ _ _ => some (p, t, 0x65, .txn)
  | .configureStation p t _ _ => some (p, t, 0x66, .txn)
  | .configureClass p t _ => some (p, t, 0x67, .tickets)
  | .configureOutlet p t o _ => some (p, t, 0x68, .outlet o)
  | .setNoticePriority p t _ _ => some (p, t, 0x69, .link)
  | .setClock p t _ _ => some (p, t, 0x6A, .clock)
  | .setWatch p t _ _ _ _ _ => some (p, t, 0x6B, .totals)
  | .readWatch p t => some (p, t, 0x6C, .totals)
  | .openDay p t _ => some (p, t, 0x70, .totals)
  | .closeDay p t _ => some (p, t, 0x71, .totals)
  | .readTotals p t _ _ => some (p, t, 0x72, .totals)
  | .readClosedDay p t _ _ => some (p, t, 0x73, .totals)
  | .approve p t _ => some (p, t, 0x78, .txn)
  | .setPermissions p t _ _ => some (p, t, 0x7E, .link)
  | .restart p t => some (p, t, 0x7F, .clock)
  | .presentLineRises _ | .linkReset _ | .rateLearningCharacter _ _ _ | .frameReceived _ _ | .frameGapTimeout _
  | .transmitComplete _ | .requestCancellation _ _ | .sampleArrival _ _ | .silenceTimerExpiry _
  | .reportTimerExpiry _ | .operationTimeout _ | .captureCancellation _ | .captureConsumed _ | .storeWriteEnd _ _
  | .sealFalls | .captureTaken _ | .captureRefusalTaken _ | .openBound _ | .discard _ | .boundTxnReport _
  | .ticketOutcomeReport _ | .dispenserLineChange _ _ | .holdOffExpiry _ | .callTimerExpiry _ | .lineTaken _
  | .deviceJobDone _ | .holdAsserted _ | .holdReleased _ | .holdTimerExpiry _ | .paperOut _ | .paperReady _
  | .outletPresentFalls _ | .outletPresentRises _ _ | .totalsReport _ | .clockSecond | .daySecondsAdvance
  | .powerUp _ _ | .restartEffects _ | .sealRises => none

/-- The code of a request, 0 for a command that is none. -/
def requestCode (c : Instr) : Byte :=
  match requestInfo c with
  | some (_, _, code, _) => BitVec.ofNat 8 code
  | none => 0

/-- The block that owns a request, the link controller for a command that is none. -/
def requestOwner (c : Instr) : Block :=
  match requestInfo c with
  | some (_, _, _, owner) => owner
  | none => .link

/-! ### Codes of the remaining enumerations (section 11.2, 11.5, 11.7) -/

/-- The code of a PLU kind. -/
def pluKindCode : PluKind → Nat
  | .byWeight => 1
  | .byCount => 2

/-- The PLU kind a code names. -/
def pluKindOf : Nat → Option PluKind
  | 1 => some .byWeight
  | 2 => some .byCount
  | _ => none

/-- The code of a label choice. -/
def labelCode : LabelChoice → Nat
  | .no => 0
  | .yes => 1
  | .dflt => 2

/-- The label choice a code names. -/
def labelOf : Nat → Option LabelChoice
  | 0 => some .no
  | 1 => some .yes
  | 2 => some .dflt
  | _ => none

/-- The code of a switch. -/
def switchCode (b : Bool) : Nat := if b then 1 else 0

/-- The switch a code names; also the label choice of CLOSE TRANSACTION, NO or YES (section 11.4). -/
def switchOf : Nat → Option Bool
  | 0 => some false
  | 1 => some true
  | _ => none

/-- The code of a close mode. -/
def closeModeCode : CloseMode → Nat
  | .normal => 1
  | .force => 2

/-- The close mode a code names. -/
def closeModeOf : Nat → Option CloseMode
  | 1 => some .normal
  | 2 => some .force
  | _ => none

/-- The code of a totals section. -/
def sectionCode : Section → Nat
  | .day => 1
  | .grand => 2
  | .department => 3
  | .clerk => 4
  | .station => 5
  | .plu => 6

/-- The totals section a code names. -/
def sectionOf : Nat → Option Section
  | 1 => some .day
  | 2 => some .grand
  | 3 => some .department
  | 4 => some .clerk
  | 5 => some .station
  | 6 => some .plu
  | _ => none

/-- The code of an outlet kind. -/
def outletKindCode : OutletKind → Nat
  | .label => 1
  | .ticket => 2
  | .display => 3

/-- The outlet kind a code names. -/
def outletKindOf : Nat → Option OutletKind
  | 1 => some .label
  | 2 => some .ticket
  | 3 => some .display
  | _ => none

/-- The code of a notice mode. -/
def noticeModeCode : NoticeMode → Nat
  | .each => 1
  | .drain => 2

/-- The notice mode a code names. -/
def noticeModeOf : Nat → Option NoticeMode
  | 1 => some .each
  | 2 => some .drain
  | _ => none

/-- The code of an edge selection. -/
def edgeCode : EdgeSelection → Nat
  | .rising => 1
  | .falling => 2
  | .both => 3
  | .off => 4

/-- The edge selection a code names. -/
def edgeOf : Nat → Option EdgeSelection
  | 1 => some .rising
  | 2 => some .falling
  | 3 => some .both
  | 4 => some .off
  | _ => none

/-- The code of a notice kind (section 11.5). -/
def noticeKindCode : NoticeKind → Nat
  | .weight => 1
  | .platterAlert => 2
  | .queueChange => 3
  | .callExpired => 4
  | .jobDone => 5
  | .outletDrained => 6
  | .outletState => 7
  | .stockLow => 8
  | .watchFired => 9
  | .approvalNeeded => 10
  | .dayState => 11

/-- The notice kind a code names. -/
def noticeKindOf : Nat → Option NoticeKind
  | 1 => some .weight
  | 2 => some .platterAlert
  | 3 => some .queueChange
  | 4 => some .callExpired
  | 5 => some .jobDone
  | 6 => some .outletDrained
  | 7 => some .outletState
  | 8 => some .stockLow
  | 9 => some .watchFired
  | 10 => some .approvalNeeded
  | 11 => some .dayState
  | _ => none

/-- The code of a watch kind. -/
def watchKindCode : WatchKind → Nat
  | .off => 0
  | .pluSale => 1
  | .txnAmount => 2
  | .clerkAmount => 3
  | .queueLength => 4

/-- The watch kind a code names. -/
def watchKindOf : Nat → Option WatchKind
  | 0 => some .off
  | 1 => some .pluSale
  | 2 => some .txnAmount
  | 3 => some .clerkAmount
  | 4 => some .queueLength
  | _ => none

/-- The code of a watch action. -/
def watchActionCode : WatchAction → Nat
  | .notice => 1
  | .hold => 2

/-- The watch action a code names. -/
def watchActionOf : Nat → Option WatchAction
  | 1 => some .notice
  | 2 => some .hold
  | _ => none

/-- The code of a field that holds an outlet or "none". -/
def stationOutletCode : Option OutletId → Nat
  | none => 0
  | some o => o.code

/-- The outlet or "none" a code names. -/
def stationOutletOf : Nat → Option (Option OutletId)
  | 0 => some none
  | n => (OutletId.ofCode n).map some

/-- The code of a field that holds a dispenser line or "none". -/
def lineFieldCode : Option DispenserLine → Nat
  | none => 0
  | some d => d.code

/-- The dispenser line or "none" a code names. -/
def lineFieldOf : Nat → Option (Option DispenserLine)
  | 0 => some none
  | n => (DispenserLine.ofCode n).map some

/-- The code of a result (section 11.7). -/
def Result.code : Result → Nat
  | .ok => 0x00
  | .busy => 0x01
  | .tagInUse => 0x02
  | .badRequest => 0x03
  | .denied => 0x04
  | .badValue => 0x05
  | .noSuch => 0x06
  | .dayClosed => 0x07
  | .dayOpen => 0x08
  | .clockUnset => 0x09
  | .tableFull => 0x0A
  | .inUse => 0x0B
  | .withdrawn => 0x0C
  | .notReady => 0x10
  | .motion => 0x11
  | .reweigh => 0x12
  | .overload => 0x13
  | .underload => 0x14
  | .belowMin => 0x15
  | .negative => 0x16
  | .tareLimit => 0x17
  | .zeroRange => 0x18
  | .platterBusy => 0x19
  | .held => 0x1A
  | .sealed => 0x1B
  | .badSpan => 0x1C
  | .storeFault => 0x1D
  | .priceLimit => 0x20
  | .stock => 0x21
  | .txnGone => 0x22
  | .txnFull => 0x23
  | .openTxn => 0x24
  | .hasLines => 0x25
  | .hasNoLines => 0x26
  | .approval => 0x27
  | .inService => 0x28
  | .queueEmpty => 0x30
  | .limit => 0x31
  | .noOutlet => 0x38
  | .cancelled => 0x39

/-! ### Reading values from a body (R195) -/

/-- A reader of the bytes of a body: it takes what it needs and leaves the rest, or finds the body malformed. -/
abbrev Reader := StateT (List Byte) Option

/-- One byte as a number. -/
def readByte : Reader Nat := fun bs =>
  match bs with
  | [] => none
  | b :: rest => some (b.toNat, rest)

/-- An unsigned number of `n` bytes, most significant byte first. -/
def readNumber : Nat → Reader Nat
  | 0 => pure 0
  | n + 1 => do
    let high ← readByte
    let low ← readNumber n
    pure (high * 256 ^ n + low)

/-- An enumerated field: one byte holding one of its values. -/
def readEnum {α : Type} (of : Nat → Option α) : Reader α := do
  let b ← readByte
  match of b with
  | some x => pure x
  | none => failure

/-- `n` characters. -/
def readChars : Nat → Reader Text
  | 0 => pure []
  | n + 1 => do
    let b ← readByte
    let rest ← readChars n
    pure (BitVec.ofNat 8 b :: rest)

/-- A text: one length byte and that many characters. -/
def readText : Reader Text := do
  let n ← readByte
  readChars n

/-- An optional field: a presence byte 00h or 01h, the value after 01h. -/
def readOptional {α : Type} (value : Reader α) : Reader (Option α) := do
  let present ← readEnum switchOf
  if present then some <$> value else pure none

/-- A date. -/
def readDate : Reader Date := do
  let y ← readNumber 2
  let m ← readByte
  let d ← readByte
  pure ⟨y, m, d⟩

/-- A time of day. -/
def readTime : Reader Time := do
  let h ← readByte
  let m ← readByte
  let s ← readByte
  pure ⟨h, m, s⟩

/-- A promotion: price, first date, last date. -/
def readPromotion : Reader Promotion := do
  let price ← readNumber 4
  let first ← readDate
  let last ← readDate
  pure ⟨price, first, last⟩

/-- The fields of PLU WRITE after the PLU number (section 11.4). -/
def readPluFields : Reader PluFields := do
  let name ← readText
  let second ← readOptional readText
  let kind ← readEnum pluKindOf
  let price ← readNumber 4
  let promotion ← readOptional readPromotion
  let department ← readByte
  let tare ← readOptional (readNumber 2)
  let shelf ← readOptional (readNumber 2)
  pure ⟨name, second, kind, price, promotion, department, tare, shelf⟩

/-- The watch level of STOCK LOAD: presence 00h, 01h with a value, or 02h for "keep". -/
def readWatchLevel : Reader WatchLevel := do
  let b ← readByte
  match b with
  | 0 => pure .absent
  | 1 => do
    let level ← readNumber 4
    pure (.given level)
  | 2 => pure .keep
  | _ => failure

/-- The fields of CONFIGURE PLATTER after the platter (R197). -/
def readPlatterFields : Reader PlatterFields := do
  let max1 ← readOptional (readNumber 2)
  let e1 ← readOptional readByte
  let max2 ← readOptional (readNumber 2)
  let e2 ← readOptional readByte
  let n ← readOptional readByte
  let m ← readOptional readByte
  let band ← readOptional readByte
  let timeout ← readOptional (readNumber 2)
  let interval ← readOptional (readNumber 2)
  let home ← readOptional (readEnum Port.ofCode)
  let auto ← readOptional (readEnum switchOf)
  pure ⟨max1, e1, max2, e2, n, m, band, timeout, interval, home, auto⟩

/-- The fields of CONFIGURE STATION after the station (R197). -/
def readStationFields : Reader StationFields := do
  let primary ← readOptional (readEnum stationOutletOf)
  let fallback ← readOptional (readEnum stationOutletOf)
  let each ← readOptional (readEnum switchOf)
  let set ← readOptional readByte
  let digit ← readOptional readByte
  let step ← readOptional readByte
  pure ⟨primary, fallback, each, set.map (BitVec.ofNat 8), digit, step⟩

/-- One entry of CONFIGURE CLASS (R197). -/
def readClassEntry : Reader ClassEntry := do
  let cls ← readEnum TicketClass.ofCode
  let enabled ← readOptional (readEnum switchOf)
  let rank ← readOptional readByte
  let wait ← readOptional readByte
  let timeout ← readOptional (readNumber 2)
  let line ← readOptional (readEnum lineFieldOf)
  let edge ← readOptional (readEnum edgeOf)
  let off ← readOptional (readNumber 2)
  pure ⟨cls, enabled, rank, wait, timeout, line, edge, off⟩

/-- `n` entries of CONFIGURE CLASS. -/
def readClassEntries : Nat → Reader (List ClassEntry)
  | 0 => pure []
  | n + 1 => do
    let e ← readClassEntry
    let es ← readClassEntries n
    pure (e :: es)

/-- The entry count of CONFIGURE CLASS: 01h to 04h. -/
def entryCountOf : Nat → Option Nat
  | 1 => some 1
  | 2 => some 2
  | 3 => some 3
  | 4 => some 4
  | _ => none

/-- The fields of CONFIGURE OUTLET after the outlet (R197). -/
def readOutletFields : Reader OutletFields := do
  let kind ← readOptional (readEnum outletKindOf)
  let prescale ← readOptional readByte
  let limit ← readOptional readByte
  let mode ← readOptional (readEnum noticeModeOf)
  pure ⟨kind, prescale, limit, mode⟩

/-- A body's shape byte: 01h or 02h (R195). -/
def shapeOf : Nat → Option Bool
  | 1 => some false
  | 2 => some true
  | _ => none

/-- A transaction named by clerk (shape 01h) or by number (shape 02h). -/
def readTxnName : Reader TxnName := do
  let byNumber ← readEnum shapeOf
  if byNumber then do
    let n ← readNumber 2
    pure (.byNumber n)
  else do
    let c ← readByte
    pure (.byClerk c)

/-- A ticket named by class and number. -/
def readTicketId : Reader TicketId := do
  let cls ← readEnum TicketClass.ofCode
  let n ← readByte
  pure ⟨cls, n⟩

/-! ### The body of each request -/

/-- The reader of the body that a request code calls for, from the port and tag of its frame; absent for an unknown
code (R9, section 11.4, R197). -/
def bodyReader (p : Port) (t : Tag) (code : Nat) : Option (Reader Instr) :=
  match code with
  | 0x01 => some (pure (.readStatus p t))
  | 0x02 => some do return .readRefusal p t (← readEnum Port.ofCode)
  | 0x03 => some do return .readLink p t (← readEnum Port.ofCode)
  | 0x04 => some do return .setThreshold p t (← readByte)
  | 0x05 => some do
    let next ← readEnum shapeOf
    let n ← readNumber 2
    return if next then .pluReadNext p t n else .pluRead p t n
  | 0x06 => some do return .readCalibration p t (← readEnum Platter.ofCode)
  | 0x10 => some do return .readWeight p t (← readEnum Platter.ofCode)
  | 0x11 => some do return .zero p t (← readEnum Platter.ofCode)
  | 0x12 => some do return .tare p t (← readEnum Platter.ofCode)
  | 0x13 => some do return .presetTare p t (← readEnum Platter.ofCode) (← readNumber 2)
  | 0x14 => some do return .clearTare p t (← readEnum Platter.ofCode)
  | 0x20 => some do
    return .priceItem p t (← readEnum Platter.ofCode) (← readNumber 2) (← readByte) (← readEnum labelOf)
  | 0x21 => some do return .addCountItem p t (← readNumber 2) (← readByte) (← readByte) (← readEnum labelOf)
  | 0x22 => some do return .voidLine p t (← readByte) (← readByte)
  | 0x23 => some do return .park p t (← readByte)
  | 0x24 => some do
    let oldest ← readEnum shapeOf
    let clerk ← readByte
    if oldest then return .resume p t clerk .oldest
    else return .resume p t clerk (.number (← readNumber 2))
  | 0x25 => some do return .closeTransaction p t (← readByte) (← readEnum switchOf)
  | 0x26 => some do return .voidTransaction p t (← readTxnName)
  | 0x27 => some do return .readTransaction p t (← readTxnName) (← readByte)
  | 0x28 => some do return .reprintTotal p t (← readNumber 2)
  | 0x29 => some do return .readClerk p t (← readByte)
  | 0x30 => some do return .callNext p t (← readByte)
  | 0x31 => some do return .recall p t (← readByte)
  | 0x32 => some do return .skip p t (← readByte)
  | 0x33 => some do return .reinstate p t (← readTicketId)
  | 0x34 => some do return .issueTicket p t (← readEnum TicketClass.ofCode)
  | 0x35 => some (pure (.readQueue p t))
  | 0x40 => some do return .readOutlet p t (← readEnum OutletId.ofCode)
  | 0x41 => some do return .cancelJob p t (← readEnum OutletId.ofCode) (← readNumber 2)
  | 0x42 => some do return .resumeOutlet p t (← readEnum OutletId.ofCode)
  | 0x50 => some do return .calHold p t (← readEnum Platter.ofCode)
  | 0x51 => some do return .calZero p t (← readEnum Platter.ofCode)
  | 0x52 => some do return .calSpan p t (← readEnum Platter.ofCode) (← readNumber 4)
  | 0x53 => some do return .calRelease p t (← readEnum Platter.ofCode)
  | 0x54 => some do return .configurePlatter p t (← readEnum Platter.ofCode) (← readPlatterFields)
  | 0x60 => some do return .pluWrite p t (← readNumber 2) (← readPluFields)
  | 0x61 => some do return .pluDelete p t (← readNumber 2)
  | 0x62 => some do return .pluWithdraw p t (← readNumber 2)
  | 0x63 => some do return .pluRestore p t (← readNumber 2)
  | 0x64 => some do
    let none_ ← readEnum shapeOf
    let n ← readNumber 2
    if none_ then return .stockLoadNone p t n
    else return .stockLoad p t n (← readNumber 4) (← readWatchLevel)
  | 0x65 => some do return .clerkWrite p t (← readByte) (← readText) (← readEnum switchOf)
  | 0x66 => some do return .configureStation p t (← readEnum Port.ofCode) (← readStationFields)
  | 0x67 => some do
    let n ← readEnum entryCountOf
    return .configureClass p t (← readClassEntries n)
  | 0x68 => some do return .configureOutlet p t (← readEnum OutletId.ofCode) (← readOutletFields)
  | 0x69 => some do return .setNoticePriority p t (← readEnum noticeKindOf) (← readByte)
  | 0x6A => some do return .setClock p t (← readDate) (← readTime)
  | 0x6B => some do
    return .setWatch p t (← readByte) (← readEnum watchKindOf) (← readNumber 2) (← readNumber 4)
      (← readEnum watchActionOf)
  | 0x6C => some (pure (.readWatch p t))
  | 0x70 => some do return .openDay p t (← readDate)
  | 0x71 => some do return .closeDay p t (← readEnum closeModeOf)
  | 0x72 => some do return .readTotals p t (← readEnum sectionOf) (← readNumber 2)
  | 0x73 => some do return .readClosedDay p t (← readEnum sectionOf) (← readNumber 2)
  | 0x78 => some do return .approve p t (← readNumber 2)
  | 0x7E => some do return .setPermissions p t (← readEnum Port.ofCode) (BitVec.ofNat 8 (← readByte))
  | 0x7F => some (pure (.restart p t))
  | _ => none

/-- The request a frame's code and body carry, or none where the code is unknown or the body malformed: bytes left over
and a body that ends early are both malformed (R9, R195). -/
def readRequest (p : Port) (t : Tag) (code : Byte) (body : List Byte) : Option Instr :=
  match bodyReader p t code.toNat with
  | none => none
  | some reader =>
    match reader body with
    | some (i, []) => some i
    | _ => none

/-! ### Writing a request's body -/

/-- A number as `n` bytes, most significant byte first. -/
def writeNumber : Nat → Nat → List Byte
  | 0, _ => []
  | n + 1, v => BitVec.ofNat 8 (v / 256 ^ n) :: writeNumber n v

/-- A signed number as four bytes in two's complement (R195). -/
def writeSigned (v : Int) : List Byte := writeNumber 4 (BitVec.ofInt 32 v).toNat

/-- One byte. -/
def writeByte (v : Nat) : List Byte := writeNumber 1 v

/-- A text with its length byte. -/
def writeText (t : Text) : List Byte := writeByte t.length ++ t

/-- An optional field with its presence byte. -/
def writeOptional {α : Type} (value : α → List Byte) : Option α → List Byte
  | none => writeByte 0
  | some x => writeByte 1 ++ value x

/-- A date. -/
def writeDate (d : Date) : List Byte := writeNumber 2 d.year ++ writeByte d.month ++ writeByte d.day

/-- A time of day. -/
def writeTime (t : Time) : List Byte := writeByte t.hour ++ writeByte t.minute ++ writeByte t.second

/-- A promotion. -/
def writePromotion (p : Promotion) : List Byte := writeNumber 4 p.price ++ writeDate p.first ++ writeDate p.last

/-- The fields of PLU WRITE after the PLU number. -/
def writePluFields (f : PluFields) : List Byte :=
  writeText f.name ++ writeOptional writeText f.second ++ writeByte (pluKindCode f.kind) ++ writeNumber 4 f.unitPrice ++
    writeOptional writePromotion f.promotion ++ writeByte f.department ++ writeOptional (writeNumber 2) f.presetTare ++
    writeOptional (writeNumber 2) f.shelfLife

/-- The watch level of STOCK LOAD. -/
def writeWatchLevel : WatchLevel → List Byte
  | .absent => writeByte 0
  | .given n => writeByte 1 ++ writeNumber 4 n
  | .keep => writeByte 2

/-- The fields of CONFIGURE PLATTER after the platter. -/
def writePlatterFields (f : PlatterFields) : List Byte :=
  writeOptional (writeNumber 2) f.max1 ++ writeOptional writeByte f.e1 ++ writeOptional (writeNumber 2) f.max2 ++
    writeOptional writeByte f.e2 ++ writeOptional writeByte f.n ++ writeOptional writeByte f.m ++
    writeOptional writeByte f.motionBand ++ writeOptional (writeNumber 2) f.captureTimeout ++
    writeOptional (writeNumber 2) f.reportInterval ++ writeOptional (fun h => writeByte h.code) f.home ++
    writeOptional (fun b => writeByte (switchCode b)) f.autoTareClear

/-- The fields of CONFIGURE STATION after the station. -/
def writeStationFields (f : StationFields) : List Byte :=
  writeOptional (fun o => writeByte (stationOutletCode o)) f.primary ++
    writeOptional (fun o => writeByte (stationOutletCode o)) f.fallback ++
    writeOptional (fun b => writeByte (switchCode b)) f.labelEach ++
    writeOptional (fun (b : CallSet) => writeByte b.toNat) f.callSet ++ writeOptional writeByte f.prefixDigit ++
    writeOptional writeByte f.step

/-- One entry of CONFIGURE CLASS. -/
def writeClassEntry (e : ClassEntry) : List Byte :=
  writeByte e.cls.code ++ writeOptional (fun b => writeByte (switchCode b)) e.enabled ++
    writeOptional writeByte e.rank ++ writeOptional writeByte e.waitLimit ++
    writeOptional (writeNumber 2) e.callTimeout ++ writeOptional (fun d => writeByte (lineFieldCode d)) e.line ++
    writeOptional (fun g => writeByte (edgeCode g)) e.edge ++ writeOptional (writeNumber 2) e.holdOff

/-- The entries of CONFIGURE CLASS. -/
def writeClassEntries : List ClassEntry → List Byte
  | [] => []
  | e :: es => writeClassEntry e ++ writeClassEntries es

/-- The fields of CONFIGURE OUTLET after the outlet. -/
def writeOutletFields (f : OutletFields) : List Byte :=
  writeOptional (fun k => writeByte (outletKindCode k)) f.kind ++ writeOptional writeByte f.prescale ++
    writeOptional writeByte f.limitCount ++ writeOptional (fun m => writeByte (noticeModeCode m)) f.mode

/-- A transaction named by clerk or by number. -/
def writeTxnName : TxnName → List Byte
  | .byClerk c => writeByte 1 ++ writeByte c
  | .byNumber n => writeByte 2 ++ writeNumber 2 n

/-- The body that carries a request; empty for a command that is no request. -/
def requestBody : Instr → List Byte
  | .readRefusal _ _ q | .readLink _ _ q => writeByte q.code
  | .setThreshold _ _ v => writeByte v
  | .pluRead _ _ n => writeByte 1 ++ writeNumber 2 n
  | .pluReadNext _ _ n => writeByte 2 ++ writeNumber 2 n
  | .readCalibration _ _ w | .readWeight _ _ w | .zero _ _ w | .tare _ _ w | .clearTare _ _ w | .calHold _ _ w
  | .calZero _ _ w | .calRelease _ _ w => writeByte w.code
  | .presetTare _ _ w g => writeByte w.code ++ writeNumber 2 g
  | .priceItem _ _ w n c l => writeByte w.code ++ writeNumber 2 n ++ writeByte c ++ writeByte (labelCode l)
  | .addCountItem _ _ n q c l => writeNumber 2 n ++ writeByte q ++ writeByte c ++ writeByte (labelCode l)
  | .voidLine _ _ c i => writeByte c ++ writeByte i
  | .park _ _ c | .readClerk _ _ c | .callNext _ _ c | .recall _ _ c | .skip _ _ c => writeByte c
  | .resume _ _ c (.number n) => writeByte 1 ++ writeByte c ++ writeNumber 2 n
  | .resume _ _ c .oldest => writeByte 2 ++ writeByte c
  | .closeTransaction _ _ c l => writeByte c ++ writeByte (switchCode l)
  | .voidTransaction _ _ n => writeTxnName n
  | .readTransaction _ _ n i => writeTxnName n ++ writeByte i
  | .reprintTotal _ _ n | .pluDelete _ _ n | .pluWithdraw _ _ n | .pluRestore _ _ n | .approve _ _ n => writeNumber 2 n
  | .reinstate _ _ k => writeByte k.cls.code ++ writeByte k.number
  | .issueTicket _ _ k => writeByte k.code
  | .readOutlet _ _ o | .resumeOutlet _ _ o => writeByte o.code
  | .cancelJob _ _ o j => writeByte o.code ++ writeNumber 2 j
  | .calSpan _ _ w l => writeByte w.code ++ writeNumber 4 l
  | .configurePlatter _ _ w f => writeByte w.code ++ writePlatterFields f
  | .pluWrite _ _ n f => writeNumber 2 n ++ writePluFields f
  | .stockLoad _ _ n q lv => writeByte 1 ++ writeNumber 2 n ++ writeNumber 4 q ++ writeWatchLevel lv
  | .stockLoadNone _ _ n => writeByte 2 ++ writeNumber 2 n
  | .clerkWrite _ _ c name e => writeByte c ++ writeText name ++ writeByte (switchCode e)
  | .configureStation _ _ q f => writeByte q.code ++ writeStationFields f
  | .configureClass _ _ es => writeByte es.length ++ writeClassEntries es
  | .configureOutlet _ _ o f => writeByte o.code ++ writeOutletFields f
  | .setNoticePriority _ _ k n => writeByte (noticeKindCode k) ++ writeByte n
  | .setClock _ _ d tm => writeDate d ++ writeTime tm
  | .setWatch _ _ n k tg th a =>
    writeByte n ++ writeByte (watchKindCode k) ++ writeNumber 2 tg ++ writeNumber 4 th ++ writeByte (watchActionCode a)
  | .openDay _ _ d => writeDate d
  | .closeDay _ _ m => writeByte (closeModeCode m)
  | .readTotals _ _ s k | .readClosedDay _ _ s k => writeByte (sectionCode s) ++ writeNumber 2 k
  | .setPermissions _ _ q set => writeByte q.code ++ writeByte set.toNat
  | .readStatus _ _ | .readQueue _ _ | .readWatch _ _ | .restart _ _ => []
  | .presentLineRises _ | .linkReset _ | .rateLearningCharacter _ _ _ | .frameReceived _ _ | .frameGapTimeout _
  | .transmitComplete _ | .requestCancellation _ _ | .sampleArrival _ _ | .silenceTimerExpiry _
  | .reportTimerExpiry _ | .operationTimeout _ | .captureCancellation _ | .captureConsumed _ | .storeWriteEnd _ _
  | .sealFalls | .captureTaken _ | .captureRefusalTaken _ | .openBound _ | .discard _ | .boundTxnReport _
  | .ticketOutcomeReport _ | .dispenserLineChange _ _ | .holdOffExpiry _ | .callTimerExpiry _ | .lineTaken _
  | .deviceJobDone _ | .holdAsserted _ | .holdReleased _ | .holdTimerExpiry _ | .paperOut _ | .paperReady _
  | .outletPresentFalls _ | .outletPresentRises _ _ | .totalsReport _ | .clockSecond | .daySecondsAdvance
  | .powerUp _ _ | .restartEffects _ | .sealRises => []

end Sys2Proof.Machine
end

