-- ==== Sys2Proof/Machine/Frames.lean ====
section
/-! DEFINITION. The frame (section 11.1): its check, its hunting in a byte stream (R3), and the bytes of the frames the
part sends (R196, sections 11.4 and 11.5). -/

namespace Sys2Proof.Machine

/-! ### The check -/

/-- `n` shifts of the CRC-16 register, polynomial x^16 + x^12 + x^5 + 1 (R3). -/
def crcShift : Nat → BitVec 16 → BitVec 16
  | 0, r => r
  | n + 1, r => crcShift n (if r.msb then (r <<< 1) ^^^ 0x1021#16 else r <<< 1)

/-- The register after one more byte, most significant bit first (R3). -/
def crcByte (r : BitVec 16) (b : Byte) : BitVec 16 := crcShift 8 (r ^^^ (b.zeroExtend 16 <<< 8))

/-- The check over some bytes, from the preset FFFFh (R3). -/
def crc16 (bytes : List Byte) : BitVec 16 := bytes.foldl crcByte 0xFFFF#16

/-- The start byte C3h. -/
def startByte : Byte := 0xC3

/-! ### Frame hunting (R3) -/

/-- What hunting finds: a good frame, or a rejected one that counts as a check error. -/
inductive HuntEvent | good (f : Frame) | checkError
  deriving DecidableEq, Repr

/-- The frame that follows a start byte, from its length byte `len` and the `len + 2` bytes after it: good when the
check matches and the kind is 1 (request); otherwise absent. -/
def checkFrame (len : Byte) (rest : List Byte) : Option Frame :=
  match rest.take len.toNat, rest.drop len.toNat with
  | kindTag :: code :: body, [high, low] =>
    if crc16 (len :: kindTag :: code :: body) = high ++ low ∧ kindTag.toNat / 16 = 1 then
      some ⟨Fin.ofNat 16 kindTag.toNat, code, body, false⟩
    else none
  | _, _ => none

/-- Hunting through a byte stream, with fuel for its length: what it finds, and the frame still incomplete at the end.
With `gap` set, a gap of more than 50 ms follows the last byte, so that a frame still incomplete there is rejected too. -/
def hunt (gap : Bool) : Nat → List Byte → List HuntEvent × List Byte
  | 0, bs => ([], bs)
  | _ + 1, [] => ([], [])
  | fuel + 1, b :: rest =>
    if b ≠ startByte then hunt gap fuel rest
    else
      match rest with
      | [] => if gap then ([.checkError], []) else ([], [b])
      | len :: after =>
        if len.toNat < 2 ∨ 242 < len.toNat then hunt gap fuel rest
        else if after.length < len.toNat + 2 then
          if gap then
            let (events, left) := hunt gap fuel rest
            (.checkError :: events, left)
          else ([], b :: rest)
        else
          match checkFrame len (after.take (len.toNat + 2)) with
          | some f =>
            let (events, left) := hunt gap fuel (after.drop (len.toNat + 2))
            (.good f :: events, left)
          | none =>
            let (events, left) := hunt gap fuel rest
            (.checkError :: events, left)

/-! ### Frames the part sends -/

/-- A whole frame: start byte, length, kind and tag, code, body, check (section 11.1). -/
def frameBytes (kind : Nat) (tag : Tag) (code : Byte) (body : List Byte) : List Byte :=
  let inner := writeByte (body.length + 2) ++ (writeByte (kind * 16 + tag.val) ++ (code :: body))
  startByte :: inner ++ writeNumber 2 (crc16 inner).toNat

/-- The code of a platter state (section 11.2). -/
def PlatterState.code : PlatterState → Nat
  | .uncalibrated => 1
  | .zeroing => 2
  | .motion => 3
  | .stable => 4
  | .overload => 5
  | .underload => 6
  | .fault => 7
  | .held => 8

/-- The code of a tare kind. -/
def TareKind.code : TareKind → Nat
  | .none => 0
  | .weighed => 1
  | .preset => 2

/-- The code of an approval state. -/
def Approval.code : Approval → Nat
  | .none => 0
  | .required => 1
  | .granted => 2

/-- The code of an outlet state. -/
def OutletState.code : OutletState → Nat
  | .offline => 1
  | .ready => 2
  | .printing => 3
  | .held => 4
  | .stalled => 5
  | .noPaper => 6

/-- The code of a job kind. -/
def JobKind.code : JobKind → Nat
  | .item => 1
  | .total => 2
  | .ticket => 3
  | .display => 4

/-- The code of a PLATTER_ALERT reason (section 11.5). -/
def AlertReason.code : AlertReason → Nat
  | .fault => 1
  | .overload => 2
  | .underload => 3
  | .uncalibrated => 4
  | .zeroRange => 5

/-- The code of a QUEUE_CHANGE cause. -/
def QueueCause.code : QueueCause → Nat
  | .issue => 1
  | .call => 2
  | .reinstate => 3
  | .close => 4

/-- The code of a CALL_EXPIRED action. -/
def ExpiryAction.code : ExpiryAction → Nat
  | .recall => 1
  | .skip => 2

/-- The code of a DAY_STATE cause. -/
def DayCause.code : DayCause → Nat
  | .opened => 1
  | .closeNormal => 2
  | .closeForce => 3

/-- The kind of a notice. -/
def Notice.kind : Notice → NoticeKind
  | .weight _ => .weight
  | .platterAlert _ _ _ => .platterAlert
  | .queueChange _ _ _ _ => .queueChange
  | .callExpired _ _ _ _ => .callExpired
  | .jobDone _ _ _ _ => .jobDone
  | .outletDrained _ _ => .outletDrained
  | .outletState _ _ _ _ _ _ => .outletState
  | .stockLow _ _ _ _ => .stockLow
  | .watchFired _ _ _ _ _ => .watchFired
  | .approvalNeeded _ _ _ _ => .approvalNeeded
  | .dayState _ _ _ _ _ => .dayState

/-- The platter report block: 6 bytes without weights, 19 with them (section 11.4). -/
def Report.bytes (r : Report) : List Byte :=
  writeByte r.platter.code ++ writeByte r.state.code ++
    (match r.weights with
      | none => writeByte 0
      | some x => writeByte 1 ++ writeSigned x.gross ++ writeSigned x.net ++ writeNumber 4 x.tare ++ writeByte x.division) ++
    writeByte r.tareKind.code ++ writeByte (switchCode r.zeroCentre) ++ writeByte (switchCode r.interlock)

/-- The kind, target and threshold bytes of a WATCH_FIRED notice (section 11.5); the threshold of a PLU_SALE watch is
a free value. -/
def WatchCondition.bytes : WatchCondition → List Byte
  | .off => writeByte 0 ++ writeNumber 2 0 ++ writeNumber 4 0
  | .pluSale n => writeByte 1 ++ writeNumber 2 n ++ writeNumber 4 Config.pluSaleThreshold
  | .txnAmount th => writeByte 2 ++ writeNumber 2 0 ++ writeNumber 4 th
  | .clerkAmount c th => writeByte 3 ++ writeNumber 2 (clerkNumber c) ++ writeNumber 4 th
  | .queueLength k th => writeByte 4 ++ writeNumber 2 k.code ++ writeNumber 4 th

/-- The watches of an APPROVAL_NEEDED notice as one byte, watch 1 in the least significant bit. -/
def watchSetByte (ws : List Nat) : Nat := ws.foldl (fun b n => b + 2 ^ (n - 1)) 0

/-- The fields of a notice after its dropped-notice count (section 11.5). -/
def Notice.fieldBytes : Notice → List Byte
  | .weight r => r.bytes
  | .platterAlert w reason after => writeByte w.code ++ writeByte reason.code ++ writeByte after.code
  | .queueChange k cause waiting head =>
    writeByte k.code ++ writeByte cause.code ++ writeByte waiting ++ writeOptional writeByte head
  | .callExpired k txn action recalls =>
    writeByte k.cls.code ++ writeByte k.number ++ writeNumber 2 txn ++ writeByte action.code ++ writeByte recalls
  | .jobDone o job kind copy => writeByte o.code ++ writeNumber 2 job ++ writeByte kind.code ++ writeByte (switchCode copy)
  | .outletDrained o completed => writeByte o.code ++ writeNumber 2 completed
  | .outletState o before after jobs head stalls =>
    writeByte o.code ++ writeByte before.code ++ writeByte after.code ++ writeByte jobs ++
      writeOptional (fun (h : Nat × Nat) => writeNumber 2 h.1 ++ writeByte h.2) head ++ writeNumber 2 stalls
  | .stockLow plu remaining held watch =>
    writeNumber 2 plu ++ writeNumber 4 remaining ++ writeNumber 4 held ++ writeNumber 4 watch
  | .watchFired number cond value txn fires =>
    writeByte number ++ cond.bytes ++ writeNumber 4 value ++ writeOptional (writeNumber 2) txn ++ writeNumber 2 fires
  | .approvalNeeded txn clerk subtotal watches =>
    writeNumber 2 txn ++ writeByte (clerkNumber clerk) ++ writeNumber 4 subtotal ++ writeByte (watchSetByte watches)
  | .dayState isOpen number date cause forced =>
    writeByte (switchCode isOpen) ++ writeNumber 2 number ++ writeDate date ++ writeByte cause.code ++ writeNumber 3 forced

/-- The body of a notice frame: the dropped-notice count, then the fields (R196). -/
def Notice.body (n : Notice) (dropped : Nat) : List Byte := writeByte dropped ++ n.fieldBytes

/-- A date and time. -/
def writeDateTime (d : DateTime) : List Byte := writeDate d.date ++ writeTime d.time

/-- One flag as a byte. -/
def writeFlag (b : Bool) : List Byte := writeByte (switchCode b)

/-- The four tallies of one class. -/
def ClassTally.bytes (c : ClassTally) : List Byte :=
  writeNumber 4 c.issued ++ writeNumber 4 c.served ++ writeNumber 4 c.missed ++ writeNumber 4 c.abandoned

/-- The bytes of a department's row. -/
def DepartmentRecord.bytes (d : DepartmentRecord) : List Byte :=
  writeNumber 4 d.items ++ writeNumber 4 d.amount ++ writeFlag d.saturated

/-- The bytes of a clerk's row. -/
def clerkRowBytes (row : ClerkNo × ClerkTotals) : List Byte :=
  writeByte (clerkNumber row.1) ++ writeNumber 4 row.2.transactions ++ writeNumber 4 row.2.items ++
    writeNumber 4 row.2.amount ++ writeNumber 4 row.2.voids ++ writeNumber 4 row.2.voidAmount ++
    writeNumber 4 row.2.lineVoids ++ writeFlag row.2.saturated

/-- The bytes of a station's row. -/
def StationRecord.bytes (r : StationRecord) : List Byte :=
  writeNumber 4 r.captures ++ writeNumber 4 r.labels ++ writeNumber 4 r.refusals ++ writeFlag r.saturated

/-- The bytes of a PLU totals entry. -/
def PluTotal.bytes (e : PluTotal) : List Byte :=
  writeNumber 2 e.plu ++ writeNumber 3 e.count ++ writeNumber 4 e.weight ++ writeNumber 4 e.amount ++ writeFlag e.saturated

/-- The section byte and the content of a totals reading (section 11.4). -/
def SectionView.bytes : SectionView → List Byte
  | .day d close =>
    writeByte 1 ++ writeFlag d.opened.isSome ++ writeOptional (fun (o : OpenDay) => writeDate o.date) d.opened ++
      writeNumber 2 d.number ++ writeOptional (fun (o : OpenDay) => writeDateTime o.openedAt) d.opened ++
      writeNumber 3 d.postings ++ writeNumber 3 d.forcedVoids ++ writeNumber 3 d.labelsLost ++ writeNumber 3 d.refusals ++
      writeFlag d.saturated ++
      (match close with
        | none => []
        | some (mode, at_) => writeByte (closeModeCode mode) ++ writeDateTime at_)
  | .grand g mean =>
    writeByte 2 ++ writeNumber 4 g.transactions ++ writeNumber 4 g.items ++ writeNumber 4 g.weight ++
      writeNumber 4 g.amount ++ writeNumber 4 g.voids ++ writeNumber 4 g.voidAmount ++ writeNumber 4 g.lineVoids ++
      writeNumber 4 g.noSale ++ g.classes.a.bytes ++ g.classes.b.bytes ++ g.classes.c.bytes ++ g.classes.d.bytes ++
      writeNumber 4 g.waitSum ++ writeNumber 4 g.waitCount ++ writeNumber 4 mean ++ writeFlag g.saturated
  | .department ds => writeByte 3 ++ ds.toList.flatMap DepartmentRecord.bytes
  | .clerk rows follows => writeByte 4 ++ writeByte rows.length ++ writeFlag follows ++ rows.flatMap clerkRowBytes
  | .station ss =>
    writeByte 5 ++ ss.s1.bytes ++ ss.s2.bytes ++ ss.s3.bytes ++ ss.s4.bytes ++ ss.s5.bytes ++ ss.s6.bytes
  | .plu rows follows => writeByte 6 ++ writeByte rows.length ++ writeFlag follows ++ rows.flatMap PluTotal.bytes

/-- The label status, outlet and job id of PRICE ITEM's and CLOSE TRANSACTION's replies (section 11.4). DESIGN CHOICE (log
entry 43): without a queued label section 11.4 gives 00h and 0 for PRICE ITEM; CLOSE TRANSACTION sends the same. -/
def LabelStatus.bytes : LabelStatus → List Byte
  | .queued o job => writeByte 0 ++ writeByte o.code ++ writeNumber 2 job
  | .notAsked => writeByte 1 ++ writeByte 0 ++ writeNumber 2 0
  | .notQueued => writeByte 2 ++ writeByte 0 ++ writeNumber 2 0

/-- A part of a reply's body: bytes the spec gives, or a field whose size it does not give (R195, R196, log entry 14). -/
inductive ReplyPart | given (bytes : List Byte) | open_
  deriving DecidableEq, Repr

/-- FREE VALUE. The bytes of the n-th part of a reply whose size the spec does not give (R196, log entry 14). -/
opaque openPart : Payload → Nat → List Byte

/-- The bytes of the parts of a reply, the open ones counted from `n`. -/
def partBytes (x : Payload) : Nat → List ReplyPart → List Byte
  | _, [] => []
  | n, .given bytes :: rest => bytes ++ partBytes x n rest
  | n, .open_ :: rest => openPart x n ++ partBytes x (n + 1) rest

/-- The parts of an optional field: 00h where it is absent, else 01h and the parts of its value (R195, R196). -/
def optionalParts {α : Type} (value : α → List ReplyPart) : Option α → List ReplyPart
  | none => [.given (writeByte 0)]
  | some x => .given (writeByte 1) :: value x

/-- The parts of a list: its entries, with whatever tells its length before them or after. -/
def listParts {α : Type} (entry : α → List ReplyPart) (xs : List α) : List ReplyPart :=
  .open_ :: xs.flatMap entry ++ [.open_]

/-- A ticket: its class and its number (section 11.4). -/
def ticketBytes (k : TicketId) : List Byte := writeByte k.cls.code ++ writeByte k.number

/-- A port as a field. -/
def writePort (p : Port) : List Byte := writeByte p.code

/-- What READ STATUS replies, in the order of R17's table. -/
def StatusView.parts (v : StatusView) : List ReplyPart :=
  let platter := fun (x : PlatterState × Option Port) => writeByte x.1.code ++ writeOptional writePort x.2
  [.open_, .given (writeDateTime v.now ++ writeFlag v.clockUnset ++ writeFlag v.opened.isSome ++ writeNumber 2 v.dayNumber ++
    writeOptional writeDate v.opened), .open_,
   .given (platter v.platters.w1 ++ platter v.platters.w2 ++ platter v.platters.w3 ++ platter v.platters.w4 ++
    writeByte v.outlets.p1.code ++ writeByte v.outlets.p2.code ++ writeByte v.outlets.p3.code ++ writeByte v.outlets.p4.code ++
    writeByte v.permissions.toNat ++ writeByte v.threshold), .open_, .given (writeByte v.dropped), .open_]

/-- What READ CALIBRATION replies (R69). -/
def CalibrationView.parts (v : CalibrationView) : List ReplyPart :=
  let m := v.record.met
  .given (writeNumber 2 m.max1 ++ writeByte m.e1 ++ writeNumber 2 m.max2 ++ writeByte m.e2 ++
      writeOptional writeSigned v.record.z) ::
    optionalParts (fun _ => [.open_]) v.record.k ++ optionalParts (fun _ => [.open_]) v.record.l ++
    [.given (writeFlag v.record.valid), .open_, .given (writeFlag v.writing), .open_,
     .given (writeOptional writePort v.holdOwner ++ writeOptional writePort v.pending)]

/-- A stock account, in the order of R77's table. -/
def Stock.parts (a : Stock) : List ReplyPart :=
  [.open_, .given (writeNumber 4 a.remaining ++ writeNumber 4 a.held), .open_,
   .given (writeOptional (writeNumber 4) a.watch ++ writeFlag a.lowNotified)]

/-- A line record, in the order of R106's table. -/
def Line.parts (l : Line) : List ReplyPart :=
  [.given (writeByte l.index ++ writeNumber 2 l.plu ++ writeText l.name ++ writeByte l.department ++
      writeByte (pluKindCode l.kind)),
   .given (if l.kind = .byCount then writeByte l.quantity else writeNumber 4 l.quantity),
   .given (writeOptional writeByte l.division)] ++
  optionalParts (fun _ => [.open_]) l.tare ++
  [.given (writeNumber 4 l.unitPrice ++ writeFlag l.promotion ++ writeNumber 4 l.amount)] ++
  optionalParts (fun x => [.given (writeByte x.1.code), .open_]) l.capture ++
  [.given (writePort l.station ++ writeOptional (fun (x : OutletId × Nat) => writeByte x.1.code ++ writeNumber 2 x.2) l.label ++
    writeFlag l.voided), .open_]

/-- A class as READ QUEUE shows it (R150). -/
def ClassView.parts (c : ClassView) : List ReplyPart :=
  .given (writeFlag c.enabled ++ writeByte c.rank ++ writeByte c.waitLimit ++ writeNumber 2 c.callTimeout ++ writeByte c.next ++
      writeByte c.waiting) ::
    optionalParts (fun h =>
      [.given (writeByte h.number), .open_, .given (writeFlag h.reinstated ++ writeFlag h.overdue)]) c.head

/-- What READ QUEUE replies (R150). -/
def QueueView.parts (v : QueueView) : List ReplyPart :=
  v.classes.a.parts ++ v.classes.b.parts ++ v.classes.c.parts ++ v.classes.d.parts ++
    listParts (fun x => [.given (ticketBytes x.1), .open_]) v.missed ++
    listParts (fun x => [.given (ticketBytes x.1 ++ writePort x.2)]) v.recent ++
    listParts (fun x => [.given (ticketBytes x.ticket ++ writeNumber 2 x.txn ++ writePort x.station ++ writeByte x.recalls),
      .open_]) v.called ++ [.open_, .given (writeByte v.callSet.toNat)]

/-- What READ OUTLET replies (R169). -/
def OutletView.parts (v : OutletView) : List ReplyPart :=
  [.given (writeByte (outletKindCode v.kind) ++ writeByte v.prescale ++ writeByte v.limitCount), .open_,
   .given (writeByte (noticeModeCode v.mode) ++ writeByte v.state.code), .open_, .given (writeFlag v.paperOut), .open_] ++
  listParts (fun j => [.given (writeNumber 2 j.id ++ writeByte j.kind.code ++ writeFlag j.copy ++ writeOptional writePort j.origin),
    .open_, .given (writeByte j.passes ++ writeFlag j.cancelWaiting)]) v.jobs ++
  [.open_, .given (writeFlag v.transfer ++ writeNumber 2 v.stalls ++ writeNumber 2 v.nextId)]

/-- A watch record, in the order of R184's table: target and threshold are absent where the kind has none. -/
def Watch.bytes (w : Watch) : List Byte :=
  let (kind, target, threshold) := match w.cond with
    | .off => (WatchKind.off, none, none)
    | .pluSale n => (.pluSale, some n, none)
    | .txnAmount x => (.txnAmount, none, some x)
    | .clerkAmount c x => (.clerkAmount, some (clerkNumber c), some x)
    | .queueLength k x => (.queueLength, some k.code, some x)
  writeByte (watchKindCode kind) ++ writeOptional (writeNumber 2) target ++ writeOptional (writeNumber 4) threshold ++
    writeByte (watchActionCode w.action) ++ writeFlag w.armed ++ writeNumber 2 w.fires

/-- The parts of a reply's body after the result code OK (R195, R196): the layout of section 11.4 where it gives one.
Another reply has the fields its request's rule names, in that rule's order, each with the size chapter 11 gives the
field, absent as 00h, and open where it gives no size (DEDUCED, log entry 14). ADD COUNT ITEM's reply names the fields
of PRICE ITEM's (R111) and takes its layout (DEDUCED, log entry 28). -/
def Payload.parts : Payload → List ReplyPart
  | .empty => []
  | .lineAdded txn index amount subtotal approval label =>
    [.given (writeNumber 2 txn ++ writeByte index ++ writeNumber 4 amount ++ writeNumber 4 subtotal ++
      writeByte approval.code ++ label.bytes)]
  | .closed txn subtotal itemCount label =>
    [.given (writeNumber 2 txn ++ writeNumber 4 subtotal ++ writeByte itemCount ++ label.bytes)]
  | .called k txn recalls => [.given (ticketBytes k ++ writeNumber 2 txn ++ writeByte recalls)]
  | .report r => [.given r.bytes]
  | .pluWritten replaced => [.given (writeFlag replaced)]
  | .totals postings v => [.given (writeNumber 3 postings ++ v.bytes)]
  | .lineVoided subtotal itemCount => [.given (writeNumber 4 subtotal ++ writeByte itemCount)]
  | .parked txn => [.given (writeNumber 2 txn)]
  | .resumed txn subtotal approval => [.given (writeNumber 2 txn ++ writeNumber 4 subtotal ++ writeByte approval.code)]
  | .reprinted o job => [.given (writeByte o.code ++ writeNumber 2 job)]
  | .voided txn subtotal => [.given (writeNumber 2 txn ++ writeNumber 4 subtotal)]
  | .recalled k recalls => [.given (ticketBytes k ++ writeByte recalls)]
  | .skipped k => [.given (ticketBytes k)]
  | .outletState state => [.given (writeByte state.code)]
  | .dayOpened number date => [.given (writeNumber 2 number ++ writeDate date)]
  | .dayClosed number forced => [.given (writeNumber 2 number ++ writeNumber 3 forced)]
  | .watches ws => [.given (ws.toList.flatMap Watch.bytes)]
  | .issued k _ _ => [.given (ticketBytes k), .open_]
  | .reinstated k _ => [.given (ticketBytes k), .open_]
  | .clerk number r numbers =>
    .given (writeByte number ++ writeText r.name ++ writeFlag r.enabled ++ writeOptional (writeNumber 2) r.openTxn ++
      writeOptional writePort r.lastStation) :: listParts (fun n => [.given (writeNumber 2 n)]) numbers
  | .pluRecord r =>
    [.given (writeNumber 2 r.number ++ writePluFields r.fields), .open_] ++ optionalParts Stock.parts r.stock
  | .stock a => a.parts
  | .calibration v => v.parts
  | .queue v => v.parts
  | .outlet v => v.parts
  | .status v => v.parts
  | .refusal r _ =>
    optionalParts (fun x =>
      [.given [x.code], .open_, .given (writeByte x.result.code ++ writeDateTime x.at_), .open_]) r ++ [.open_]
  | .link v => .open_ :: optionalParts (fun _ => [.open_]) v.rate ++ [.given (writeFlag v.rateError), .open_]
  | .tareApplied _ => [.open_]
  | .heldTxn x _ =>
    [.open_, .given (writeNumber 2 x.number ++ writeByte (clerkNumber x.clerk)), .open_,
     .given (writeOptional ticketBytes x.ticket ++ writeByte x.approval.code ++ writeNumber 4 x.subtotal ++ writeByte x.itemCount ++
      writeDateTime x.openedAt ++ writeOptional writeDateTime x.parkedAt ++ writePort x.lastStation)] ++
    listParts Line.parts x.lines
  | .closedTxn e _ =>
    [.open_, .given (writeNumber 2 e.number ++ writeByte (clerkNumber e.clerk) ++ writeText e.clerkName ++
      writeOptional ticketBytes e.ticket ++ writeNumber 4 e.subtotal ++ writeByte e.itemCount ++ writeDateTime e.closedAt ++
      writePort e.port)] ++ listParts Line.parts e.lines

/-- What follows the result code OK in a reply's body, cut to what a frame has room for (section 11.1). -/
def Payload.bytes (x : Payload) : List Byte := (partBytes x 0 x.parts).take 239

/-- The body of a reply frame: the result code alone for a refusal, else OK and the fields (R196). -/
def Reply.body (r : Reply) : List Byte :=
  if r.result = .ok then writeByte r.result.code ++ r.payload.bytes else writeByte r.result.code

/-- The bytes of the frame being sent: kind 2 with the request's tag and code for a reply, kind 3 with tag 0 and the
notice code for a notice (R196). -/
def Transmission.bytes : Transmission → List Byte
  | .reply r => frameBytes 2 r.reply.tag r.reply.code r.reply.body
  | .notice n dropped => frameBytes 3 0 (BitVec.ofNat 8 (noticeKindCode n.kind)) (n.body dropped)

/-- The frame in which a host sends a request: kind 1, the request's tag and code, its body (section 11.1). -/
def requestFrame (c : Instr) : List Byte :=
  match requestInfo c with
  | some (_, t, code, _) => frameBytes 1 t (BitVec.ofNat 8 code) (requestBody c)
  | none => []

end Sys2Proof.Machine
end

