-- ==== Sys2Proof/Machine/Numbers.lean ====
section
/-! DEFINITION. Rounding, saturating counts and the calendar. -/

namespace Sys2Proof.Machine

/-- The nearest whole number to `num / den`, a value exactly halfway going away from zero (Conventions, R22, R37). -/
def roundAway (num : Int) (den : Nat) : Int := num.sign * ((2 * num.natAbs + den) / (2 * den) : Nat)

/-- The nearest whole number to `num / den`, a value exactly halfway going up (Conventions, R44, R89, R92, R179). -/
def roundUp (num den : Nat) : Nat := (2 * num + den) / (2 * den)

/-- The window average S / N to a whole count, a value exactly halfway going to the larger count (R22). -/
def averageCount (sum : Int) (n : Nat) : Int := (2 * sum + n) / (2 * n : Nat)

/-- `n` raised by 1, staying at `cap` (R5, R13, R16, R152, R184). -/
def saturate (cap n : Nat) : Nat := if n < cap then n + 1 else n

/-- A posting's field after `k` is added, no further than its cap (R176). -/
def capAdd (cap n k : Nat) : Nat := if n + k > cap then cap else n + k

/-- Whether adding `k` would pass the field's cap (R176). -/
def passesCap (cap n k : Nat) : Bool := n + k > cap

/-- `n` taken to the range `lo` to `hi` (Conventions, "clamped"). -/
def clamp (lo hi n : Nat) : Nat := if n < lo then lo else if n > hi then hi else n

/-- The largest entry less the smallest; 0 for an empty list (R25, R63). -/
def spread : List Int → Int
  | [] => 0
  | x :: xs => xs.foldl max x - xs.foldl min x

/-! ### The calendar -/

/-- A year divisible by 4, which is exact from 2000 to 2099 (R94). -/
def isLeap (year : Nat) : Bool := year % 4 = 0

/-- The days of a month (R94). -/
def daysIn (year month : Nat) : Nat :=
  if month = 2 then (if isLeap year then 29 else 28)
  else if month = 4 ∨ month = 6 ∨ month = 9 ∨ month = 11 then 30
  else 31

end Sys2Proof.Machine

namespace Sys2Proof

open Machine

/-- A real calendar date from 2000-01-01 to 2099-12-31 (R172, R189). -/
def Date.real (d : Date) : Bool :=
  2000 ≤ d.year && d.year ≤ 2099 && 1 ≤ d.month && d.month ≤ 12 && 1 ≤ d.day && d.day ≤ daysIn d.year d.month

/-- Hour 0 to 23, minute and second 0 to 59 (R189). -/
def Time.real (t : Time) : Bool := t.hour ≤ 23 && t.minute ≤ 59 && t.second ≤ 59

/-- Dates in calendar order, as one number. -/
def Date.key (d : Date) : Nat := (d.year * 100 + d.month) * 100 + d.day

/-- The last date the part knows. -/
def Date.last : Date := ⟨2099, 12, 31⟩

/-- The next date; 2099-12-31 stays (R94, R188). -/
def Date.next (d : Date) : Date :=
  if d = Date.last then d
  else if d.day < daysIn d.year d.month then { d with day := d.day + 1 }
  else if d.month < 12 then ⟨d.year, d.month + 1, 1⟩
  else ⟨d.year + 1, 1, 1⟩

/-- The date `n` calendar days later, no later than 2099-12-31 (R94). -/
def Date.advance : Nat → Date → Date
  | 0, d => d
  | n + 1, d => Date.advance n d.next

end Sys2Proof

namespace Sys2Proof.Machine

/-- The last second the clock reaches, where it stops (R188). -/
def clockEnd : DateTime := ⟨Date.last, ⟨23, 59, 59⟩⟩

/-- The calendar clock one second later (R188). -/
def DateTime.tick (c : DateTime) : DateTime :=
  if c = clockEnd then c
  else if c.time.second < 59 then { c with time := { c.time with second := c.time.second + 1 } }
  else if c.time.minute < 59 then { c with time := ⟨c.time.hour, c.time.minute + 1, 0⟩ }
  else if c.time.hour < 23 then { c with time := ⟨c.time.hour + 1, 0, 0⟩ }
  else ⟨c.date.next, ⟨0, 0, 0⟩⟩

end Sys2Proof.Machine
end

