-- ==== Sys2Proof/Machine/Ops.lean ====
section
/-! DEFINITION. The operations every family shares: the parts of the state by name, the taking of an admitted request,
replies (R11), notices (R16), and the transmitters that start at the end of every command (R12). -/

namespace Sys2Proof.Machine

/-- What a command answers. -/
abbrev Outcome := Host.Outcome State Fault Refusal

/-! ### Parts of the state -/

/-- The link of a port. -/
def State.linkOf (s : State) (p : Port) : Link := s.link.links.get p

/-- The state with one link replaced. -/
def State.setLink (s : State) (p : Port) (l : Link) : State :=
  { s with link := { s.link with links := s.link.links.set p l } }

/-- The state with one link changed by `f`. -/
def State.mapLink (s : State) (p : Port) (f : Link → Link) : State := s.setLink p (f (s.linkOf p))

/-- The weighing channel of a platter. -/
def State.channel (s : State) (w : Platter) : Channel := s.weigh.get w

/-- The state with one channel replaced. -/
def State.setChannel (s : State) (w : Platter) (c : Channel) : State := { s with weigh := s.weigh.set w c }

/-- One outlet. -/
def State.outletOf (s : State) (o : OutletId) : Outlet := s.outlets.get o

/-- The state with one outlet replaced. -/
def State.setOutlet (s : State) (o : OutletId) (x : Outlet) : State := { s with outlets := s.outlets.set o x }

/-- The state with the totals unit changed by `f`. -/
def State.mapTotals (s : State) (f : Totals → Totals) : State := { s with totals := f s.totals }

/-- The calendar date and time. -/
def State.now (s : State) : DateTime := s.clock.now

/-- Whether the day is OPEN (R171). -/
def State.dayOpen (s : State) : Bool := s.totals.day.opened.isSome

/-! ### Notices (R14, R16) -/

/-- The priority of a notice kind. -/
def Priorities.get (m : Priorities) : NoticeKind → Nat
  | .weight => m.weight
  | .platterAlert => m.platterAlert
  | .queueChange => m.queueChange
  | .callExpired => m.callExpired
  | .jobDone => m.jobDone
  | .outletDrained => m.outletDrained
  | .outletState => m.outletState
  | .stockLow => m.stockLow
  | .watchFired => m.watchFired
  | .approvalNeeded => m.approvalNeeded
  | .dayState => m.dayState

/-- The priorities with one kind's priority replaced. -/
def Priorities.set (m : Priorities) : NoticeKind → Nat → Priorities
  | .weight, n => { m with weight := n }
  | .platterAlert, n => { m with platterAlert := n }
  | .queueChange, n => { m with queueChange := n }
  | .callExpired, n => { m with callExpired := n }
  | .jobDone, n => { m with jobDone := n }
  | .outletDrained, n => { m with outletDrained := n }
  | .outletState, n => { m with outletState := n }
  | .stockLow, n => { m with stockLow := n }
  | .watchFired, n => { m with watchFired := n }
  | .approvalNeeded, n => { m with approvalNeeded := n }
  | .dayState, n => { m with dayState := n }

/-- The platter of a WEIGHT notice, absent for the other kinds. -/
def Notice.weightPlatter : Notice → Option Platter
  | .weight r => some r.platter
  | _ => none

/-- Step 4 of R16: with 16 notices waiting the oldest goes and is counted as dropped; the new one joins the tail. -/
def Link.joinNotice (l : Link) (n : Notice) : Link :=
  if l.notices.length < Config.noticeQueue then { l with notices := l.notices ++ [n] }
  else { l with notices := l.notices.drop 1 ++ [n], dropped := saturate Config.droppedCap l.dropped }

/-- R16: a notice of the given priority handed to a port. -/
def Link.queueNotice (priority : Nat) (n : Notice) (l : Link) : Link :=
  if l.state ≠ .up then l
  else if priority < l.threshold then l
  else if n.weightPlatter.isSome ∧ l.notices.any (fun x => x.weightPlatter = n.weightPlatter) then
    { l with notices := updateFirst (fun x => x.weightPlatter = n.weightPlatter) (fun _ => n) l.notices }
  else l.joinNotice n

/-- A block hands a notice to the link controller for one port. -/
def State.notify (s : State) (p : Port) (n : Notice) : State :=
  s.mapLink p (Link.queueNotice (s.link.priorities.get n.kind) n)

/-- The same notice for several ports, in order. -/
def State.notifyAll (s : State) (ps : List Port) (n : Notice) : State := ps.foldl (fun s p => s.notify p n) s

/-! ### Replies (R11) -/

/-- The reply a block produces now (R11, R13). -/
def State.replyNow (s : State) (r : Requester) (result : Result) (payload : Payload) : Reply where
  tag := r.tag
  code := r.code
  result := result
  payload := payload
  at_ := s.now
  daySeconds := s.clock.daySeconds

/-- The slot still waits for the reply of this request. -/
def Slot.waitsFor (r : Requester) (x : Slot) : Bool :=
  x.tag = r.tag && x.phase = .taken && requestCode x.request = r.code

/-- A reply reaches its slot, which becomes reply-ready, and waits for the transmitter; without such a slot it is
discarded (R6, R11). -/
def Link.takeReply (l : Link) (r : Requester) (reply : Reply) : Link :=
  if l.slots.any (Slot.waitsFor r) then
    { l with
      slots := updateFirst (Slot.waitsFor r) (fun x => { x with phase := .ready }) l.slots
      ready := l.ready ++ [⟨true, reply⟩] }
  else l

/-- The cancellation names this request. -/
def Cancellation.names (r : Requester) (c : Cancellation) : Bool :=
  c.port = r.port && c.tag = r.tag && requestCode c.request = r.code

/-- A block produces a reply. While the request's own cancellation is still on its way, its slot has been dropped and
the reply is discarded (R6). -/
def State.reply (s : State) (r : Requester) (result : Result) (payload : Payload) : State :=
  if s.transit.cancellations.any (Cancellation.names r) then s
  else s.mapLink r.port (fun l => l.takeReply r (s.replyNow r result payload))

/-- A reply OK with its fields. -/
def State.ok (s : State) (r : Requester) (payload : Payload) : State := s.reply r .ok payload

/-- A refusal. -/
def State.refuse (s : State) (r : Requester) (result : Result) : State := s.reply r result .empty

/-- A reply to a request that may have been cancelled meanwhile. -/
def State.replyTo (s : State) (r : Option Requester) (result : Result) (payload : Payload) : State :=
  match r with
  | none => s
  | some r => s.reply r result payload

/-! ### The transmitter (R12) -/

/-- A free transmitter of an UP link starts the earliest ready reply, or with none the head notice, which takes the
dropped-notice count with it (R12, R16). -/
def Link.startTransmitter (l : Link) : Link :=
  if l.state = .up ∧ l.tx = none then
    match l.ready with
    | r :: rest => { l with ready := rest, tx := some (.reply r) }
    | [] =>
      match l.notices with
      | n :: rest => { l with notices := rest, tx := some (.notice n l.dropped), dropped := 0 }
      | [] => l
  else l

/-- A value per port, changed by `f`. -/
def mapPorts (m : PerPort Link) (f : Link → Link) : PerPort Link where
  stations := ⟨f m.stations.s1, f m.stations.s2, f m.stations.s3, f m.stations.s4, f m.stations.s5, f m.stations.s6⟩
  office := f m.office

/-- Every free transmitter starts what waits for it. This ends every command, so that a reply and a notice that one
command leaves waiting go out reply first (R12, R172). -/
def State.transmitAll (s : State) : State :=
  { s with link := { s.link with links := mapPorts s.link.links Link.startTransmitter } }

/-- A command that is no request has had its effect. -/
def done (s : State) : Outcome := .next s.transmitAll

/-! ### Taking an admitted request -/

/-- The slot holds this request, admitted and on its way to its block. -/
def Slot.awaits (t : Tag) (c : Instr) (x : Slot) : Bool := x.tag = t && x.phase = .admitted && x.request = c

/-- A cancellation that a request of this port and tag must not overtake: one of the same port on its way to the same
block (R6 step 3), or one naming the same tag and code, whose reply could be taken for this request's. -/
def Cancellation.precedes (p : Port) (t : Tag) (c : Instr) (x : Cancellation) : Bool :=
  x.port = p && (requestOwner x.request = requestOwner c || (x.tag = t && requestCode x.request = requestCode c))

/-- The slot's request is on its way to the block that owns `c`. -/
def Slot.heads (c : Instr) (x : Slot) : Bool := x.phase = .admitted && requestOwner x.request = requestOwner c

/-- The dropped slot's request is on its way to the block that owns `c`, beside its cancellation. -/
def Cancellation.heads (c : Instr) (x : Cancellation) : Bool := x.untaken && requestOwner x.request = requestOwner c

/-- The first place that lies above all of some. -/
def placeAbove (places : List Nat) : Nat := places.foldl (fun n x => max n (x + 1)) 0

/-- The place of the next admission: above those of every request in a slot and of every one dropped from its slot. -/
def State.nextOrder (s : State) : Nat :=
  placeAbove (Port.all.flatMap (fun p => (s.linkOf p).slots.map (·.order)) ++ s.transit.cancellations.map (·.order))

/-- A request to the block that owns `c` was admitted before the place `order`, on whichever link, and is still on its
way: the requests of all links reach a block in the order in which their admissions fell (R7). -/
def State.overtakes (s : State) (order : Nat) (c : Instr) : Bool :=
  Port.all.any (fun p => (s.linkOf p).slots.any fun x => x.heads c && x.order < order) ||
    s.transit.cancellations.any fun x => x.heads c && x.order < order

/-- The request of this port and tag is on its way to its block, the first of all links' requests there, and no
cancellation it must not overtake is still on its way (R6, R7). -/
def State.awaits (s : State) (p : Port) (t : Tag) (c : Instr) : Bool :=
  (s.linkOf p).slots.any (fun x => x.awaits t c && !s.overtakes x.order c) &&
    !s.transit.cancellations.any (Cancellation.precedes p t c)

/-- The request's slot was dropped by a link reset, and the request is still on its way to its block beside its
cancellation: the first of all links' requests there, and no cancellation of an earlier reset, which it must not
overtake, is on its way (R6, R7). -/
def State.awaitsDropped (s : State) (p : Port) (t : Tag) (c : Instr) : Bool :=
  let ahead := s.transit.cancellations.filter (Cancellation.precedes p t c)
  match ahead.find? (·.untaken) with
  | some x => x.tag = t && x.request = c && ahead.all (fun y => x.session ≤ y.session) && !s.overtakes x.order c
  | none => false

/-- The state once the owning block has taken the request: its slot waits for the reply. -/
def State.taken (s : State) (p : Port) (t : Tag) (c : Instr) : State :=
  s.mapLink p (fun l =>
    { l with slots := updateFirst (Slot.awaits t c) (fun x => { x with phase := .taken }) l.slots })

/-- The cancellation belongs to this request, which its block has not taken. -/
def Cancellation.awaits (p : Port) (t : Tag) (c : Instr) (x : Cancellation) : Bool :=
  x.port = p && x.tag = t && x.request = c && x.untaken

/-- The state once the owning block has taken a request whose slot was dropped: only its cancellation is on its way. -/
def State.takenDropped (s : State) (p : Port) (t : Tag) (c : Instr) : State :=
  let cs := updateFirst (Cancellation.awaits p t c) (fun x => { x with untaken := false }) s.transit.cancellations
  { s with transit := { s.transit with cancellations := cs } }

/-- The owning block takes an admitted request and acts on it. One whose slot a link reset has dropped may be taken too,
before its cancellation: its effects stand, and a reply it produces is discarded (R6). A request that is not on its way
is not there to be taken: nothing happens. -/
def takeRequest (p : Port) (t : Tag) (c : Instr) (s : State) (effect : Requester → State → State) : Outcome :=
  if s.awaits p t c then .next (effect ⟨p, t, requestCode c⟩ (s.taken p t c)).transmitAll
  else if s.awaitsDropped p t c then .next (effect ⟨p, t, requestCode c⟩ (s.takenDropped p t c)).transmitAll
  else .next s

/-- The first failing test decides a refusal: with the test false the rest is not reached. -/
def require (test : Bool) (refusal : Result) : Except Result Unit := if test then .ok () else .error refusal

/-- A value that must be there, or the refusal. -/
def orRefuse {α : Type} (x : Option α) (refusal : Result) : Except Result α :=
  match x with
  | some a => .ok a
  | none => .error refusal

end Sys2Proof.Machine
end

