-- ==== Sys2Proof/Machine/WeighOps.lean ====
section
/-! DEFINITION. The weighing channel: the arithmetic of chapter 2, the evaluation, the report check, the operation slot,
the calibration hold and the store (chapters 2 and 3). -/

namespace Sys2Proof.Machine

/-! ### Limits and rounding -/

/-- The motion band in mg (section 2.1). -/
def Channel.bandMg (c : Channel) : Int := 500 * c.record.met.e1 * c.working.motionBand

/-- The overload limit Max2 + 9 e2 in mg. -/
def Metrology.overloadMg (m : Metrology) : Int := 1000 * (m.max2 + 9 * m.e2)

/-- The underload limit −20 e1 in mg. -/
def Metrology.underloadMg (m : Metrology) : Int := -20000 * m.e1

/-- The division of a weight, chosen from its unrounded fine value (R36). -/
def Metrology.divisionFor (m : Metrology) (fine : Int) : Nat := if fine > 1000 * m.max1 then m.e2 else m.e1

/-- A fine weight rounded to its division, in g (R37). -/
def Metrology.roundWeight (m : Metrology) (fine : Int) : Int :=
  roundAway fine (1000 * m.divisionFor fine) * m.divisionFor fine

/-- A value in g rounded to the nearest multiple of e1, a halfway value going up (R44, R89). -/
def Metrology.roundTare (m : Metrology) (grams : Nat) : Nat := roundUp grams m.e1 * m.e1

/-- The zero offset and the gross fine weight: absent while Zi or the fine weight is (R32). -/
def Channel.gross (c : Channel) : Option Int :=
  match c.fine, c.zi with
  | some f, some zi => some (f - (zi + c.zp))
  | _, _ => none

/-- The net fine weight that goes with a gross one (R33). -/
def Channel.netOf (c : Channel) (gross : Int) : Int := gross - c.tare

/-- The states in which weights are shown (R39). -/
def PlatterState.showsWeight : PlatterState → Bool
  | .motion | .stable => true
  | .uncalibrated | .zeroing | .overload | .underload | .fault | .held => false

/-- The states in which a gross fine weight exists (R57). -/
def PlatterState.hasGross : PlatterState → Bool
  | .motion | .stable | .overload | .underload => true
  | .uncalibrated | .zeroing | .fault | .held => false

/-! ### Weight reports (R39 to R41) -/

/-- The four weight fields, in the states that show them (R39). -/
def Channel.weights (c : Channel) : Option Weights :=
  if c.state.showsWeight then
    match c.gross with
    | some g =>
      some ⟨c.record.met.roundWeight g, c.record.met.roundWeight (c.netOf g), c.tare / 1000,
        c.record.met.divisionFor (c.netOf g)⟩
    | none => none
  else none

/-- The zero-centre flag: MOTION or STABLE with the gross fine weight within e1/4 of zero (R39). -/
def Channel.zeroCentre (c : Channel) : Bool :=
  c.state.showsWeight &&
    match c.gross with
    | some g => decide ((g.natAbs : Int) ≤ 250 * c.record.met.e1)
    | none => false

/-- The current report fields (R39). -/
def Channel.report (c : Channel) (w : Platter) : Report :=
  ⟨w, c.state, c.weights, c.tareKind, c.zeroCentre, c.interlock⟩

/-- Sends the current fields to the home station and starts the report timer; with the home station's link not UP it
sends nothing, empties the last-sent record and starts no timer (R40, R41). -/
def State.sendReport (s : State) (w : Platter) : State :=
  let c := s.channel w
  let home : Port := .station c.working.home
  if (s.linkOf home).state = .up then
    (s.setChannel w { c with lastSent := some (c.report w), reportTimer := some c.working.reportInterval }).notify home
      (.weight (c.report w))
  else s.setChannel w { c with lastSent := none }

/-- A report check (R40). -/
def State.reportCheck (s : State) (w : Platter) : State :=
  let c := s.channel w
  if c.lastSent = some (c.report w) then s.setChannel w { c with reportPending := false }
  else if c.reportTimer = none then s.sendReport w
  else s.setChannel w { c with reportPending := true }

/-- A PLATTER_ALERT to the office and the home station, with the platter's state as it stands (R28). -/
def State.alert (s : State) (w : Platter) (reason : AlertReason) : State :=
  let c := s.channel w
  s.notifyAll [.office, .station c.working.home] (.platterAlert w reason c.state)

/-! ### The evaluation (R22, R25 to R31, R35, R57) -/

/-- The fine weight of a full window under a valid record, absent without one (R22). -/
def Channel.fineNow (c : Channel) : Option Int :=
  if c.record.valid then
    match c.record.z, c.record.k, c.record.l with
    | some z, some k, some l =>
      some (roundAway ((c.sum - c.working.n * z) * l * k.sign) (c.working.n * k.natAbs))
    | _, _, _ => none
  else none

/-- Step 1 of R26: the fine weight, the window average, and both histories (R22, R25, R63). -/
def Channel.measure (c : Channel) : Channel :=
  let c := { c with calHistory := lastEntries c.working.m (c.calHistory ++ [averageCount c.sum c.working.n]) }
  match c.fineNow with
  | some f => { c with fine := some f, history := lastEntries c.working.m (c.history ++ [f]) }
  | none => { c with fine := none }

/-- The evaluation is stable (R25). -/
def Channel.stableNow (c : Channel) : Bool :=
  c.fine.isSome && c.history.length = c.working.m && decide (spread c.history ≤ c.bandMg) && c.extremes = 0

/-- The state an evaluation decides, rows 1 to 8 of R27. A platter whose hold owner was lost during a store write is
still HELD (R61). -/
def Channel.decideState (c : Channel) : PlatterState :=
  if c.holdOwner.isSome ∨ c.state = .held then .held
  else if ¬ c.record.valid then .uncalibrated
  else
    match c.gross with
    | none => .zeroing
    | some g =>
      if c.extremes > 0 then .overload
      else if g > c.record.met.overloadMg then .overload
      else if g < c.record.met.underloadMg then .underload
      else if c.stableNow then .stable
      else .motion

/-- Entry into ZEROING (R29). -/
def Channel.enterZeroing (c : Channel) : Channel := { c with state := .zeroing, zi := none, zp := 0, zeroAlert := false }

/-- Step 2 of R26: the new state, with the effects of entering ZEROING and the alert of entering OVERLOAD or UNDERLOAD
(R27 to R29). DESIGN CHOICE (log entry 35): R24 sends no alert for leaving FAULT and R28 sends one for an evaluation
that moves a platter into OVERLOAD or UNDERLOAD from any other state; from FAULT into these, the alert of R28 is
sent. -/
def Channel.settle (c : Channel) : Channel × List AlertReason :=
  let new := c.decideState
  if new = c.state then (c, [])
  else
    match new with
    | .zeroing => (c.enterZeroing, [])
    | .overload => ({ c with state := .overload }, [.overload])
    | .underload => ({ c with state := .underload }, [.underload])
    | other => ({ c with state := other }, [])

/-- Step 3 of R26 in ZEROING at a stable evaluation: the initial zero is taken within 10 % of Max2, otherwise one
ZERO_RANGE alert is due per stay (R30). -/
def Channel.initialZero (c : Channel) : Channel × List AlertReason :=
  match c.fine with
  | none => (c, [])
  | some f =>
    if (f.natAbs : Int) ≤ 100 * c.record.met.max2 then
      ({ c with zi := some f, zp := 0, state := .stable, zeroAlert := false }, [])
    else if c.zeroAlert then (c, [])
    else ({ c with zeroAlert := true }, [.zeroRange])

/-- Step 4 of R26: zero tracking in STABLE (R31). -/
def Channel.track (c : Channel) : Channel :=
  match c.gross with
  | none => c
  | some g =>
    if c.tareKind = .none ∧ (g.natAbs : Int) ≤ 500 * c.record.met.e1 ∧
        ((c.zp + g).natAbs : Int) ≤ 20 * c.record.met.max2 then
      { c with zp := c.zp + g }
    else c

/-- The tare replaced, which clears the consumed-since-tare flag (R33). -/
def Channel.setTare (c : Channel) (mg : Nat) (kind : TareKind) : Channel :=
  { c with tare := mg, tareKind := kind, consumedSinceTare := false }

/-- Step 5 of R26: automatic tare clear in STABLE (R35). -/
def Channel.autoClear (c : Channel) : Channel :=
  match c.gross with
  | none => c
  | some g =>
    if c.working.autoTareClear ∧ c.tareKind ≠ .none ∧ c.consumedSinceTare ∧
        (g.natAbs : Int) ≤ 500 * c.record.met.e1 then
      c.setTare 0 .none
    else c

/-- Step 6 of R26: the release test of the reweigh interlock (R57). -/
def Channel.releaseInterlock (c : Channel) : Channel :=
  if c.interlock ∧ c.state.hasGross then
    match c.gross with
    | none => c
    | some g =>
      if g < 20000 * c.record.met.e1 ∨ ((g - c.interlockRef).natAbs : Int) ≥ 10000 * c.record.met.e1 then
        { c with interlock := false }
      else c
  else c

/-- Steps 3 to 5 of R26. An evaluation that takes the initial zero makes neither step 4 nor step 5. -/
def Channel.zeroAndTare (c : Channel) : Channel × List AlertReason :=
  if c.state = .zeroing then (if c.stableNow then c.initialZero else (c, []))
  else if c.state = .stable then (c.track.autoClear, [])
  else (c, [])

/-- Steps 1 to 6 of R26, and the alerts that are due. -/
def Channel.weigh (c : Channel) : Channel × List AlertReason :=
  let (c, alerts) := c.measure.settle
  let (c, more) := c.zeroAndTare
  (c.releaseInterlock, alerts ++ more)

/-! ### The calibration hold (R38, R58 to R61) -/

/-- The weighing effects of a hold grant (R38, R56, R59). -/
def Channel.granted (c : Channel) (owner : Port) : Channel :=
  { c.setTare 0 .none with
    state := .held, holdOwner := some owner, interlock := false, openCapture := none }

/-- A hold is granted to a port (R59). -/
def State.grantHold (s : State) (w : Platter) (owner : Port) : State :=
  (s.setChannel w ((s.channel w).granted owner)).reportCheck w

/-- The channel leaves HELD (R38, R60): the silence timer runs again, and the record decides between ZEROING and
UNCALIBRATED. -/
def Channel.released (c : Channel) : Channel :=
  let c := { c with holdOwner := none, silence := if c.silence = none then some Config.silenceMs else c.silence }
  if c.record.valid then c.enterZeroing else { c with state := .uncalibrated }

/-- The hold ends (R38, R60). -/
def State.endHold (s : State) (w : Platter) : State :=
  let c := (s.channel w).released
  let s := s.setChannel w c
  (if c.record.valid then s else s.alert w .uncalibrated).reportCheck w

/-- A pending grant is given at the end of an operation, and its deferred reply produced (R58). -/
def State.givePending (s : State) (w : Platter) : State :=
  match (s.channel w).pendingGrant with
  | none => s
  | some r =>
    ((s.setChannel w { s.channel w with pendingGrant := none }).grantHold w r.port).ok r .empty

/-- The slot is emptied. -/
def State.clearSlot (s : State) (w : Platter) : State := s.setChannel w { s.channel w with slot := none }

/-- An operation ends with this reply, and a pending grant is given (R52, R58). -/
def State.endOperation (s : State) (w : Platter) (op : OpEntry) (result : Result) (payload : Payload) : State :=
  ((s.clearSlot w).replyTo op.replyTo result payload).givePending w

/-! ### The operation slot (R49 to R55, R64, R65) -/

/-- A last unmet condition as the result code of a refusal (R51). -/
def Unmet.result : Unmet → Result
  | .notReady => .notReady
  | .motion => .motion
  | .reweigh => .reweigh
  | .overload => .overload
  | .underload => .underload

/-- What a failed "state is STABLE" condition records (R50). -/
def PlatterState.unmet : PlatterState → Unmet
  | .motion => .motion
  | .overload => .overload
  | .underload => .underload
  | .uncalibrated | .zeroing | .stable | .fault | .held => .notReady

/-- The calibration conditions in order: the first that fails, absent when the evaluation is calibration-stable (R50,
R63). -/
def Channel.calibrationUnmet (c : Channel) : Option Unmet :=
  if c.calHistory.length ≠ c.working.m then some .notReady
  else if c.extremes > 0 then some .overload
  else if spread c.calHistory > Config.calibrationSpread then some .motion
  else none

/-- An operation's first failing condition, absent when all hold (R50). -/
def Channel.unmetFor (c : Channel) : OpKind → Option Unmet
  | .zero => if c.state ≠ .stable then some c.state.unmet else if c.tareKind ≠ .none then some .notReady else none
  | .tare => if c.state ≠ .stable then some c.state.unmet else none
  | .capture => if c.state ≠ .stable then some c.state.unmet else if c.interlock then some .reweigh else none
  | .calZero | .calSpan => c.calibrationUnmet
  | .configure => some .notReady

/-- The capture record of a completing CAPTURE (R55). -/
def Channel.captureRecord (c : Channel) (w : Platter) (gross : Int) (request : Nat) : CaptureRecord where
  number := c.nextCapture
  platter := w
  grossFine := gross
  netFine := c.netOf gross
  net := c.record.met.roundWeight (c.netOf gross)
  division := c.record.met.divisionFor (c.netOf gross)
  tare := c.tare / 1000
  tareKind := c.tareKind
  met := c.record.met
  request := request

/-- The capture number after one: 65,535 is followed by 1 (R55). -/
def nextCaptureNumber (n : Nat) : Nat := if n ≥ 65535 then 1 else n + 1

/-- The window average of the evaluation: the newest entry of the calibration history (R22, R63). -/
def Channel.average (c : Channel) : Int := c.calHistory.getLastD 0

/-- The report of one capture completed, for the station of the PRICE ITEM (R55, R180). -/
def captureReports (p : Port) : List TotalsReport :=
  match p with
  | .station st => [.captureCompleted st]
  | .office => []

/-- A store write begins: the entry is WRITING, its timer does not run (R51, R67). -/
def State.beginWrite (s : State) (w : Platter) (op : OpEntry) (record : StoreRecord) : State :=
  s.setChannel w { s.channel w with slot := some { op with phase := .writing record none, timer := none } }

/-- An operation whose conditions all hold completes (R53 to R55, R64, R65). -/
def State.completeOperation (s : State) (w : Platter) (op : OpEntry) : State :=
  let c := s.channel w
  let met := c.record.met
  match op.kind, c.gross with
  | .zero, some g =>
    if ((c.zp + g).natAbs : Int) ≤ 20 * met.max2 then
      (s.setChannel w { c with zp := c.zp + g }).endOperation w op .ok .empty
    else s.endOperation w op .zeroRange .empty
  | .tare, some g =>
    if g ≤ 1000 * met.max1 ∧ 0 < met.roundWeight g then
      (s.setChannel w (c.setTare ((met.roundWeight g).toNat * 1000) .weighed)).endOperation w op .ok
        (.tareApplied (met.roundWeight g).toNat)
    else s.endOperation w op .tareLimit .empty
  | .capture, some g =>
    let s := s.setChannel w { c with openCapture := some (c.nextCapture, g), nextCapture := nextCaptureNumber c.nextCapture }
    let s := { s with transit := { s.transit with
      captures := s.transit.captures ++ [c.captureRecord w g op.captureRequest]
      totals := s.transit.totals ++ captureReports op.port } }
    s.endOperation w op .ok .empty
  | .calZero, _ => s.beginWrite w op { c.record with z := some c.average }
  | .calSpan, _ =>
    match c.record.z with
    | none => s.endOperation w op .badSpan .empty
    | some z =>
      let k := c.average - z
      let l := 1000 * op.loadGrams
      if Config.spanMin ≤ k ∧ 100 * met.max2 ≤ l ∧ l ≤ 1000 * met.max2 then
        s.beginWrite w op { c.record with k := some k, l := some l, valid := true }
      else s.endOperation w op .badSpan .empty
  | _, _ => s

/-- Step 7 of R26: the WAITING operation in the slot is tested, and completes or records its last unmet condition
(R50). -/
def State.testOperation (s : State) (w : Platter) : State :=
  let c := s.channel w
  match c.slot with
  | none => s
  | some op =>
    match op.phase with
    | .writing _ _ => s
    | .waiting =>
      match c.unmetFor op.kind with
      | some u => s.setChannel w { c with slot := some { op with lastUnmet := u } }
      | none => s.completeOperation w op

/-- An evaluation (R26). -/
def State.evaluate (s : State) (w : Platter) : State :=
  let (c, alerts) := (s.channel w).weigh
  let s := s.setChannel w c
  let s := alerts.foldl (fun s reason => s.alert w reason) s
  (s.testOperation w).reportCheck w

/-! ### Samples (R20, R21) -/

/-- The sample is at either end of its range (R21). -/
def isExtreme (v : Int) : Bool := v = -8388608 || v = 8388607

/-- One extreme sample counts 1. -/
def extremeCount (v : Int) : Nat := if isExtreme v then 1 else 0

/-- Steps 1 and 2 of R20: the silence timer restarts, the sample joins the window, and beyond N the oldest leaves. -/
def Channel.addSample (c : Channel) (v : Int) : Channel :=
  let c := { c with
    silence := some Config.silenceMs
    window := c.window ++ [v]
    sum := c.sum + v
    extremes := c.extremes + extremeCount v }
  if c.window.length > c.working.n then
    match c.window with
    | [] => c
    | old :: rest => { c with window := rest, sum := c.sum - old, extremes := c.extremes - extremeCount old }
  else c

/-- The window is emptied, with its sum, its extreme count, the fine weight and both histories (R23, R46, R63). -/
def Channel.emptyWindow (c : Channel) : Channel :=
  { c with window := [], sum := 0, extremes := 0, fine := none, history := [], calHistory := [] }

/-! ### Requests for an operation (R49) -/

/-- Tests 1 to 5 of R49 for an operation asked for by a port. -/
def Channel.admitOperation (c : Channel) (sealHigh : Bool) (p : Port) (kind : OpKind) : Except Result Unit := do
  match kind with
  | .calZero | .calSpan => require (c.holdOwner = some p) .held
  | .zero | .tare | .capture | .configure =>
    require (c.holdOwner.isNone && c.pendingGrant.isNone && c.state ≠ .held) .held
  require c.slot.isNone .platterBusy
  match kind with
  | .zero => require (c.tareKind = .none) .tareLimit
  | .calZero => require sealHigh .sealed
  | .calSpan => do
    require sealHigh .sealed
    require c.record.z.isSome .badSpan
  | .tare | .capture | .configure => pure ()

/-- A fresh entry of the slot for a request, WAITING, its timeout timer started (R49). -/
def Channel.newEntry (c : Channel) (kind : OpKind) (r : Requester) (captureRequest load : Nat) : OpEntry where
  kind := kind
  port := r.port
  tag := r.tag
  replyTo := if kind = .capture then none else some r
  captureRequest := captureRequest
  loadGrams := load
  phase := .waiting
  timer := some c.working.captureTimeout
  lastUnmet := .notReady

/-- ZERO, TARE, CAL ZERO or CAL SPAN asked for: it enters the slot, or is refused at once (R49). -/
def State.askOperation (s : State) (w : Platter) (kind : OpKind) (load : Nat) (r : Requester) : State :=
  let c := s.channel w
  match c.admitOperation s.sealHigh r.port kind with
  | .error e => s.refuse r e
  | .ok () => s.setChannel w { c with slot := some (c.newEntry kind r 0 load) }

/-- A waiting operation is refused at its timeout or by SEAL: a CAPTURE's refusal goes to the transaction table, any
other is the deferred reply (R51, R62). -/
def State.refuseOperation (s : State) (w : Platter) (op : OpEntry) (result : Result) : State :=
  let s :=
    if op.kind = .capture then
      { s with transit := { s.transit with
        captureRefusals := s.transit.captureRefusals ++ [⟨w, op.captureRequest, result⟩] } }
    else s
  s.endOperation w op result .empty

/-- The requester is the platter's home station (R42). -/
def Channel.isHome (c : Channel) (p : Port) : Bool := p = .station c.working.home

/-! ### Settings (R46, R67, R68) -/

/-- The metrology settings that would result from a CONFIGURE PLATTER (R68). -/
def resultingMetrology (f : PlatterFields) (m : Metrology) : Metrology :=
  ⟨f.max1.getD m.max1, f.e1.getD m.e1, f.max2.getD m.max2, f.e2.getD m.e2⟩

/-- A metrology field is present (R68). -/
def hasMetrology (f : PlatterFields) : Bool :=
  f.max1.isSome || f.e1.isSome || f.max2.isSome || f.e2.isSome

/-- The divisions a platter may have, in g (R19). -/
def legalDivision (e : Nat) : Bool := e = 1 || e = 2 || e = 5 || e = 10 || e = 20

/-- The settings are legal (R68). -/
def Metrology.legal (m : Metrology) : Bool :=
  legalDivision m.e1 && legalDivision m.e2 && m.max1 % m.e1 = 0 && m.e1 ≤ m.max1 && m.max2 % m.e2 = 0 &&
    m.e2 ≤ m.max2 && m.max1 / m.e1 ≤ 3000 && m.max2 / m.e2 ≤ 3000 && m.max1 ≤ m.max2 &&
    (if m.max1 = m.max2 then m.e2 = m.e1 else m.e1 < m.e2)

/-- N, if present, is 4, 8, 16 or 32 (R68). -/
def legalFilter : Option Nat → Bool
  | none => true
  | some n => n = 4 || n = 8 || n = 16 || n = 32

/-- The home station, if present, is a station (R68). -/
def legalHome : Option Port → Bool
  | none => true
  | some p => p.station?.isSome

/-- A new N empties the window and both histories (R46, R63). -/
def Channel.setN (c : Channel) : Option Nat → Channel
  | none => c
  | some n => { c.emptyWindow with working := { c.working with n := n } }

/-- A new M, clamped, shortens both histories to it (R46, R63, R68). -/
def Channel.setM (c : Channel) : Option Nat → Channel
  | none => c
  | some m =>
    let m := clamp 2 16 m
    { c with working := { c.working with m := m }, history := lastEntries m c.history,
             calHistory := lastEntries m c.calHistory }

/-- A new home station empties the last-sent record, stops the report timer and clears the pending flag (R41, R46). -/
def Channel.setHome (c : Channel) : Option Port → Channel
  | some (.station st) =>
    { c with working := { c.working with home := st }, lastSent := none, reportTimer := none, reportPending := false }
  | some .office | none => c

/-- The working fields of a CONFIGURE PLATTER take effect (R46); M, motion band, capture timeout and report interval
are clamped (R68). -/
def Channel.applyWorking (c : Channel) (f : PlatterFields) : Channel :=
  let c := ((c.setN f.n).setM f.m).setHome f.home
  { c with working := { c.working with
    motionBand := (f.motionBand.map (clamp 1 6)).getD c.working.motionBand
    captureTimeout := (f.captureTimeout.map (clamp 500 10000)).getD c.working.captureTimeout
    reportInterval := (f.reportInterval.map (clamp 100 1000)).getD c.working.reportInterval
    autoTareClear := f.autoTareClear.getD c.working.autoTareClear } }

/-- The tests of CONFIGURE PLATTER, in order (R68). -/
def Channel.configureTests (c : Channel) (sealHigh : Bool) (p : Port) (f : PlatterFields) : Except Result Unit := do
  require (c.holdOwner = some p) .held
  require (!hasMetrology f || c.slot.isNone) .platterBusy
  require (!hasMetrology f || sealHigh) .sealed
  require (resultingMetrology f c.record.met).legal .badValue
  require (legalFilter f.n && legalHome f.home) .badValue

/-- A successful write: the record is replaced whole and its counter raised; new metrology settings make Zi absent and
Zp 0, and the working fields of the same request take effect (R32, R67, R68). -/
def Channel.storeWritten (c : Channel) (record : StoreRecord) (working : Option PlatterFields) : Channel :=
  let c := { c with record := { record with counter := saturate Config.calibrationCounterCap c.record.counter } }
  match working with
  | none => c
  | some f => { c with zi := none, zp := 0 }.applyWorking f

end Sys2Proof.Machine
end

