-- ==== Sys2Proof/Machine/Calibration.lean ====
section
/-! DEFINITION. The commands of chapter 3: platter operations, the calibration hold, the SEAL line, the calibration
store and the platter's settings. -/

namespace Sys2Proof.Machine

/-- ZERO (R42, R49). -/
def execZero (p : Port) (t : Tag) (w : Platter) (s : State) : Outcome :=
  takeRequest p t (.zero p t w) s fun r s =>
    if (s.channel w).isHome p then s.askOperation w .zero 0 r else s.refuse r .denied

/-- TARE (R42, R49). -/
def execTare (p : Port) (t : Tag) (w : Platter) (s : State) : Outcome :=
  takeRequest p t (.tare p t w) s fun r s =>
    if (s.channel w).isHome p then s.askOperation w .tare 0 r else s.refuse r .denied

/-- CAL ZERO (R49). -/
def execCalZero (p : Port) (t : Tag) (w : Platter) (s : State) : Outcome :=
  takeRequest p t (.calZero p t w) s fun r s => s.askOperation w .calZero 0 r

/-- CAL SPAN (R49). -/
def execCalSpan (p : Port) (t : Tag) (w : Platter) (loadGrams : Nat) (s : State) : Outcome :=
  takeRequest p t (.calSpan p t w loadGrams) s fun r s => s.askOperation w .calSpan loadGrams r

/-- The operation waiting in the slot, absent when the slot is empty or holds a write. -/
def Channel.waitingOp (c : Channel) : Option OpEntry :=
  match c.slot with
  | some op =>
    match op.phase with
    | .waiting => some op
    | .writing _ _ => none
  | none => none

/-- OPERATION_TIMEOUT: the waiting operation is refused with its last unmet condition (R51). -/
def execOperationTimeout (w : Platter) (s : State) : Outcome :=
  match (s.channel w).waitingOp with
  | none => done s
  | some op => done (s.refuseOperation w op op.lastUnmet.result)

/-- CAPTURE_CANCELLATION: the oldest cancellation of a capture on its way to the channel. It ends the CAPTURE that
waits with its number, and names nothing otherwise (R52). -/
def execCaptureCancellation (w : Platter) (s : State) : Outcome :=
  match takeFirst (fun (m : Platter × Nat) => m.1 = w) s.transit.captureCancels with
  | none => done s
  | some ((_, number), rest) =>
    let s := { s with transit := { s.transit with captureCancels := rest } }
    match (s.channel w).waitingOp with
    | some op =>
      if op.kind = .capture ∧ op.captureRequest = number then done ((s.clearSlot w).givePending w) else done s
    | none => done s

/-- What a consumption report does at the channel: the interlock is set, and a standing tare is marked as consumed
(R56). -/
def Channel.consume (c : Channel) (gross : Int) : Channel :=
  { c with
    interlock := true
    interlockRef := gross
    consumedSinceTare := c.consumedSinceTare || c.tareKind ≠ .none
    openCapture := none }

/-- CAPTURE_CONSUMED: the oldest consumption report on its way to the channel. It acts when it names the open capture;
a hold grant has closed that capture (R56). -/
def execCaptureConsumed (w : Platter) (s : State) : Outcome :=
  match takeFirst (fun (m : Platter × Nat) => m.1 = w) s.transit.consumptions with
  | none => done s
  | some ((_, number), rest) =>
    let s := { s with transit := { s.transit with consumptions := rest } }
    let c := s.channel w
    match c.openCapture with
    | some (openNumber, gross) =>
      if openNumber = number then done ((s.setChannel w (c.consume gross)).reportCheck w) else done s
    | none => done s

/-- CAL HOLD (R58). -/
def execCalHold (p : Port) (t : Tag) (w : Platter) (s : State) : Outcome :=
  takeRequest p t (.calHold p t w) s fun r s =>
    let c := s.channel w
    if c.holdOwner = some p then s.ok r .empty
    else if c.holdOwner.isSome ∨ c.pendingGrant.isSome ∨ c.state = .held then s.refuse r .held
    else if c.slot.isNone then (s.grantHold w p).ok r .empty
    else s.setChannel w { c with pendingGrant := some r }

/-- CAL RELEASE (R60). -/
def execCalRelease (p : Port) (t : Tag) (w : Platter) (s : State) : Outcome :=
  takeRequest p t (.calRelease p t w) s fun r s =>
    let c := s.channel w
    if c.holdOwner ≠ some p then s.refuse r .held
    else if c.slot.isSome then s.refuse r .platterBusy
    else (s.endHold w).ok r .empty

/-- STORE_WRITE_END: the write in flight ends in success or failure (R67). A platter whose hold owner's link was reset
during the write then leaves HELD (R61). -/
def execStoreWriteEnd (w : Platter) (success : Bool) (s : State) : Outcome :=
  let c := s.channel w
  match c.slot with
  | none => done s
  | some op =>
    match op.phase with
    | .waiting => done s
    | .writing record working =>
      let s := if success then s.setChannel w (c.storeWritten record working) else s
      let s := s.endOperation w op (if success then .ok else .storeFault) .empty
      done (if (s.channel w).holdOwner.isNone ∧ (s.channel w).state = .held then s.endHold w else s)

/-- One platter's waiting CAL ZERO or CAL SPAN ends refused SEALED (R62). -/
def State.sealOff (s : State) (w : Platter) : State :=
  match (s.channel w).waitingOp with
  | some op => if op.kind = .calZero ∨ op.kind = .calSpan then s.refuseOperation w op .sealed else s
  | none => s

/-- SEAL_FALLS (R62). DESIGN CHOICE (log entry 36): the spec gives no order among the platters; W1 to W4 act in order. -/
def execSealFalls (s : State) : Outcome :=
  if s.sealHigh then done (Platter.all.foldl State.sealOff { s with sealHigh := false }) else done s

/-- SEAL_RISES: later requests find SEAL active; no operation is resumed (R62). -/
def execSealRises (s : State) : Outcome := done { s with sealHigh := true }

/-- The entry of the slot for a CONFIGURE PLATTER's store write: WRITING at once, no timer (R49, R68). -/
def Channel.configureEntry (c : Channel) (r : Requester) (f : PlatterFields) : OpEntry :=
  { c.newEntry .configure r 0 0 with
    phase := .writing { c.record with met := resultingMetrology f c.record.met, valid := false } (some f)
    timer := none }

/-- CONFIGURE PLATTER (R68): working fields take effect at once; a metrology field begins a store write. -/
def execConfigurePlatter (p : Port) (t : Tag) (w : Platter) (fields : PlatterFields) (s : State) : Outcome :=
  takeRequest p t (.configurePlatter p t w fields) s fun r s =>
    let c := s.channel w
    match c.configureTests s.sealHigh p fields with
    | .error e => s.refuse r e
    | .ok () =>
      if hasMetrology fields then s.setChannel w { c with slot := some (c.configureEntry r fields) }
      else (s.setChannel w (c.applyWorking fields)).ok r .empty

/-- A store write is in flight for the platter (R69). -/
def Channel.writing (c : Channel) : Bool :=
  match c.slot with
  | some op =>
    match op.phase with
    | .writing _ _ => true
    | .waiting => false
  | none => false

/-- READ CALIBRATION (R69). -/
def execReadCalibration (p : Port) (t : Tag) (w : Platter) (s : State) : Outcome :=
  takeRequest p t (.readCalibration p t w) s fun r s =>
    let c := s.channel w
    s.ok r (.calibration ⟨c.record, c.writing, s.sealHigh, c.holdOwner, c.pendingGrant.map (·.port)⟩)

end Sys2Proof.Machine
end

