-- ==== Sys2Proof/Machine/Outlets.lean ====
section
/-! DEFINITION. The outlets (chapter 8): job acceptance, line flow, the HOLD line and stall, paper and presence,
cancellation, and their requests. -/

namespace Sys2Proof.Machine

/-! ### One outlet -/

/-- The hold limit in ms (R152). -/
def Outlet.limitMs (x : Outlet) : Nat := x.prescale * x.limitCount * 100

/-- Which jobs an outlet's kind accepts (R152). -/
def kindAccepts : OutletKind → JobKind → Bool
  | .label, .item | .label, .total | .ticket, .ticket | .display, .display => true
  | .label, .ticket | .label, .display | .ticket, .item | .ticket, .total | .ticket, .display | .display, .item
  | .display, .total | .display, .ticket => false

/-- The states in which an outlet accepts offers (R155). -/
def OutletState.accepts : OutletState → Bool
  | .ready | .printing | .held => true
  | .offline | .stalled | .noPaper => false

/-- ITEM and TOTAL jobs, which the queued label count counts (R191). -/
def JobKind.isLabel : JobKind → Bool
  | .item | .total => true
  | .ticket | .display => false

/-- Some lines of a job with their markers, the first having index `i` of `total` (R158). -/
def markedLines (total : Nat) : Nat → List Text → List PrintLine
  | _, [] => []
  | i, text :: rest => ⟨text, i = 0, i + 1 = total⟩ :: markedLines total (i + 1) rest

/-- The next `n` lines of a job not yet moved (R157). -/
def QueuedJob.nextLines (j : QueuedJob) (n : Nat) : List PrintLine :=
  markedLines j.job.lines.length j.moved ((j.job.lines.drop j.moved).take n)

/-- The refill of the line queue: in PRINTING with two or more places free, up to four lines of the head job (R157). -/
def Outlet.refill (x : Outlet) : Outlet :=
  match x.jobs with
  | [] => x
  | j :: rest =>
    if x.state = .printing ∧ x.lineQueue.length + 2 ≤ Config.lineQueue then
      let new := j.nextLines (Config.lineQueue - x.lineQueue.length)
      { x with lineQueue := x.lineQueue ++ new, jobs := { j with moved := j.moved + new.length } :: rest }
    else x

/-- The first line of the line queue goes to the device when none is in transfer (R158). -/
def Outlet.send (x : Outlet) : Outlet :=
  if x.state = .printing ∧ ¬ x.transfer then
    match x.lineQueue with
    | [] => x
    | l :: _ => { x with transfer := true, sent := .line l :: x.sent }
  else x

/-- The refill test, then the next send. -/
def Outlet.pump (x : Outlet) : Outlet := x.refill.send

/-- The outlet resumes (R156). -/
def Outlet.resume (x : Outlet) : Outlet :=
  if x.paperOut then { x with state := .noPaper }
  else if x.hold then { x with state := .held, holdTimer := some x.limitMs }
  else
    match x.jobs with
    | [] => { x with state := .ready }
    | _ :: _ => { x with state := .printing }.pump

/-- The line queue is emptied and the line in transfer abandoned (R162, R164, R165). -/
def Outlet.abandonLines (x : Outlet) : Outlet := { x with lineQueue := [], transfer := false }

/-- The head job is returned for reprint (R162). -/
def Outlet.returnHead (x : Outlet) : Outlet :=
  match x.jobs with
  | [] => x
  | j :: rest => { x with jobs := { j with moved := 0, taken := 0, passes := j.passes + 1 } :: rest }

/-- "abort job" goes to the device, unless the outlet is OFFLINE (R167, R168). -/
def Outlet.abort (x : Outlet) : Outlet := if x.state = .offline then x else { x with sent := .abortJob :: x.sent }

/-- The job id after one: 65,535 is followed by 1 (R154). -/
def nextJobId (n : Nat) : Nat := if n ≥ 65535 then 1 else n + 1

/-- The first id from `n` on that no job in the queue holds; with at most 8 jobs, 9 tries are enough (R154). -/
def freshId (jobs : List QueuedJob) : Nat → Nat → Nat
  | 0, n => n
  | fuel + 1, n => if jobs.any (fun j => j.id = n) then freshId jobs fuel (nextJobId n) else n

/-- The oldest job that has no line moved and none taken in any pass leaves a full DISPLAY queue (R155). DESIGN CHOICE (log
entry 50): lines moved in an earlier pass do not count, as the job's lines moved are those of its current pass (R154). -/
def dropUnstarted (jobs : List QueuedJob) : List QueuedJob :=
  match takeFirst (fun (j : QueuedJob) => j.moved = 0 && !j.started) jobs with
  | some (_, rest) => rest
  | none => jobs

/-- An offer of a job: absent when refused, otherwise the outlet with the job and the job's id (R154, R155). -/
def Outlet.offer (x : Outlet) (job : Job) : Option (Outlet × Nat) :=
  if kindAccepts x.kind job.kind ∧ x.state.accepts ∧ (x.jobs.length < Config.jobQueue ∨ job.kind = .display) then
    let kept := if x.jobs.length < Config.jobQueue then x.jobs else dropUnstarted x.jobs
    let id := freshId kept (Config.jobQueue + 1) x.nextId
    let x := { x with
      jobs := kept ++ [⟨id, job, 0, 0, false, 0, false, []⟩]
      nextId := nextJobId id
      labelCount := if job.kind.isLabel then x.labelCount + 1 else x.labelCount }
    some (if x.state = .ready then { x with state := .printing }.pump else x, id)
  else none

/-! ### Outlets and the other blocks -/

/-- A composed job offered to one outlet: absent when refused. -/
def State.offer (s : State) (o : OutletId) (job : Job) : Option (State × Nat) :=
  match (s.outletOf o).offer job with
  | none => none
  | some (x, id) => some (s.setOutlet o x, id)

/-- A job offered to some outlets in order: the first that accepts takes it (R112, R136). -/
def State.offerInOrder (s : State) (job : Job) : List OutletId → Option (State × OutletId × Nat)
  | [] => none
  | o :: rest =>
    match s.offer o job with
    | some (s, id) => some (s, o, id)
    | none => s.offerInOrder job rest

/-- The outlet is the station's primary or fallback outlet (R160, R166). -/
def OutletRouting.names (r : OutletRouting) (o : OutletId) : Bool := r.primary = some o || r.fallback = some o

/-- Where an outlet's OUTLET_DRAINED and OUTLET_STATE go: the office, and the stations it serves (R160, R166). -/
def State.outletPorts (s : State) (o : OutletId) : List Port :=
  .office :: (Station.all.filter (fun st => (s.txn.routing.get st).names o)).map .station

/-- OUTLET_STATE, with the state before and what stands now (R166). -/
def State.tellOutletState (s : State) (o : OutletId) (before : OutletState) : State :=
  let x := s.outletOf o
  s.notifyAll (s.outletPorts o)
    (.outletState o before x.state x.jobs.length (x.jobs.head?.map (fun j => (j.id, j.passes))) x.stalls)

/-- A line's reference to an item label job is cleared when the job has left its queue (R106). -/
def Line.clearLabel (o : OutletId) (job : Nat) (l : Line) : Line :=
  if l.label = some (o, job) then { l with label := none } else l

/-- The transaction table hears that an item label job has left its queue (R106, R159, R167). -/
def State.clearLabel (s : State) (o : OutletId) (job : Nat) : State :=
  { s with txn := { s.txn with
    held := s.txn.held.map (fun x => { x with lines := x.lines.map (Line.clearLabel o job) })
    closed := s.txn.closed.map (fun x => { x with lines := x.lines.map (Line.clearLabel o job) }) } }

/-- After a job has left the queue by completion or cancellation: the label count falls, an item label's line forgets
it, and an emptied queue or a new head has its effects (R159, R160, R167, R191). -/
def State.jobLeft (s : State) (o : OutletId) (j : QueuedJob) (wasHead : Bool) : State :=
  let x := s.outletOf o
  let x := { x with labelCount := if j.job.kind.isLabel then x.labelCount - 1 else x.labelCount }
  let s := if j.job.kind = .item then s.clearLabel o j.id else s
  match x.jobs with
  | [] =>
    let s := s.setOutlet o { x with completed := 0, state := if x.state = .printing then .ready else x.state }
    if x.mode = .drain then s.notifyAll (s.outletPorts o) (.outletDrained o x.completed) else s
  | _ :: _ => s.setOutlet o (if wasHead then x.pump else x)

/-- The head job leaves the queue. -/
def State.dropHead (s : State) (o : OutletId) (j : QueuedJob) : State :=
  (s.setOutlet o { s.outletOf o with jobs := (s.outletOf o).jobs.drop 1 }).jobLeft o j true

/-- Every waiting cancel is answered CANCELLED (R168). DESIGN CHOICE (log entry 46): in the order in which they joined. -/
def State.answerCancels (s : State) (rs : List Requester) : State := rs.foldl (fun s r => s.refuse r .cancelled) s

/-- The cancel waiting on the head job completes (R168). -/
def State.completeCancel (s : State) (o : OutletId) (j : QueuedJob) : State :=
  ((s.setOutlet o (s.outletOf o).abandonLines.abort).dropHead o j).answerCancels j.cancels

/-- After the line in transfer was abandoned: a cancel waiting on the head job completes, and otherwise the head job is
returned for reprint (R162, R164, R165, R168). -/
def State.returnOrCancel (s : State) (o : OutletId) : State :=
  match (s.outletOf o).jobs with
  | [] => s
  | j :: _ => if j.cancelWaiting then s.completeCancel o j else s.setOutlet o (s.outletOf o).returnHead

/-- A cancel of a job in the queue, by CANCEL JOB (with its requester) or by the transaction table's order (R167). -/
def State.cancelQueued (s : State) (o : OutletId) (id : Nat) (r : Option Requester) : State :=
  let x := s.outletOf o
  match x.jobs with
  | [] => s
  | head :: rest =>
    if head.id = id then
      if x.transfer then
        s.setOutlet o { x with jobs := { head with cancelWaiting := true, cancels := head.cancels ++ r.toList } :: rest }
      else if head.started then
        ((s.setOutlet o x.abandonLines.abort).dropHead o head).replyTo r .cancelled .empty
      else ((s.setOutlet o x.abandonLines).dropHead o head).replyTo r .ok .empty
    else
      match takeFirst (fun (j : QueuedJob) => j.id = id) rest with
      | none => s
      | some (j, rest) => ((s.setOutlet o { x with jobs := head :: rest }).jobLeft o j false).replyTo r .ok .empty

/-- The transaction table's order to cancel an item label job; an order that finds no such ITEM job is dropped
(R167). -/
def State.cancelOrder (s : State) (o : OutletId) (id : Nat) : State :=
  if (s.outletOf o).jobs.any (fun j => j.id = id && j.job.kind = .item) then s.cancelQueued o id none else s

/-! ### Device responses and lines -/

/-- LINE_TAKEN (R158, R168). -/
def execLineTaken (o : OutletId) (s : State) : Outcome :=
  let x := s.outletOf o
  match x.jobs with
  | [] => done s
  | head :: rest =>
    if x.transfer then
      let head := { head with taken := head.taken + 1, started := true }
      let x := { x with lineQueue := x.lineQueue.drop 1, transfer := false, jobs := head :: rest }
      done (if head.cancelWaiting then (s.setOutlet o x).completeCancel o head else s.setOutlet o x.pump)
    else done s

/-- The report of one label printed, for the originating station (R159, R180). -/
def labelReports (job : Job) : List TotalsReport :=
  if job.kind.isLabel then
    match job.origin with
    | some (.station st) => [.labelPrinted st]
    | some .office | none => []
  else []

/-- JOB_DONE to the originating port, in mode EACH (R159). -/
def State.tellJobDone (s : State) (o : OutletId) (j : QueuedJob) : State :=
  match (s.outletOf o).mode, j.job.origin with
  | .each, some p => s.notify p (.jobDone o j.id j.job.kind j.job.copy)
  | _, _ => s

/-- DEVICE_JOB_DONE (R159): in PRINTING or HELD, for a head job whose lines are all taken. -/
def execDeviceJobDone (o : OutletId) (s : State) : Outcome :=
  let x := s.outletOf o
  match x.jobs with
  | [] => done s
  | head :: rest =>
    if head.taken = head.job.lines.length ∧ (x.state = .printing ∨ x.state = .held) then
      let s := (s.setOutlet o { x with jobs := rest, completed := x.completed + 1 }).tellJobDone o head
      let s := { s with transit := { s.transit with totals := s.transit.totals ++ labelReports head.job } }
      done (s.jobLeft o head true)
    else done s

/-- HOLD_ASSERTED (R161). -/
def execHoldAsserted (o : OutletId) (s : State) : Outcome :=
  let x := { s.outletOf o with hold := true }
  done (s.setOutlet o
    (if x.state = .ready ∨ x.state = .printing then { x with state := .held, holdTimer := some x.limitMs } else x))

/-- HOLD_RELEASED (R161). -/
def execHoldReleased (o : OutletId) (s : State) : Outcome :=
  let x := { s.outletOf o with hold := false }
  done (s.setOutlet o (if x.state = .held then { x with holdTimer := none }.resume else x))

/-- HOLD_TIMER_EXPIRY (R162). -/
def execHoldTimerExpiry (o : OutletId) (s : State) : Outcome :=
  let x := s.outletOf o
  if x.holdTimer = none then done s
  else
    let s := (s.setOutlet o { x.abandonLines with state := .stalled, holdTimer := none }).returnOrCancel o
    let s := s.setOutlet o { s.outletOf o with stalls := saturate 65535 (s.outletOf o).stalls }
    done (s.tellOutletState o x.state)

/-- PAPER_OUT (R164). -/
def execPaperOut (o : OutletId) (s : State) : Outcome :=
  let x := s.outletOf o
  match x.state with
  | .offline => done s
  | .stalled | .noPaper => done (s.setOutlet o { x with paperOut := true })
  | .ready | .printing | .held =>
    let s := (s.setOutlet o { x.abandonLines with paperOut := true, holdTimer := none, state := .noPaper }).returnOrCancel o
    done (s.tellOutletState o x.state)

/-- PAPER_READY (R164). -/
def execPaperReady (o : OutletId) (s : State) : Outcome :=
  let x := s.outletOf o
  match x.state with
  | .offline => done s
  | .noPaper => done ((s.setOutlet o { x with paperOut := false }.resume).tellOutletState o .noPaper)
  | .stalled | .ready | .printing | .held => done (s.setOutlet o { x with paperOut := false })

/-- OUTLET_PRESENT_FALLS (R165). -/
def execOutletPresentFalls (o : OutletId) (s : State) : Outcome :=
  let x := s.outletOf o
  if x.state = .offline then done s
  else
    let s := (s.setOutlet o { x.abandonLines with present := false, holdTimer := none, state := .offline }).returnOrCancel o
    done (s.tellOutletState o x.state)

/-- OUTLET_PRESENT_RISES, with the HOLD level then read from the line (R165). -/
def execOutletPresentRises (o : OutletId) (hold : Bool) (s : State) : Outcome :=
  let x := s.outletOf o
  if x.state = .offline then
    done ((s.setOutlet o { x with present := true, hold := hold, paperOut := false }.resume).tellOutletState o .offline)
  else done s

/-! ### Requests -/

/-- RESUME OUTLET (R163). -/
def execResumeOutlet (p : Port) (t : Tag) (o : OutletId) (s : State) : Outcome :=
  takeRequest p t (.resumeOutlet p t o) s fun r s =>
    let x := s.outletOf o
    if x.state = .stalled then
      let s := (s.setOutlet o { x with holdTimer := none }.resume).tellOutletState o .stalled
      s.ok r (.outletState (s.outletOf o).state)
    else s.ok r (.outletState x.state)

/-- CANCEL JOB (R167). DESIGN CHOICE (log entry 49): a job id outside 1 to 65,535 names no job in the queue and is refused
NO_SUCH, as R167 says of such a request; R9 refuses a number out of its range BAD_VALUE. -/
def execCancelJob (p : Port) (t : Tag) (o : OutletId) (job : Nat) (s : State) : Outcome :=
  takeRequest p t (.cancelJob p t o job) s fun r s =>
    if (s.outletOf o).jobs.any (fun j => j.id = job) then s.cancelQueued o job (some r) else s.refuse r .noSuch

/-- A job as READ OUTLET shows it (R169). -/
def QueuedJob.view (j : QueuedJob) : JobView :=
  ⟨j.id, j.job.kind, j.job.copy, j.job.origin, j.job.lines.length, j.taken, j.passes, j.cancelWaiting⟩

/-- What is left of a running timer: a free value no greater than its period. -/
def timeLeft (reading period : Nat) : Nat := min (Config.timeLeft reading) period

/-- An outlet as READ OUTLET shows it (R169). -/
def Outlet.view (x : Outlet) (reading : Nat) : OutletView where
  kind := x.kind
  prescale := x.prescale
  limitCount := x.limitCount
  limitMs := x.limitMs
  mode := x.mode
  state := x.state
  present := x.present
  hold := x.hold
  paperOut := x.paperOut
  left := x.holdTimer.map (timeLeft reading)
  jobs := x.jobs.map QueuedJob.view
  lineQueue := x.lineQueue.length
  transfer := x.transfer
  stalls := x.stalls
  nextId := x.nextId

/-- READ OUTLET (R169). The remaining time of a running hold timer is a free value, one for each reading. -/
def execReadOutlet (p : Port) (t : Tag) (o : OutletId) (s : State) : Outcome :=
  takeRequest p t (.readOutlet p t o) s fun r s =>
    { s with timeReadings := s.timeReadings + 1 }.ok r (.outlet ((s.outletOf o).view s.timeReadings))

/-- The hold prescales (R152). -/
def legalPrescale : Option Nat → Bool
  | none => true
  | some n => n = 1 || n = 2 || n = 4 || n = 8 || n = 16 || n = 32 || n = 64 || n = 128

/-- The tests of CONFIGURE OUTLET (R153). -/
def Outlet.configureTests (x : Outlet) (f : OutletFields) : Except Result Unit := do
  require (legalPrescale f.prescale) .badValue
  require (f.kind.getD x.kind = x.kind || x.jobs.isEmpty) .inUse

/-- CONFIGURE OUTLET (R153); a hold limit count outside its range is clamped. -/
def execConfigureOutlet (p : Port) (t : Tag) (o : OutletId) (fields : OutletFields) (s : State) : Outcome :=
  takeRequest p t (.configureOutlet p t o fields) s fun r s =>
    let x := s.outletOf o
    match x.configureTests fields with
    | .error e => s.refuse r e
    | .ok () =>
      (s.setOutlet o { x with
        kind := fields.kind.getD x.kind
        prescale := fields.prescale.getD x.prescale
        limitCount := (fields.limitCount.map (clamp 1 16)).getD x.limitCount
        mode := fields.mode.getD x.mode }).ok r .empty

end Sys2Proof.Machine
end

