-- ==== Sys2Proof/Machine/Plu.lean ====
section
/-! DEFINITION. The PLU table and stock (chapter 4): the records, the maintenance requests, and the four orders of the
transaction table. -/

namespace Sys2Proof.Machine

/-! ### The table (R71, R72) -/

/-- The record of a PLU number. -/
def findPlu (n : Nat) (table : List PluRecord) : Option PluRecord := table.find? (fun r => r.number = n)

/-- The record of the lowest number above `n`, in a table kept in ascending order (R72). -/
def nextPlu (n : Nat) (table : List PluRecord) : Option PluRecord := table.find? (fun r => n < r.number)

/-- The table with a record put at the place its number gives, over any record of the same number (R71). -/
def putPlu (r : PluRecord) : List PluRecord → List PluRecord
  | [] => [r]
  | x :: xs =>
    if r.number < x.number then r :: x :: xs
    else if r.number = x.number then r :: xs
    else x :: putPlu r xs

/-- The table without a number's record. -/
def dropPlu (n : Nat) (table : List PluRecord) : List PluRecord := table.filter (fun r => r.number ≠ n)

/-- The state with a record changed in place. -/
def State.setPlu (s : State) (r : PluRecord) : State := { s with plus := putPlu r s.plus }

/-- A PLU number's range (R70). -/
def pluInRange (n : Nat) : Bool := 1 ≤ n && n ≤ 9999

/-! ### Maintenance (R73 to R79) -/

/-- A name or a second line in its range: 1 to 24 characters (R70). -/
def nameInRange (t : Text) : Bool := 1 ≤ t.length && t.length ≤ 24

/-- An optional value in its range. -/
def optional {α : Type} (test : α → Bool) : Option α → Bool
  | none => true
  | some x => test x

/-- A promotion in its range: price to 999,999, dates from 2000-01-01 to 2099-12-31, the first not after the last (R70).
DESIGN CHOICE (log entry 41): R70 names no calendar; a date that no calendar has, as 2030-02-30, is out of range. -/
def promotionInRange (p : Promotion) : Bool :=
  p.price ≤ 999999 && p.first.real && p.last.real && p.first.key ≤ p.last.key

/-- Test 1 of R73: every field in its range (R70), a preset tare only with kind BY_WEIGHT. -/
def pluFieldsInRange (n : Nat) (f : PluFields) : Bool :=
  pluInRange n && nameInRange f.name && optional nameInRange f.second && f.unitPrice ≤ 999999 &&
    optional promotionInRange f.promotion && 1 ≤ f.department && f.department ≤ 16 &&
    optional (fun g => 1 ≤ g && g ≤ 60000 && f.kind = .byWeight) f.presetTare && optional (fun d => d ≤ 365) f.shelfLife

/-- The tests of PLU WRITE (R73) and the record it leaves (R74), with whether it replaces one. -/
def pluWriteTests (n : Nat) (f : PluFields) (table : List PluRecord) : Except Result (PluRecord × Bool) := do
  require (pluFieldsInRange n f) .badValue
  match findPlu n table with
  | none => do
    require (table.length < Config.pluRecords) .tableFull
    return (⟨n, f, true, 0, none⟩, false)
  | some r => do
    require (f.kind = r.fields.kind || r.openLines = 0) .inUse
    require (f.kind = r.fields.kind || r.stock.isNone) .inUse
    return ({ r with fields := f }, true)

/-- PLU READ by number (R72). -/
def execPluRead (p : Port) (t : Tag) (number : Nat) (s : State) : Outcome :=
  takeRequest p t (.pluRead p t number) s fun r s =>
    if pluInRange number then
      match findPlu number s.plus with
      | some entry => s.ok r (.pluRecord entry)
      | none => s.refuse r .noSuch
    else s.refuse r .badValue

/-- PLU READ, NEXT after a number (R72). -/
def execPluReadNext (p : Port) (t : Tag) (number : Nat) (s : State) : Outcome :=
  takeRequest p t (.pluReadNext p t number) s fun r s =>
    if number ≤ 9999 then
      match nextPlu number s.plus with
      | some entry => s.ok r (.pluRecord entry)
      | none => s.refuse r .noSuch
    else s.refuse r .badValue

/-- PLU WRITE (R73, R74). -/
def execPluWrite (p : Port) (t : Tag) (number : Nat) (fields : PluFields) (s : State) : Outcome :=
  takeRequest p t (.pluWrite p t number fields) s fun r s =>
    match pluWriteTests number fields s.plus with
    | .error e => s.refuse r e
    | .ok (entry, replaced) => (s.setPlu entry).ok r (.pluWritten replaced)

/-- The record a request names: BAD_VALUE for a number out of range, NO_SUCH for one without a record (R75, R76). -/
def namedPlu (n : Nat) (table : List PluRecord) : Except Result PluRecord := do
  require (pluInRange n) .badValue
  orRefuse (findPlu n table) .noSuch

/-- PLU DELETE (R75). -/
def execPluDelete (p : Port) (t : Tag) (number : Nat) (s : State) : Outcome :=
  takeRequest p t (.pluDelete p t number) s fun r s =>
    match namedPlu number s.plus with
    | .error e => s.refuse r e
    | .ok entry =>
      if entry.openLines = 0 then { s with plus := dropPlu number s.plus }.ok r .empty else s.refuse r .inUse

/-- PLU WITHDRAW (R76). -/
def execPluWithdraw (p : Port) (t : Tag) (number : Nat) (s : State) : Outcome :=
  takeRequest p t (.pluWithdraw p t number) s fun r s =>
    match namedPlu number s.plus with
    | .error e => s.refuse r e
    | .ok entry => (s.setPlu { entry with active := false }).ok r .empty

/-- PLU RESTORE (R76). -/
def execPluRestore (p : Port) (t : Tag) (number : Nat) (s : State) : Outcome :=
  takeRequest p t (.pluRestore p t number) s fun r s =>
    match namedPlu number s.plus with
    | .error e => s.refuse r e
    | .ok entry => (s.setPlu { entry with active := true }).ok r .empty

/-! ### Stock (R77 to R84) -/

/-- The low test finds STOCK_LOW due (R84). -/
def Stock.lowDue (a : Stock) : Bool :=
  match a.watch with
  | none => false
  | some level => a.remaining ≤ level && !a.lowNotified

/-- The low test of R84 on a record: STOCK_LOW to the office, and the flag set. -/
def State.lowTest (s : State) (r : PluRecord) : State :=
  match r.stock with
  | none => s
  | some a =>
    if a.lowDue then
      (s.setPlu { r with stock := some { a with lowNotified := true } }).notify .office
        (.stockLow r.number a.remaining a.held (a.watch.getD 0))
    else s

/-- The watch level after a STOCK LOAD (R78). -/
def levelAfter (l : WatchLevel) (old : Option Nat) : Option Nat :=
  match l with
  | .given n => some n
  | .absent => none
  | .keep => old

/-- A watch level given by STOCK LOAD is at most 99,999,999 (R78). -/
def watchLevelInRange : WatchLevel → Bool
  | .given n => n ≤ 99999999
  | .absent | .keep => true

/-- The tests of STOCK LOAD and the account it sets (R78). -/
def stockLoadTests (n quantity : Nat) (watch : WatchLevel) (table : List PluRecord) :
    Except Result (PluRecord × Stock) := do
  require (pluInRange n && quantity ≤ 99999999 && watchLevelInRange watch) .badValue
  let r ← orRefuse (findPlu n table) .noSuch
  match r.stock with
  | none => do
    require (r.openLines = 0) .inUse
    return (r, ⟨quantity, quantity, 0, 0, levelAfter watch none, false⟩)
  | some a => return (r, ⟨quantity + a.held, quantity, a.held, 0, levelAfter watch a.watch, false⟩)

/-- STOCK LOAD with a value (R78): the reply carries the new account, as the low test leaves it. -/
def execStockLoad (p : Port) (t : Tag) (number quantity : Nat) (watch : WatchLevel) (s : State) : Outcome :=
  takeRequest p t (.stockLoad p t number quantity watch) s fun r s =>
    match stockLoadTests number quantity watch s.plus with
    | .error e => s.refuse r e
    | .ok (entry, a) =>
      let entry := { entry with stock := some a }
      ((s.setPlu entry).lowTest entry).ok r (.stock { a with lowNotified := a.lowDue })

/-- STOCK LOAD NONE (R79). -/
def execStockLoadNone (p : Port) (t : Tag) (number : Nat) (s : State) : Outcome :=
  takeRequest p t (.stockLoadNone p t number) s fun r s =>
    match namedPlu number s.plus with
    | .error e => s.refuse r e
    | .ok entry =>
      match entry.stock with
      | none => s.ok r .empty
      | some a => if a.held = 0 then (s.setPlu { entry with stock := none }).ok r .empty else s.refuse r .inUse

/-! ### Orders from the transaction table (R80 to R83) -/

/-- A pricing read (R80). DESIGN CHOICE (log entry 52): PRICE ITEM and ADD COUNT ITEM with a PLU number outside 1 to 9999
are answered NO_SUCH by its first test, where R9 has a number out of its range refused BAD_VALUE. -/
def pricingRead (n : Nat) (kind : PluKind) (table : List PluRecord) : Except Result PluRecord := do
  let r ← orRefuse (findPlu n table) .noSuch
  require r.active .withdrawn
  require (r.fields.kind = kind) .badValue
  return r

/-- The tests of a reserve (R81). -/
def reserveTests (n : Nat) (kind : PluKind) (quantity : Nat) (table : List PluRecord) : Except Result PluRecord := do
  let r ← pricingRead n kind table
  match r.stock with
  | none => pure ()
  | some a => require (quantity ≤ a.remaining) .stock
  return r

/-- An account after a reserve of `q` (R81). -/
def Stock.reserve (a : Stock) (q : Nat) : Stock := { a with remaining := a.remaining - q, held := a.held + q }

/-- An account after a return of `q`: the low-notified flag clears when remaining is now above the watch level (R82). -/
def Stock.giveBack (a : Stock) (q : Nat) : Stock :=
  { a with
    remaining := a.remaining + q
    held := a.held - q
    lowNotified := a.lowNotified && optional (fun level => a.remaining + q ≤ level) a.watch }

/-- An account after a sell of `q` (R83). -/
def Stock.sell (a : Stock) (q : Nat) : Stock := { a with held := a.held - q, sold := a.sold + q }

/-- A reserve that passed its tests: stock moves, the low test is made, the open-line count rises (R81). -/
def State.reserve (s : State) (r : PluRecord) (quantity : Nat) : State :=
  let r := { r with stock := r.stock.map (·.reserve quantity), openLines := r.openLines + 1 }
  (s.setPlu r).lowTest r

/-- A return (R82). A PLU without a record has nothing to move. -/
def State.returnStock (s : State) (n quantity : Nat) : State :=
  match findPlu n s.plus with
  | none => s
  | some r => s.setPlu { r with stock := r.stock.map (·.giveBack quantity), openLines := r.openLines - 1 }

/-- A sell (R83). A PLU without a record has nothing to move. -/
def State.sellStock (s : State) (n quantity : Nat) : State :=
  match findPlu n s.plus with
  | none => s
  | some r => s.setPlu { r with stock := r.stock.map (·.sell quantity), openLines := r.openLines - 1 }

end Sys2Proof.Machine
end

