-- ==== Sys2Proof/Machine/Pricing.lean ====
section
/-! DEFINITION. The pricing unit (chapter 5): item amounts, weight checks, dates, label codes, and the lines of every
job. -/

namespace Sys2Proof.Machine

/-! ### Pricing an item (R88 to R94) -/

/-- A priced item (R88, R93): the net weight in g, or the quantity. -/
structure PricedItem where
  kind : PluKind
  quantity : Nat
  division : Option Nat
  tare : Option (Nat × TareSource)
  unitPrice : Nat
  promotion : Bool
  amount : Nat
  packed : Date
  sellBy : Option Date
  deriving DecidableEq, Repr

/-- The promotion in force on a business date: between its two dates, both included (R91). -/
def promotionFor (f : PluFields) (business : Option Date) : Option Promotion :=
  match f.promotion, business with
  | some pr, some d => if pr.first.key ≤ d.key ∧ d.key ≤ pr.last.key then some pr else none
  | _, _ => none

/-- The unit price used, and the promotion flag (R91). -/
def unitPriceFor (f : PluFields) (business : Option Date) : Nat × Bool :=
  match promotionFor f business with
  | some pr => (pr.price, true)
  | none => (f.unitPrice, false)

/-- The raw amount of a kind and quantity at a unit price (R92). -/
def rawAmount (kind : PluKind) (quantity price : Nat) : Nat :=
  match kind with
  | .byWeight => roundUp (quantity * price) 1000
  | .byCount => quantity * price

/-- A raw amount rounded to the price rounding step (R92). -/
def stepRound (step raw : Nat) : Nat := roundUp raw step * step

/-- Stages 3 to 5 of R88: unit price, amount and limit, dates (R91, R92, R94). -/
def priceQuantity (set : PricingSettings) (business : Option Date) (today : Date) (f : PluFields) (quantity : Nat)
    (division : Option Nat) (tare : Option (Nat × TareSource)) : Except Result PricedItem := do
  let (price, promotion) := unitPriceFor f business
  let amount := stepRound set.step (rawAmount f.kind quantity price)
  require (amount ≤ Config.lineAmountMax) .priceLimit
  return ⟨f.kind, quantity, division, tare, price, promotion, amount, today,
    f.shelfLife.map (fun days => Date.advance days today)⟩

/-- The tare of a weighed item with the net weight it leaves: the tare applied, the net fine weight, the net weight and
its division (R89). -/
def settleTare (c : CaptureRecord) (presetTare : Option Nat) :
    Except Result (Option (Nat × TareSource) × Int × Int × Nat) :=
  match c.tareKind, presetTare with
  | .none, some grams => do
    let tare := c.met.roundTare grams
    require (c.met.e1 ≤ tare && tare ≤ c.met.max1) .tareLimit
    let fine := c.grossFine - 1000 * tare
    return (some (tare, .plu), fine, c.met.roundWeight fine, c.met.divisionFor fine)
  | .none, none => return (none, c.netFine, c.net, c.division)
  | _, _ => return (some (c.tare, .platter), c.netFine, c.net, c.division)

/-- A price request by weight: the stages of R88 in order. -/
def priceByWeight (set : PricingSettings) (business : Option Date) (today : Date) (f : PluFields) (c : CaptureRecord) :
    Except Result PricedItem := do
  let (tare, fine, net, division) ← settleTare c f.presetTare
  require (0 ≤ net) .negative
  require (20 * c.met.e1 ≤ net) .belowMin
  require (fine ≤ 1000 * c.met.max2) .overload
  priceQuantity set business today f net.toNat (some division) tare

/-- A price request by count (R93). -/
def priceByCount (set : PricingSettings) (business : Option Date) (today : Date) (f : PluFields) (quantity : Nat) :
    Except Result PricedItem := do
  require (1 ≤ quantity && quantity ≤ 99) .badValue
  priceQuantity set business today f quantity none none

/-! ### Text (R97) -/

/-- The decimal digit as a character, by its ASCII code (PRESUMED, log entry 42). -/
def digitByte (n : Nat) : Byte := BitVec.ofNat 8 (48 + n % 10)

/-- The lowest `width` decimal digits of `n`, with leading zeros. -/
def digits : Nat → Nat → Text
  | 0, _ => []
  | width + 1, n => digits width (n / 10) ++ [digitByte n]

/-- How many decimal digits `n` has; the fuel bounds the count. -/
def digitCount : Nat → Nat → Nat
  | 0, _ => 1
  | fuel + 1, n => if n < 10 then 1 else digitCount fuel (n / 10) + 1

/-- `n` in decimal without leading zeros. -/
def decimal (n : Nat) : Text := digits (digitCount 20 n) n

/-- An amount: two decimals after a point, at least one digit before it (R97). -/
def amountText (n : Nat) : Text := decimal (n / 100) ++ asText "." ++ digits 2 n

/-- A date as 2031-02-26 (R97). -/
def dateText (d : Date) : Text := digits 4 d.year ++ asText "-" ++ digits 2 d.month ++ asText "-" ++ digits 2 d.day

/-- A time as 10:42:07 (R97). -/
def timeText (t : Time) : Text := digits 2 t.hour ++ asText ":" ++ digits 2 t.minute ++ asText ":" ++ digits 2 t.second

/-- A port as S3 or O (R97). -/
def portText : Port → Text
  | .station s => asText "S" ++ decimal s.code
  | .office => asText "O"

/-- A ticket as A17 (R97). -/
def ticketText (k : TicketId) : Text :=
  (match k.cls with
    | .a => asText "A"
    | .b => asText "B"
    | .c => asText "C"
    | .d => asText "D") ++ decimal k.number

/-- The first 32 characters of a line (R97). -/
def cut (t : Text) : Text := t.take 32

/-- The text filled out with spaces on the right to `n` characters, and cut there. -/
def padRight (n : Nat) (t : Text) : Text := (t ++ List.replicate n 0x20#8).take n

/-- The text filled out with spaces on the left to `n` characters. -/
def padLeft (n : Nat) (t : Text) : Text := List.replicate (n - t.length) 0x20#8 ++ t

/-! ### Label codes (R95, R96) -/

/-- The weighted sum of a code's digits, weight 1 at the odd positions and 3 at the even ones (R95). -/
def weightedSum : List Nat → Nat
  | [] => 0
  | [a] => a
  | a :: b :: rest => a + 3 * b + weightedSum rest

/-- The decimal digits of `n`, `width` of them. -/
def digitList : Nat → Nat → List Nat
  | 0, _ => []
  | width + 1, n => digitList width (n / 10) ++ [n % 10]

/-- The first twelve digits of a label code (R95). -/
def codeDigits (prefixDigit plu amount : Nat) : List Nat :=
  2 :: prefixDigit :: (digitList 5 plu ++ digitList 5 amount)

/-- The check digit of a code's first twelve digits (R95). -/
def checkDigit (ds : List Nat) : Nat := (10 - weightedSum ds % 10) % 10

/-- The 13 digits of a label code (R95). -/
def labelCodeText (prefixDigit plu amount : Nat) : Text :=
  let ds := codeDigits prefixDigit plu amount
  (ds ++ [checkDigit ds]).map digitByte

/-! ### Jobs (R98 to R102) -/

/-- "CLK ", the clerk number, a space, the clerk name. -/
def clerkText (c : ClerkNo) (name : Text) : Text := asText "CLK " ++ digits 2 (clerkNumber c) ++ asText " " ++ name

/-- An item label (R98). -/
def itemLabel (set : PricingSettings) (plu : Nat) (f : PluFields) (item : PricedItem) (c : ClerkNo) (clerkName : Text)
    (p : Port) : Job where
  kind := .item
  copy := false
  origin := some p
  lines :=
    ([f.name] ++ f.second.toList ++
      [match item.kind with
        | .byWeight => asText "NET " ++ decimal item.quantity ++ asText " g"
        | .byCount => decimal item.quantity ++ asText " x",
       (if item.promotion then asText "PROMO " else []) ++ amountText item.unitPrice ++
        (match item.kind with
          | .byWeight => asText " /kg"
          | .byCount => asText " /ea"),
       asText "PRICE " ++ amountText item.amount,
       asText "PACKED " ++ dateText item.packed] ++
      (item.sellBy.map (fun d => asText "USE BY " ++ dateText d)).toList ++
      [clerkText c clerkName ++ asText " " ++ portText p,
       labelCodeText set.prefixDigit plu item.amount]).map cut

/-- The unvoided lines of a list (R99). -/
def unvoided (lines : List Line) : List Line := lines.filter (fun l => !l.voided)

/-- An item line of a total label (R99). -/
def totalItemLine (l : Line) : Text := padRight 12 l.name ++ asText " " ++ padLeft 9 (amountText l.amount)

/-- A total label, or a copy of one (R99, R100). -/
def totalLabel (set : PricingSettings) (copy : Bool) (number : Nat) (c : ClerkNo) (clerkName : Text)
    (ticket : Option TicketId) (subtotal : Nat) (lines : List Line) (at_ : DateTime) (p : Port) : Job where
  kind := .total
  copy := copy
  origin := some p
  lines :=
    ([if copy then asText "SALE COPY" else asText "SALE"] ++
      (ticket.map (fun k => asText "TICKET " ++ ticketText k)).toList ++
      [clerkText c clerkName ++ asText " TXN " ++ digits 4 number,
       dateText at_.date ++ asText " " ++ timeText at_.time] ++
      (unvoided lines).map totalItemLine ++
      [asText "ITEMS " ++ decimal (unvoided lines).length,
       asText "TOTAL " ++ amountText subtotal] ++
      (if subtotal ≤ Config.lineAmountMax then [labelCodeText set.prefixDigit 0 subtotal] else [])).map cut

/-- A ticket job (R101). -/
def ticketJob (k : TicketId) (ahead : Nat) (at_ : DateTime) : Job where
  kind := .ticket
  copy := false
  origin := none
  lines := [ticketText k, asText "AHEAD " ++ decimal ahead, dateText at_.date ++ asText " " ++ timeText at_.time].map cut

/-- A display job, one line per recent call (R102). -/
def displayJob (recent : List (TicketId × Port)) (p : Port) : Job where
  kind := .display
  copy := false
  origin := some p
  lines := recent.map fun (e : TicketId × Port) => cut (ticketText e.1 ++ asText " > " ++ portText e.2)

end Sys2Proof.Machine
end

