-- ==== Sys2Proof/Machine/Totals.lean ====
section
/-! DEFINITION. The totals unit (chapter 9 but for the opening and closing of the day): postings, readings and
watches. -/

namespace Sys2Proof.Machine

/-! ### Fields and their caps (R171, R175, R176) -/

/-- The day record after one more in the counting field `n`: its value, and whether it has reached its cap (R171). -/
def dayCount (n : Nat) : Nat × Bool := (saturate Config.countCap n, decide (Config.countCap ≤ n + 1))

/-- One more posting taken (R180). -/
def DayRecord.countPosting (d : DayRecord) : DayRecord :=
  { d with postings := (dayCount d.postings).1, saturated := d.saturated || (dayCount d.postings).2 }

/-- One more forced void. -/
def DayRecord.countForced (d : DayRecord) : DayRecord :=
  { d with forcedVoids := (dayCount d.forcedVoids).1, saturated := d.saturated || (dayCount d.forcedVoids).2 }

/-- One more label lost. -/
def DayRecord.countLost (d : DayRecord) : DayRecord :=
  { d with labelsLost := (dayCount d.labelsLost).1, saturated := d.saturated || (dayCount d.labelsLost).2 }

/-- One more dispenser refusal. -/
def DayRecord.countRefusal (d : DayRecord) : DayRecord :=
  { d with refusals := (dayCount d.refusals).1, saturated := d.saturated || (dayCount d.refusals).2 }

/-- The grand record after one line (R177). -/
def GrandRecord.addLine (g : GrandRecord) (weight amount : Nat) : GrandRecord :=
  { g with
    items := capAdd Config.countCap g.items 1
    weight := capAdd Config.amountCap g.weight weight
    amount := capAdd Config.amountCap g.amount amount
    saturated := g.saturated || passesCap Config.countCap g.items 1 || passesCap Config.amountCap g.weight weight ||
      passesCap Config.amountCap g.amount amount }

/-- A department record after one line (R177). -/
def DepartmentRecord.addLine (d : DepartmentRecord) (amount : Nat) : DepartmentRecord where
  items := capAdd Config.countCap d.items 1
  amount := capAdd Config.amountCap d.amount amount
  saturated := d.saturated || passesCap Config.countCap d.items 1 || passesCap Config.amountCap d.amount amount

/-- A clerk's totals after one line (R177). -/
def ClerkTotals.addLine (c : ClerkTotals) (amount : Nat) : ClerkTotals :=
  { c with
    items := capAdd Config.countCap c.items 1
    amount := capAdd Config.amountCap c.amount amount
    saturated := c.saturated || passesCap Config.countCap c.items 1 || passesCap Config.amountCap c.amount amount }

/-- A PLU totals entry after one line (R177, R181). -/
def PluTotal.addLine (e : PluTotal) (count weight amount : Nat) : PluTotal :=
  { e with
    count := capAdd Config.countCap e.count count
    weight := capAdd Config.amountCap e.weight weight
    amount := capAdd Config.amountCap e.amount amount
    saturated := e.saturated || passesCap Config.countCap e.count count || passesCap Config.amountCap e.weight weight ||
      passesCap Config.amountCap e.amount amount }

/-- The table with a new entry at the place its PLU number gives (R181). -/
def insertTotal (e : PluTotal) : List PluTotal → List PluTotal
  | [] => [e]
  | x :: xs => if e.plu < x.plu then e :: x :: xs else x :: insertTotal e xs

/-- The PLU totals table after one line, and whether the table had no room for its PLU (R181). -/
def postPluTotal (plu count weight amount : Nat) (table : List PluTotal) : List PluTotal × Bool :=
  if table.any (fun e => e.plu = plu) then
    (updateFirst (fun e => e.plu = plu) (fun e => e.addLine count weight amount) table, false)
  else if table.length < Config.pluTotals then
    (insertTotal ((⟨plu, 0, 0, 0, false⟩ : PluTotal).addLine count weight amount) table, false)
  else (table, true)

/-- The count a line posts to its PLU (R177). -/
def Line.postedCount (l : Line) : Nat :=
  match l.kind with
  | .byWeight => 1
  | .byCount => l.quantity

/-- The weight a line posts (R177). -/
def Line.postedWeight (l : Line) : Nat :=
  match l.kind with
  | .byWeight => l.quantity
  | .byCount => 0

/-- One unvoided line of a close posted (R177). -/
def Accumulators.addLine (a : Accumulators) (c : ClerkNo) (l : Line) : Accumulators :=
  let posted := postPluTotal l.plu l.postedCount l.postedWeight l.amount a.plus
  let grand := a.grand.addLine l.postedWeight l.amount
  { a with
    plus := posted.1
    departments := a.departments.set (departmentIndex l.department)
      (a.departments[departmentIndex l.department].addLine l.amount)
    clerks := a.clerks.set c (a.clerks[c].addLine l.amount)
    grand := { grand with saturated := grand.saturated || posted.2 } }

/-- The lines of a close posted in order. -/
def Accumulators.addLines (a : Accumulators) (c : ClerkNo) : List Line → Accumulators
  | [] => a
  | l :: rest => (a.addLine c l).addLines c rest

/-- One transaction more for the clerk and the grand record (R177). -/
def Accumulators.countTransaction (a : Accumulators) (c : ClerkNo) : Accumulators :=
  let k := a.clerks[c]
  { a with
    clerks := a.clerks.set c { k with
      transactions := capAdd Config.countCap k.transactions 1
      saturated := k.saturated || passesCap Config.countCap k.transactions 1 }
    grand := { a.grand with
      transactions := capAdd Config.countCap a.grand.transactions 1
      saturated := a.grand.saturated || passesCap Config.countCap a.grand.transactions 1 } }

/-- One line void (R178). -/
def Accumulators.lineVoid (a : Accumulators) (c : ClerkNo) : Accumulators :=
  let k := a.clerks[c]
  { a with
    clerks := a.clerks.set c { k with
      lineVoids := capAdd Config.countCap k.lineVoids 1
      saturated := k.saturated || passesCap Config.countCap k.lineVoids 1 }
    grand := { a.grand with
      lineVoids := capAdd Config.countCap a.grand.lineVoids 1
      saturated := a.grand.saturated || passesCap Config.countCap a.grand.lineVoids 1 } }

/-- One transaction void with its subtotal (R178). -/
def Accumulators.txnVoid (a : Accumulators) (c : ClerkNo) (subtotal : Nat) : Accumulators :=
  let k := a.clerks[c]
  { a with
    clerks := a.clerks.set c { k with
      voids := capAdd Config.countCap k.voids 1
      voidAmount := capAdd Config.amountCap k.voidAmount subtotal
      saturated := k.saturated || passesCap Config.countCap k.voids 1 || passesCap Config.amountCap k.voidAmount subtotal }
    grand := { a.grand with
      voids := capAdd Config.countCap a.grand.voids 1
      voidAmount := capAdd Config.amountCap a.grand.voidAmount subtotal
      saturated := a.grand.saturated || passesCap Config.countCap a.grand.voids 1 ||
        passesCap Config.amountCap a.grand.voidAmount subtotal } }

/-- A change of a ticket that the totals count (R148, R179). -/
inductive TicketChange | issued | sale (wait : Nat) | noSale (wait : Nat) | missed | abandoned
  deriving DecidableEq, Repr

/-- A wait posted beside a service. -/
def GrandRecord.addWait (g : GrandRecord) (wait : Nat) : GrandRecord :=
  { g with
    waitSum := capAdd Config.amountCap g.waitSum wait
    waitCount := capAdd Config.countCap g.waitCount 1
    saturated := g.saturated || passesCap Config.amountCap g.waitSum wait || passesCap Config.countCap g.waitCount 1 }

/-- One ticket served in a class. -/
def GrandRecord.addServed (g : GrandRecord) (k : TicketClass) : GrandRecord :=
  let t := g.classes.get k
  { g with
    classes := g.classes.set k { t with served := capAdd Config.countCap t.served 1 }
    saturated := g.saturated || passesCap Config.countCap t.served 1 }

/-- One ticket change in a class (R179). -/
def GrandRecord.addTicket (g : GrandRecord) (k : TicketClass) (change : TicketChange) : GrandRecord :=
  let t := g.classes.get k
  match change with
  | .issued =>
    { g with
      classes := g.classes.set k { t with issued := capAdd Config.countCap t.issued 1 }
      saturated := g.saturated || passesCap Config.countCap t.issued 1 }
  | .sale wait => (g.addServed k).addWait wait
  | .noSale wait =>
    let g := (g.addServed k).addWait wait
    { g with
      noSale := capAdd Config.countCap g.noSale 1
      saturated := g.saturated || passesCap Config.countCap g.noSale 1 }
  | .missed =>
    { g with
      classes := g.classes.set k { t with missed := capAdd Config.countCap t.missed 1 }
      saturated := g.saturated || passesCap Config.countCap t.missed 1 }
  | .abandoned =>
    { g with
      classes := g.classes.set k { t with abandoned := capAdd Config.countCap t.abandoned 1 }
      saturated := g.saturated || passesCap Config.countCap t.abandoned 1 }

/-- One more in a station's field (R180). -/
def StationRecord.add (r : StationRecord) (report : TotalsReport) : StationRecord :=
  match report with
  | .captureCompleted _ =>
    { r with captures := capAdd Config.countCap r.captures 1
             saturated := r.saturated || passesCap Config.countCap r.captures 1 }
  | .labelPrinted _ =>
    { r with labels := capAdd Config.countCap r.labels 1
             saturated := r.saturated || passesCap Config.countCap r.labels 1 }
  | .refusal _ =>
    { r with refusals := capAdd Config.countCap r.refusals 1
             saturated := r.saturated || passesCap Config.countCap r.refusals 1 }
  | .labelLost => r

/-! ### Postings (R177 to R180) -/

/-- The totals unit with its accumulators changed by one posting, which the posting count counts (R180). -/
def Totals.post (t : Totals) (f : Accumulators → Accumulators) : Totals :=
  { t with acc := f t.acc, day := t.day.countPosting }

/-- A ticket change posted (R179). -/
def Totals.postTicket (t : Totals) (k : TicketClass) (change : TicketChange) : Totals :=
  t.post fun a => { a with grand := a.grand.addTicket k change }

/-- A station's report posted (R180). -/
def Totals.postStation (t : Totals) (st : Station) (report : TotalsReport) : Totals :=
  t.post fun a => { a with stations := a.stations.set st ((a.stations.get st).add report) }

/-- One of the four further reports posted (R180). -/
def Totals.postReport (t : Totals) (report : TotalsReport) : Totals :=
  match report with
  | .captureCompleted st => t.postStation st report
  | .labelPrinted st => t.postStation st report
  | .refusal st => t.postStation st report
  | .labelLost => { t with day := t.day.countLost.countPosting }

/-- A dispenser press refused (R179). -/
def Totals.postDispenserRefusal (t : Totals) : Totals := { t with day := t.day.countRefusal.countPosting }

/-- A line void posted (R178). -/
def Totals.postLineVoid (t : Totals) (c : ClerkNo) : Totals := t.post fun a => a.lineVoid c

/-- A transaction void posted (R178). -/
def Totals.postVoid (t : Totals) (c : ClerkNo) (subtotal : Nat) : Totals := t.post fun a => a.txnVoid c subtotal

/-- A forced transaction void posted (R178). -/
def Totals.postForcedVoid (t : Totals) (c : ClerkNo) (subtotal : Nat) : Totals :=
  let t := t.postVoid c subtotal
  { t with day := t.day.countForced }

/-- A close posted, but for its watches: the unvoided lines, then the transaction (R177). -/
def Totals.postClose (t : Totals) (c : ClerkNo) (lines : List Line) : Totals :=
  t.post fun a => (a.addLines c lines).countTransaction c

/-- Several reports posted in order. -/
def Totals.postReports (t : Totals) (reports : List TotalsReport) : Totals := reports.foldl Totals.postReport t

/-- TOTALS_REPORT: a report on its way to the totals unit is taken and posted (R180). A report that no block has sent
is not there to be taken. -/
def execTotalsReport (report : TotalsReport) (s : State) : Outcome :=
  match takeFirst (fun x => x = report) s.transit.totals with
  | none => done s
  | some (_, rest) =>
    done ({ s with transit := { s.transit with totals := rest } }.mapTotals (fun t => t.postReport report))

/-! ### Watches (R184 to R186) -/

/-- The four watches in order. -/
def watchNumbers : List (Fin 4) := [0, 1, 2, 3]

/-- A watch fires: its fire count rises and WATCH_FIRED goes to the office (R184). -/
def State.fireWatch (s : State) (i : Fin 4) (value : Nat) (txn : Option Nat) (staysArmed : Bool) : State :=
  let w := s.totals.watches[i]
  let fires := saturate 65535 w.fires
  (s.mapTotals (fun t => { t with watches := t.watches.set i { w with fires := fires, armed := staysArmed } })).notify
    .office (.watchFired (i.val + 1) w.cond value txn fires)

/-- The value with which a watch fires at a line, absent when it does not fire (R185). -/
def Watch.lineValue (w : Watch) (plu amount subtotal : Nat) : Option Nat :=
  if w.armed then
    match w.cond with
    | .pluSale n => if n = plu then some plu else none
    | .txnAmount threshold =>
      if subtotal - amount ≤ threshold ∧ threshold < subtotal then some subtotal else none
    | .off | .clerkAmount _ _ | .queueLength _ _ => none
  else none

/-- The watches evaluated at a line, in order of number, and the numbers of the HOLD watches that fired (R185). -/
def State.evaluateLine (s : State) (plu amount subtotal txn : Nat) : List (Fin 4) → State × List Nat
  | [] => (s, [])
  | i :: rest =>
    let w := s.totals.watches[i]
    match w.lineValue plu amount subtotal with
    | none => s.evaluateLine plu amount subtotal txn rest
    | some value =>
      let (s, fired) := (s.fireWatch i value (some txn) true).evaluateLine plu amount subtotal txn rest
      (s, if w.action = .hold then (i.val + 1) :: fired else fired)

/-- The whole evaluation at a line: with one or more HOLD fires one APPROVAL_NEEDED goes to the office. The answer says
whether any HOLD watch fired (R185). DESIGN CHOICE (log entry 48): it goes after the line's WATCH_FIRED notices. -/
def State.lineWatches (s : State) (plu amount subtotal txn : Nat) (c : ClerkNo) : State × Bool :=
  let (s, holds) := s.evaluateLine plu amount subtotal txn watchNumbers
  if holds = [] then (s, false) else (s.notify .office (.approvalNeeded txn c subtotal holds), true)

/-- A CLERK_AMOUNT watch after a close of its target clerk (R186). -/
def State.clerkWatch (s : State) (c : ClerkNo) (i : Fin 4) : State :=
  let w := s.totals.watches[i]
  let amount := s.totals.acc.clerks[c].amount
  match w.cond with
  | .clerkAmount target threshold =>
    if target = c ∧ w.armed ∧ threshold < amount then s.fireWatch i amount none false else s
  | .off | .pluSale _ | .txnAmount _ | .queueLength _ _ => s

/-- The CLERK_AMOUNT watches after a close posts to its clerk (R177, R186). DESIGN CHOICE (log entry 47): in the order of
their numbers. -/
def State.clerkWatches (s : State) (c : ClerkNo) : State := watchNumbers.foldl (fun s i => s.clerkWatch c i) s

/-- A QUEUE_LENGTH watch when its class's new waiting count is handed over (R186). -/
def State.queueWatch (s : State) (k : TicketClass) (count : Nat) (i : Fin 4) : State :=
  let w := s.totals.watches[i]
  match w.cond with
  | .queueLength target threshold =>
    if target = k then
      if w.armed then (if threshold ≤ count then s.fireWatch i count none false else s)
      else if count < threshold then
        s.mapTotals (fun t => { t with watches := t.watches.set i { w with armed := true } })
      else s
    else s
  | .off | .pluSale _ | .txnAmount _ | .clerkAmount _ _ => s

/-- The QUEUE_LENGTH watches when a class's new waiting count is handed over (R186). DESIGN CHOICE (log entry 47): in the
order of their numbers. -/
def State.queueWatches (s : State) (k : TicketClass) (count : Nat) : State :=
  watchNumbers.foldl (fun s i => s.queueWatch k count i) s

/-- A watch at a close: armed unless OFF (R174, R184). -/
def Watch.rearm (w : Watch) : Watch := { w with armed := w.armed || w.cond ≠ .off }

/-- Every watch at a close. -/
def rearmAll (ws : Vector Watch 4) : Vector Watch 4 :=
  (((ws.set 0 ws[0].rearm).set 1 ws[1].rearm).set 2 ws[2].rearm).set 3 ws[3].rearm

/-- The watch of a number, 1 to 4. -/
def watchIndex (n : Nat) : Option (Fin 4) := if h : 1 ≤ n ∧ n ≤ 4 then some ⟨n - 1, by omega⟩ else none

/-- The condition a SET WATCH asks for, when target and threshold lie in the kind's ranges (R184). -/
def watchCondition (kind : WatchKind) (target threshold : Nat) : Option WatchCondition :=
  match kind with
  | .off => some .off
  | .pluSale => if 1 ≤ target ∧ target ≤ 9999 then some (.pluSale target) else none
  | .txnAmount => if threshold ≤ 9999999 then some (.txnAmount threshold) else none
  | .clerkAmount => if threshold ≤ 999999999 then (clerkOf target).map (.clerkAmount · threshold) else none
  | .queueLength =>
    if 1 ≤ threshold ∧ threshold ≤ 99 then (TicketClass.ofCode target).map (.queueLength · threshold) else none

/-- The action HOLD goes with PLU_SALE and TXN_AMOUNT only (R184); kind OFF has no action and ignores the one sent. -/
def holdAllowed : WatchKind → Bool
  | .clerkAmount | .queueLength => false
  | .off | .pluSale | .txnAmount => true

/-- The record a SET WATCH leaves: armed unless OFF, fire count 0 (R184). -/
def freshWatch (cond : WatchCondition) (action : WatchAction) : Watch :=
  if cond = .off then .cold else ⟨cond, action, true, 0⟩

/-- The tests of SET WATCH (R184). -/
def setWatchTests (number : Nat) (kind : WatchKind) (target threshold : Nat) (action : WatchAction) :
    Except Result (Fin 4 × WatchCondition) := do
  let i ← orRefuse (watchIndex number) .badValue
  let cond ← orRefuse (watchCondition kind target threshold) .badValue
  require (action = .notice || holdAllowed kind) .badValue
  return (i, cond)

/-- SET WATCH (R184). -/
def execSetWatch (p : Port) (t : Tag) (number : Nat) (kind : WatchKind) (target threshold : Nat) (action : WatchAction)
    (s : State) : Outcome :=
  takeRequest p t (.setWatch p t number kind target threshold action) s fun r s =>
    match setWatchTests number kind target threshold action with
    | .error e => s.refuse r e
    | .ok (i, cond) =>
      (s.mapTotals (fun x => { x with watches := x.watches.set i (freshWatch cond action) })).ok r .empty

/-- READ WATCH (R184). -/
def execReadWatch (p : Port) (t : Tag) (s : State) : Outcome :=
  takeRequest p t (.readWatch p t) s fun r s => s.ok r (.watches s.totals.watches)

/-! ### Readings (R182, R183) -/

/-- The mean wait, 0 when no wait was posted (R179). -/
def GrandRecord.meanWait (g : GrandRecord) : Nat := if g.waitCount = 0 then 0 else roundUp g.waitSum g.waitCount

/-- Every clerk in order. -/
def allClerks : List ClerkNo := [0, 1, 2, 3, 4, 5, 6, 7, 8, 9, 10, 11, 12, 13, 14, 15]

/-- One section of a reading: a start key outside its range is refused BAD_VALUE (R182). -/
def readSection (d : DayRecord) (a : Accumulators) (close : Option (CloseMode × DateTime)) (sec : Section) (key : Nat) :
    Except Result SectionView :=
  match sec with
  | .day => .ok (.day d close)
  | .grand => .ok (.grand a.grand a.grand.meanWait)
  | .department => .ok (.department a.departments)
  | .clerk => do
    require (1 ≤ key && key ≤ 16) .badValue
    return .clerk (((allClerks.drop (key - 1)).take 8).map (fun c => (c, a.clerks[c]))) (key + 8 ≤ 16)
  | .station => .ok (.station a.stations)
  | .plu => do
    require (key ≤ 9999) .badValue
    let rows := a.plus.filter (fun e => key ≤ e.plu)
    return .plu (rows.take 16) (16 < rows.length)

/-- READ TOTALS (R182). -/
def execReadTotals (p : Port) (t : Tag) (sec : Section) (key : Nat) (s : State) : Outcome :=
  takeRequest p t (.readTotals p t sec key) s fun r s =>
    match readSection s.totals.day s.totals.acc none sec key with
    | .error e => s.refuse r e
    | .ok v => s.ok r (.totals s.totals.day.postings v)

/-- The section READ CLOSED DAY reads from the snapshot, with the snapshot's posting count (R183). The start key is
judged before the snapshot is looked for (DESIGN CHOICE: the spec orders neither before the other). -/
def readClosed (t : Totals) (sec : Section) (key : Nat) : Except Result (Nat × SectionView) := do
  let _ ← readSection t.day t.acc none sec key
  let snap ← orRefuse t.snapshot .noSuch
  let v ← readSection snap.day snap.acc (some (snap.mode, snap.closedAt)) sec key
  return (snap.day.postings, v)

/-- READ CLOSED DAY (R183). -/
def execReadClosedDay (p : Port) (t : Tag) (sec : Section) (key : Nat) (s : State) : Outcome :=
  takeRequest p t (.readClosedDay p t sec key) s fun r s =>
    match readClosed s.totals sec key with
    | .error e => s.refuse r e
    | .ok (postings, v) => s.ok r (.totals postings v)

end Sys2Proof.Machine
end

