-- ==== Sys2Proof/Machine/TxnOps.lean ====
section
/-! DEFINITION. The transaction table's own operations (chapter 6): finding and numbering transactions, opening one,
taking a line, label routing, voiding and closing, and the orders the ticket queue gives. -/

namespace Sys2Proof.Machine

/-! ### The table (R103, R105, R107) -/

/-- One clerk's record. -/
def State.clerk (s : State) (c : ClerkNo) : Clerk := s.txn.clerks[c]

/-- The state with one clerk's record replaced. -/
def State.setClerk (s : State) (c : ClerkNo) (k : Clerk) : State :=
  { s with txn := { s.txn with clerks := s.txn.clerks.set c k } }

/-- The held transaction of a number. -/
def State.findTxn (s : State) (n : Nat) : Option Txn := s.txn.held.find? (fun x => x.number = n)

/-- The clerk's OPEN transaction (R103). -/
def State.openOf (s : State) (c : ClerkNo) : Option Txn := (s.clerk c).openTxn.bind s.findTxn

/-- The held transactions with one put at the place its number gives, over any of the same number. -/
def putTxn (x : Txn) : List Txn → List Txn
  | [] => [x]
  | y :: ys =>
    if x.number < y.number then x :: y :: ys
    else if x.number = y.number then x :: ys
    else y :: putTxn x ys

/-- The state with one held transaction made or replaced. -/
def State.setTxn (s : State) (x : Txn) : State := { s with txn := { s.txn with held := putTxn x s.txn.held } }

/-- A number in use by a held transaction or a closed-list entry (R107). -/
def TxnTable.uses (t : TxnTable) (n : Nat) : Bool :=
  t.held.any (fun x => x.number = n) || t.closed.any (fun x => x.number = n)

/-- The transaction number after one: 9999 is followed by 1 (R107). -/
def nextTxnNumber (n : Nat) : Nat := if n ≥ 9999 then 1 else n + 1

/-- The first number from `n` on that is in use by neither, within `tries` tries (R107). -/
def TxnTable.freeNumber (t : TxnTable) : Nat → Nat → Nat
  | 0, n => n
  | tries + 1, n => if t.uses n then t.freeNumber tries (nextTxnNumber n) else n

/-- The number the next opening takes: with at most 32 in use, 33 tries find it (R107). -/
def TxnTable.takesNumber (t : TxnTable) : Nat := t.freeNumber 33 t.nextNumber

/-- An opening (R108). -/
def State.openTxn (s : State) (c : ClerkNo) (ticket : Option TicketId) (p : Port) : State :=
  let n := s.txn.takesNumber
  let s := s.setTxn ⟨n, c, ticket, .none, [], 0, 0, s.now, none, p⟩
  let s := { s with txn := { s.txn with nextNumber := nextTxnNumber n } }
  s.setClerk c { s.clerk c with openTxn := some n }

/-- The clerk's last station after a request that named the clerk and ended OK (R103). -/
def State.noteStation (s : State) (c : ClerkNo) (p : Port) : State :=
  s.setClerk c { s.clerk c with lastStation := some p }

/-- A transaction leaves the table: its place and number are free, and a clerk whose OPEN transaction it was has none
(R105, R122, R125, R127). -/
def State.removeTxn (s : State) (x : Txn) : State :=
  let s := { s with txn := { s.txn with
    held := s.txn.held.filter (fun y => y.number ≠ x.number)
    parked := s.txn.parked.filter (fun n => n ≠ x.number) } }
  if (s.clerk x.clerk).openTxn = some x.number then s.setClerk x.clerk { s.clerk x.clerk with openTxn := none } else s

/-- The clerk a sales request names: BAD_VALUE outside 1 to 16 (R103). -/
def namedClerk (n : Nat) : Except Result ClerkNo := orRefuse (clerkOf n) .badValue

/-- A transaction number's range. -/
def txnNumberInRange (n : Nat) : Bool := 1 ≤ n && n ≤ 9999

/-! ### Reports to the ticket queue (R127) -/

/-- A report about a ticket-bound transaction is sent to the ticket queue. -/
def State.reportTicket (s : State) (ticket : Option TicketId) (report : TicketReport) : State :=
  match ticket with
  | none => s
  | some k => { s with transit := { s.transit with ticketReports := s.transit.ticketReports ++ [(k, report)] } }

/-! ### Labels (R112, R113) -/

/-- The outlets a port's labels are offered to, in order: none for the office (R112). -/
def State.labelOutlets (s : State) : Port → List OutletId
  | .station st => (s.txn.routing.get st).primary.toList ++ (s.txn.routing.get st).fallback.toList
  | .office => []

/-- Whether a label choice asks for a label (R112). -/
def State.labelWanted (s : State) (p : Port) : LabelChoice → Bool
  | .no => false
  | .yes => true
  | .dflt =>
    match p with
    | .station st => (s.txn.routing.get st).labelEach
    | .office => false

/-- A label under the routing of R112: absent when no outlet accepts it. -/
def State.routeLabel (s : State) (p : Port) (job : Job) : Option (State × OutletId × Nat) :=
  s.offerInOrder job (s.labelOutlets p)

/-! ### Taking a line (R106, R111) -/

/-- A line built from a priced item (R88, R106). -/
def newLine (index plu : Nat) (f : PluFields) (item : PricedItem) (capture : Option (Platter × Nat)) (p : Port) : Line where
  index := index
  plu := plu
  name := f.name
  department := f.department
  kind := item.kind
  quantity := item.quantity
  division := item.division
  tare := item.tare
  unitPrice := item.unitPrice
  promotion := item.promotion
  amount := item.amount
  packed := item.packed
  sellBy := item.sellBy
  capture := capture
  station := p
  label := none
  voided := false

/-- A transaction with a line appended: the subtotal rises by the amount, the item count by 1 (R111 step 2). -/
def Txn.addLine (x : Txn) (l : Line) (p : Port) : Txn :=
  { x with lines := x.lines ++ [l], subtotal := x.subtotal + l.amount, itemCount := x.itemCount + 1, lastStation := p }

/-- A HOLD fire asks for approval of a transaction that has none yet (R119). -/
def Txn.hold (x : Txn) : Txn := if x.approval = .none then { x with approval := .required } else x

/-- A transaction's line with its label's outlet and job id recorded. -/
def Txn.recordLabel (x : Txn) (index : Nat) (label : OutletId × Nat) : Txn :=
  { x with lines := updateFirst (fun l => l.index = index) (fun l => { l with label := some label }) x.lines }

/-- The state with one held transaction changed. -/
def State.mapTxn (s : State) (n : Nat) (f : Txn → Txn) : State :=
  match s.findTxn n with
  | none => s
  | some x => s.setTxn (f x)

/-- Step 6 of R111: a label that is asked for is composed and offered. -/
def State.labelLine (s : State) (r : Requester) (n : Nat) (l : Line) (f : PluFields) (item : PricedItem) (c : ClerkNo)
    (choice : LabelChoice) : State × LabelStatus :=
  if s.labelWanted r.port choice then
    match s.routeLabel r.port (itemLabel s.pricing l.plu f item c (s.clerk c).name r.port) with
    | none => (s, .notQueued)
    | some (s, o, id) => (s.mapTxn n (fun x => x.recordLabel l.index (o, id)), .queued o id)
  else (s, .notAsked)

/-- A line is taken, and the reply produced (R111). `target` is the clerk's OPEN transaction, absent when one is to be
opened. -/
def State.takeLine (s : State) (r : Requester) (c : ClerkNo) (target : Option Nat) (plu : Nat) (f : PluFields)
    (item : PricedItem) (capture : Option (Platter × Nat)) (choice : LabelChoice) : State :=
  let s := if target.isSome then s else s.openTxn c none r.port
  match s.openOf c with
  | none => s
  | some x =>
    let l := newLine (x.lines.length + 1) plu f item capture r.port
    let x' := x.addLine l r.port
    let s := (s.setTxn x').noteStation c r.port
    let s := { s with transit := { s.transit with consumptions := s.transit.consumptions ++ capture.toList } }
    let (s, hold) := s.lineWatches plu item.amount x'.subtotal x'.number c
    let x' := if hold then x'.hold else x'
    let s := s.setTxn x'
    let s := if x.lines = [] then s.reportTicket x.ticket (.bound .firstLine) else s
    let (s, label) := s.labelLine r x'.number l f item c choice
    s.ok r (.lineAdded x'.number l.index item.amount x'.subtotal x'.approval label)

/-! ### Voiding (R116, R125) -/

/-- A transaction with one line voided: its amount leaves the subtotal and 1 leaves the item count (R116 step 1). -/
def Txn.voidLine (x : Txn) (l : Line) : Txn :=
  { x with
    lines := updateFirst (fun y => y.index = l.index) (fun y => { y with voided := true }) x.lines
    subtotal := x.subtotal - l.amount
    itemCount := x.itemCount - 1 }

/-- The order to cancel a line's item label job, where it has one (R116 step 4). -/
def State.cancelLabel (s : State) (l : Line) : State :=
  match l.label with
  | none => s
  | some (o, id) => s.cancelOrder o id

/-- Steps 1, 2 and 4 of VOID LINE for one line of a transaction (R116). -/
def State.voidOne (s : State) (n : Nat) (l : Line) : State :=
  ((s.mapTxn n (fun x => x.voidLine l)).returnStock l.plu l.quantity).cancelLabel l

/-- Every unvoided line of a transaction voided in index order (R125 step 2). -/
def State.voidAll (s : State) (x : Txn) : State := (unvoided x.lines).foldl (fun s l => s.voidOne x.number l) s

/-! ### Closing (R122, R123) -/

/-- The closed-list entry of a transaction (R123). -/
def closedEntry (x : Txn) (name : Text) (at_ : DateTime) (p : Port) : ClosedEntry where
  number := x.number
  clerk := x.clerk
  clerkName := name
  ticket := x.ticket
  subtotal := x.subtotal
  itemCount := x.itemCount
  lines := unvoided x.lines
  closedAt := at_
  port := p

/-- A new entry joins the tail of the closed list; of nine the oldest leaves (R123). -/
def State.addClosed (s : State) (e : ClosedEntry) : State :=
  { s with txn := { s.txn with closed := lastEntries Config.closedPlaces (s.txn.closed ++ [e]) } }

/-- The five steps of a close (R122). -/
def State.closeSteps (s : State) (x : Txn) (p : Port) : State :=
  let s := (s.mapTotals (fun t => t.postClose x.clerk (unvoided x.lines))).clerkWatches x.clerk
  let s := (unvoided x.lines).foldl (fun s l => s.sellStock l.plu l.quantity) s
  let s := s.reportTicket x.ticket (.outcome .sale)
  let s := s.addClosed (closedEntry x (s.clerk x.clerk).name s.now p)
  (s.removeTxn x).noteStation x.clerk p

/-! ### Orders of the ticket queue (R127) -/

/-- The opening test, and the test open bound makes again. -/
def State.openingTest (s : State) (c : ClerkNo) : Except Result Unit := do
  require (s.clerk c).enabled .noSuch
  require (s.clerk c).openTxn.isNone .openTxn

/-- The discard order: OK with the state after it, HAS_LINES or NO_SUCH. -/
def State.discard (s : State) (n : Nat) (k : TicketId) : Except Result State := do
  let x ← orRefuse (s.findTxn n) .noSuch
  require (x.parkedAt.isNone && x.ticket = some k) .noSuch
  require x.lines.isEmpty .hasLines
  return s.removeTxn x

end Sys2Proof.Machine
end

