-- ==== Sys2Proof/Machine/TicketOps.lean ====
section
/-! DEFINITION. The ticket queue's own operations (chapter 7): numbers and issues, the order of a waiting list, the
choice of a call, recent calls, skips and outcomes. -/

namespace Sys2Proof.Machine

/-- The state with the ticket queue changed by `f`. -/
def State.mapQueue (s : State) (f : TicketQueue → TicketQueue) : State := { s with queue := f s.queue }

/-- One class record. -/
def State.classOf (s : State) (k : TicketClass) : ClassRecord := s.queue.classes.get k

/-- The state with one class record replaced. -/
def State.setClass (s : State) (k : TicketClass) (x : ClassRecord) : State :=
  s.mapQueue fun q => { q with classes := q.classes.set k x }

/-! ### Notices (R148) -/

/-- The class's bit in a call set (R113). -/
def inCallSet (set : CallSet) (k : TicketClass) : Bool := set.getLsbD (k.code - 1)

/-- The stations whose call set holds a class: where its QUEUE_CHANGE goes (R147, R148). -/
def State.classPorts (s : State) (k : TicketClass) : List Port :=
  (Station.all.filter (fun st => inCallSet (s.queue.callSets.get st) k)).map .station

/-- QUEUE_CHANGE for a class, with what stands after the change (R148). -/
def State.queueChange (s : State) (k : TicketClass) (cause : QueueCause) : State :=
  let list := (s.classOf k).waiting
  s.notifyAll (s.classPorts k) (.queueChange k cause list.length (list.head?.map (·.id.number)))

/-! ### Numbers and issues (R133, R134) -/

/-- A WAITING, CALLED or MISSED ticket holds this class and number; a ticket that a call in progress has chosen still
holds its number (R133). -/
def TicketQueue.holds (q : TicketQueue) (k : TicketId) : Bool :=
  (q.classes.get k.cls).waiting.any (fun x => x.id = k) || q.calls.any (fun x => x.ticket.id = k) ||
    q.called.any (fun x => x.ticket.id = k) || q.missed.any (fun x => x.id = k)

/-- The ticket number after one: 99 is followed by 1 (R133). -/
def nextTicketNumber (n : Nat) : Nat := if n ≥ 99 then 1 else n + 1

/-- The first free number of a class from `n` on, within `tries` tries (R133). -/
def TicketQueue.freeNumber (q : TicketQueue) (k : TicketClass) : Nat → Nat → Option Nat
  | 0, _ => none
  | tries + 1, n => if q.holds ⟨k, n⟩ then q.freeNumber k tries (nextTicketNumber n) else some n

/-- Tests 1 to 3 of an issue, and the number the ticket would take (R134). -/
def State.issueTests (s : State) (k : TicketClass) : Except Result Nat := do
  require s.dayOpen .dayClosed
  require (s.classOf k).enabled .noSuch
  let n ← orRefuse (s.queue.freeNumber k 99 (s.classOf k).next) .tableFull
  require (s.queue.issueCounter < Config.sequenceMax) .tableFull
  return n

/-- An issue that passed its tests (R134). -/
def State.issue (s : State) (k : TicketClass) (n : Nat) : State :=
  let c := s.classOf k
  let ticket : Ticket := ⟨⟨k, n⟩, s.queue.issueCounter, s.clock.daySeconds, none, none⟩
  let s := s.setClass k { c with waiting := c.waiting ++ [ticket], next := nextTicketNumber n }
  let s := s.mapQueue fun q => { q with issueCounter := q.issueCounter + 1 }
  ((s.mapTotals (fun t => t.postTicket k .issued)).queueWatches k (c.waiting.length + 1)).queueChange k .issue

/-- The outlets of a kind, in the order P1 to P4. -/
def State.outletsOf (s : State) (kind : OutletKind) : List OutletId :=
  OutletId.all.filter (fun o => (s.outletOf o).kind = kind)

/-- A dispenser issue: the ticket job must be accepted first; a refusal for any cause is posted (R136, R137). -/
def State.dispenserIssue (s : State) (k : TicketClass) : State :=
  match s.issueTests k with
  | .error _ => s.mapTotals (·.postDispenserRefusal)
  | .ok n =>
    match s.offerInOrder (ticketJob ⟨k, n⟩ (s.classOf k).waiting.length s.now) (s.outletsOf .ticket) with
    | none => s.mapTotals (·.postDispenserRefusal)
    | some (s, _, _) => s.issue k n

/-! ### The order of a waiting list (R138) -/

/-- A ticket precedes another in a waiting list: reinstated tickets first, in the order they were reinstated, then the
others by issue sequence. -/
def Ticket.precedes (a b : Ticket) : Bool :=
  match a.reinstated, b.reinstated with
  | some x, some y => x < y
  | some _, none => true
  | none, some _ => false
  | none, none => a.seq < b.seq

/-- A waiting list with a ticket at the place this order gives it. -/
def insertTicket (t : Ticket) : List Ticket → List Ticket
  | [] => [t]
  | x :: xs => if t.precedes x then t :: x :: xs else x :: insertTicket t xs

/-- A ticket at its place in its class's waiting list. -/
def State.enlist (s : State) (t : Ticket) : State :=
  let c := s.classOf t.id.cls
  s.setClass t.id.cls { c with waiting := insertTicket t c.waiting }

/-! ### The choice of a call (R140) -/

/-- The call set of a port: all four classes for the office (R147). -/
def State.callSet (s : State) : Port → CallSet
  | .station st => s.queue.callSets.get st
  | .office => 0x0F

/-- A head is overdue (R140). -/
def ClassRecord.overdue (c : ClassRecord) (daySeconds : Nat) (head : Ticket) : Bool :=
  c.waitLimit ≠ 0 && 60 * c.waitLimit ≤ daySeconds - head.issuedAt

/-- The entry with the least value, the first of equals. -/
def leastBy {α : Type} (value : α → Nat) : List α → Option α
  | [] => none
  | x :: xs =>
    match leastBy value xs with
    | none => some x
    | some y => if value x ≤ value y then some x else some y

/-- The heads a port may call: of the enabled classes in its call set. -/
def State.heads (s : State) (p : Port) : List (ClassRecord × Ticket) :=
  (TicketClass.all.filter (fun k => (s.classOf k).enabled && inCallSet (s.callSet p) k)).filterMap
    fun k => (s.classOf k).waiting.head?.map (fun t => (s.classOf k, t))

/-- The ticket a call takes: the overdue head issued first, otherwise the head of the highest rank (R140). -/
def State.choose (s : State) (p : Port) : Option Ticket :=
  let heads := s.heads p
  match leastBy (fun (h : ClassRecord × Ticket) => h.2.seq) (heads.filter (fun h => h.1.overdue s.clock.daySeconds h.2)) with
  | some h => some h.2
  | none => (leastBy (fun (h : ClassRecord × Ticket) => h.1.rank) heads).map (·.2)

/-! ### Recent calls and the display (R102, R146) -/

/-- The recent-calls list after it takes a ticket at its front (R146). -/
def takeRecent (k : TicketId) (p : Port) (recent : List (TicketId × Port)) : List (TicketId × Port) :=
  ((k, p) :: recent.filter (fun e => e.1 ≠ k)).take Config.recentPlaces

/-- A job offered to each of some outlets, each taking a copy of its own; refusals are not counted (R141). -/
def State.offerEach (s : State) (job : Job) (os : List OutletId) : State :=
  os.foldl (fun s o => ((s.offer o job).map (·.1)).getD s) s

/-- The recent-calls list takes a ticket, and the display job goes to every DISPLAY outlet (R141, R143, R145). -/
def State.showCall (s : State) (k : TicketId) (p : Port) : State :=
  let s := s.mapQueue fun q => { q with recent := takeRecent k p q.recent }
  s.offerEach (displayJob s.queue.recent p) (s.outletsOf .display)

/-! ### CALLED tickets -/

/-- The CALLED ticket of a class and number. -/
def State.findCalled (s : State) (k : TicketId) : Option CalledTicket := s.queue.called.find? (fun x => x.ticket.id = k)

/-- The state with one CALLED ticket changed. -/
def State.setCalled (s : State) (x : CalledTicket) : State :=
  s.mapQueue fun q => { q with called := updateFirst (fun y => y.ticket.id = x.ticket.id) (fun _ => x) q.called }

/-- The state without one CALLED ticket. -/
def State.dropCalled (s : State) (k : TicketId) : State :=
  s.mapQueue fun q => { q with called := q.called.filter (fun x => x.ticket.id ≠ k) }

/-- A confirmed call (R141). -/
def State.confirmCall (s : State) (t : Ticket) (txn : Nat) (p : Port) : State :=
  let t := { t with reinstated := none, calledAt := some s.clock.daySeconds }
  let k := t.id.cls
  let entry : CalledTicket := ⟨t, 0, txn, p, .openEmpty, some (s.classOf k).callTimeout⟩
  let s := (s.mapQueue fun q => { q with called := q.called ++ [entry] }).showCall t.id p
  (s.queueWatches k (s.classOf k).waiting.length).queueChange k .call

/-- The missed list takes a ticket; of a full list the oldest leaves ABANDONED (R144). -/
def State.missTicket (s : State) (t : Ticket) : State :=
  let s :=
    if s.queue.missed.length < Config.missedPlaces then s
    else
      match s.queue.missed with
      | [] => s
      | old :: rest =>
        (s.mapQueue fun q => { q with missed := rest }).mapTotals (fun u => u.postTicket old.id.cls .abandoned)
  (s.mapQueue fun q => { q with missed := q.missed ++ [t] }).mapTotals (fun u => u.postTicket t.id.cls .missed)

/-- A skip, after the discard was answered OK (R144). -/
def State.skipTicket (s : State) (x : CalledTicket) : State := (s.dropCalled x.ticket.id).missTicket x.ticket

/-- The wait of a ticket: its latest call less its issue (R148). -/
def Ticket.wait (t : Ticket) : Nat := (t.calledAt.getD t.issuedAt) - t.issuedAt

/-- What an outcome posts (R148). -/
def TicketOutcome.change (o : TicketOutcome) (t : Ticket) : TicketChange :=
  match o with
  | .sale => .sale t.wait
  | .noSale => .noSale t.wait
  | .abandoned => .abandoned

/-- A bound transaction has gone: its ticket leaves the queue's keeping and is posted (R148). -/
def State.endTicket (s : State) (k : TicketId) (o : TicketOutcome) : State :=
  match s.findCalled k with
  | none => s
  | some x => (s.dropCalled k).mapTotals (fun u => u.postTicket k.cls (o.change x.ticket))

/-- What a report of a bound transaction still in hand does (R142). -/
def CalledTicket.hear (x : CalledTicket) (callTimeout : Nat) : BoundReport → CalledTicket
  | .firstLine => { x with bound := .openWithLines, timer := none }
  | .parked => { x with bound := .parked, timer := none }
  | .resumed true => { x with bound := .openEmpty, timer := some callTimeout }
  | .resumed false => { x with bound := .openWithLines, timer := none }

/-- A report of a bound transaction still in hand reaches the queue (R142). DESIGN CHOICE (log entry 45): the report names
its ticket alone, and is heard for the ticket's present call, also where it was made in an earlier one. -/
def State.hearBound (s : State) (k : TicketId) (report : BoundReport) : State :=
  match s.findCalled k with
  | none => s
  | some x => s.setCalled (x.hear (s.classOf k.cls).callTimeout report)

/-- A report of the transaction table reaches the queue. -/
def State.hearReport (s : State) (m : TicketId × TicketReport) : State :=
  match m.2 with
  | .bound r => s.hearBound m.1 r
  | .outcome o => s.endTicket m.1 o

/-- Every report on its way to the queue is taken, oldest first. -/
def State.settleTickets (s : State) : State :=
  let s' := s.transit.ticketReports.foldl State.hearReport s
  { s' with transit := { s'.transit with ticketReports := [] } }

/-! ### The day (R149) -/

/-- No unit is in progress: no call between its opening test and its open bound, no skip before its discard (R192). -/
def State.unitsEnded (s : State) : Bool := s.queue.calls.isEmpty && s.transit.discards.isEmpty

/-- The queue begins the day. -/
def TicketQueue.beginDay (q : TicketQueue) : TicketQueue :=
  { q with
    classes := ⟨{ q.classes.a with next := 1 }, { q.classes.b with next := 1 }, { q.classes.c with next := 1 },
      { q.classes.d with next := 1 }⟩
    issueCounter := 1
    recent := [] }

/-- Some tickets become ABANDONED, each posted. -/
def State.abandonTickets (s : State) (ts : List Ticket) : State :=
  ts.foldl (fun s t => s.mapTotals (fun u => u.postTicket t.id.cls .abandoned)) s

/-- One class's waiting list is abandoned, with QUEUE_CHANGE where it was not empty. -/
def State.abandonClass (s : State) (k : TicketClass) : State :=
  let list := (s.classOf k).waiting
  if list.isEmpty then s
  else ((s.setClass k { s.classOf k with waiting := [] }).abandonTickets list).queueChange k .close

/-- The queue ends the day: every waiting list class by class, then the missed list. DESIGN CHOICE (log entry 38): R149
gives no order among the classes; they go from A to D, each class's notice before the next class. -/
def State.endDay (s : State) : State :=
  let s := TicketClass.all.foldl State.abandonClass s
  (s.mapQueue fun q => { q with missed := [] }).abandonTickets s.queue.missed

end Sys2Proof.Machine
end

