-- ==== Sys2Proof/Machine/Day.lean ====
section
/-! DEFINITION. The opening and the closing of the business day (section 9.2). -/

namespace Sys2Proof.Machine

/-! ### Opening (R172) -/

/-- The tests of OPEN DAY, in order. -/
def State.openDayTests (s : State) (date : Date) : Except Result Unit := do
  require (!s.dayOpen) .dayOpen
  require (!s.clock.unset) .clockUnset
  require date.real .badValue

/-- The day number an opening takes: 0 becomes 1. -/
def openingNumber (n : Nat) : Nat := if n = 0 then 1 else n

/-- The seven steps of an opening. -/
def State.openDay (s : State) (date : Date) : State :=
  let n := openingNumber s.totals.day.number
  let s := s.mapTotals fun t => { t with day := { t.day with number := n, opened := some ⟨date, s.now⟩ } }
  let s := { s with
    clock := { s.clock with daySeconds := 0 }
    txn := { s.txn with nextNumber := 1 }
    queue := s.queue.beginDay }
  s.notifyAll Port.all (.dayState true n date .opened 0)

/-- OPEN DAY (R172). -/
def execOpenDay (p : Port) (t : Tag) (date : Date) (s : State) : Outcome :=
  takeRequest p t (.openDay p t date) s fun r s =>
    match s.openDayTests date with
    | .error e => s.refuse r e
    | .ok () => (s.openDay date).ok r (.dayOpened (openingNumber s.totals.day.number) date)

/-! ### Closing (R126, R173, R174) -/

/-- The tests of CLOSE DAY, and the open day (R173). -/
def State.closeDayTests (s : State) (mode : CloseMode) : Except Result OpenDay := do
  let d ← orRefuse s.totals.day.opened .dayClosed
  require (mode = .force || s.txn.held.isEmpty) .openTxn
  return d

/-- One held transaction is force-voided: a void posted as forced, and a bound ticket abandoned (R126, R174 step 1). -/
def State.forceVoid (s : State) (n : Nat) : State :=
  match s.findTxn n with
  | none => s
  | some x =>
    let s := (s.voidAll x).mapTotals fun t => t.postForcedVoid x.clerk x.subtotal
    let s :=
      match x.ticket with
      | none => s
      | some k => s.endTicket k .abandoned
    s.removeTxn x

/-- Every held transaction force-voided, in ascending order of number. -/
def State.forceVoidAll (s : State) : State := (s.txn.held.map (·.number)).foldl State.forceVoid s

/-- The day number after a close: 9999 is followed by 1 (R174 step 7). -/
def nextDayNumber (n : Nat) : Nat := if n ≥ 9999 then 1 else n + 1

/-- Steps 3, 4, 6 and 7 of R174 on the totals unit. -/
def Totals.closeDay (t : Totals) (mode : CloseMode) (at_ : DateTime) : Totals where
  day := ⟨none, nextDayNumber t.day.number, 0, 0, 0, 0, false⟩
  acc := .zero
  snapshot := some ⟨t.day, t.acc, mode, at_⟩
  watches := rearmAll t.watches

/-- The cause a DAY_STATE gives for a close. -/
def closeCause : CloseMode → DayCause
  | .normal => .closeNormal
  | .force => .closeForce

/-- Steps 1 and 2 of a close, after the reports still on their way to the ticket queue (R149, R174). -/
def State.clearCounter (s : State) (mode : CloseMode) : State :=
  let s := s.settleTickets
  (match mode with
    | .force => s.forceVoidAll
    | .normal => s).endDay

/-- Steps 3 to 8 of a close (R174). -/
def State.sealDay (s : State) (mode : CloseMode) (d : OpenDay) : State :=
  let day := s.totals.day
  let s := s.mapTotals fun t => t.closeDay mode s.now
  let s := { s with txn := { s.txn with closed := [] } }
  s.notifyAll Port.all (.dayState false day.number d.date (closeCause mode) day.forcedVoids)

/-- CLOSE DAY (R173, R174). A call between its opening test and its open bound, or a skip before its discard, is already
begun: the close is taken wholly after it (R173, R192). DESIGN CHOICE (log entry 8): until then the request waits. -/
def execCloseDay (p : Port) (t : Tag) (mode : CloseMode) (s : State) : Outcome :=
  if s.unitsEnded then
    takeRequest p t (.closeDay p t mode) s fun r s =>
      match s.closeDayTests mode with
      | .error e => s.refuse r e
      | .ok d =>
        let s := s.clearCounter mode
        (s.sealDay mode d).ok r (.dayClosed s.totals.day.number s.totals.day.forcedVoids)
  else .next s

end Sys2Proof.Machine
end

