-- ==== Sys2Proof/Machine/Starts.lean ====
section
/-! DEFINITION. Clock and retention (chapter 10): the calendar clock, the day-seconds counter, the starts and
RESTART. -/

namespace Sys2Proof.Machine

/-! ### Clocks (R188 to R190) -/

/-- SET CLOCK (R189). -/
def execSetClock (p : Port) (t : Tag) (date : Date) (time : Time) (s : State) : Outcome :=
  takeRequest p t (.setClock p t date time) s fun r s =>
    if date.real && time.real then
      { s with clock := { s.clock with now := ⟨date, time⟩, unset := false } }.ok r .empty
    else s.refuse r .badValue

/-- CLOCK_SECOND (R188). -/
def execClockSecond (s : State) : Outcome := done { s with clock := { s.clock with now := s.clock.now.tick } }

/-- DAY_SECONDS_ADVANCE (R190). -/
def execDaySecondsAdvance (s : State) : Outcome :=
  done { s with clock := { s.clock with daySeconds := saturate Config.daySecondsMax s.clock.daySeconds } }

/-! ### Start values (R18, R47, R129, R151, R170, R187) -/

/-- A cold start: every retained item at its default. The calibration store is not touched (R66, R193). -/
def State.coldStart (s : State) (lv : Levels) : State where
  pending := s.pending
  link := ⟨coldLinks lv.present, .const defaultPermissions, .default, .idle⟩
  weigh := ⟨.started (.default .s1) s.weigh.w1.record, .started (.default .s2) s.weigh.w2.record,
    .started (.default .s3) s.weigh.w3.record, .started (.default .s4) s.weigh.w4.record⟩
  sealHigh := lv.sealHigh
  plus := []
  pricing := ⟨0, 1⟩
  txn := .cold
  queue := .cold lv.dispenser
  outlets := ⟨.cold .label lv.outletPresent.p1 lv.outletHold.p1, .cold .label lv.outletPresent.p2 lv.outletHold.p2,
    .cold .ticket lv.outletPresent.p3 lv.outletHold.p3, .cold .display lv.outletPresent.p4 lv.outletHold.p4⟩
  totals := .cold
  clock := ⟨clockStart, true, 0, .cold⟩
  transit := .empty
  timeReadings := s.timeReadings

/-- A link at a warm start: the refusal record and its count are kept (R18). -/
def Link.warm (l : Link) (present : Bool) : Link := .started present l.refusal l.refusalCount

/-- The links at a warm start. -/
def warmLinks (m : PerPort Link) (lv : PerPort Bool) : PerPort Link where
  stations := ⟨m.stations.s1.warm lv.stations.s1, m.stations.s2.warm lv.stations.s2, m.stations.s3.warm lv.stations.s3,
    m.stations.s4.warm lv.stations.s4, m.stations.s5.warm lv.stations.s5, m.stations.s6.warm lv.stations.s6⟩
  office := m.office.warm lv.office

/-- A channel at a warm start: working settings and store record kept (R47). -/
def Channel.warm (c : Channel) : Channel := .started c.working c.record

/-- An outlet at a warm start: settings and stall count kept (R170). -/
def Outlet.warm (x : Outlet) (present hold : Bool) : Outlet :=
  .started x.kind x.prescale x.limitCount x.mode x.stalls present hold

/-- The transaction table at a warm start: no PRICE ITEM in flight, no line names an item label job (R129). -/
def TxnTable.warm (t : TxnTable) : TxnTable :=
  { t with
    held := t.held.map fun x => { x with lines := x.lines.map fun l => { l with label := none } }
    closed := t.closed.map fun x => { x with lines := x.lines.map fun l => { l with label := none } }
    inFlight := []
    nextRequest := 1 }

/-- A CALLED ticket at a warm start: its timer starts again in full while its transaction is open and empty (R151). -/
def CalledTicket.warm (classes : PerClass ClassRecord) (x : CalledTicket) : CalledTicket :=
  { x with timer :=
      match x.bound with
      | .openEmpty => some (classes.get x.ticket.id.cls).callTimeout
      | .openWithLines | .parked => none }

/-- The ticket queue at a warm start (R151). -/
def TicketQueue.warm (q : TicketQueue) (lv : PerLine Bool) : TicketQueue :=
  { q with called := q.called.map (CalledTicket.warm q.classes), lines := startedLines lv }

/-- The change record settled (R192): of a unit that has ended, every change is made, the reports it still has on their
way included; a call in progress is not made, and its ticket is where it was. -/
def State.settleUnits (s : State) : State :=
  let s := s.settleTickets
  let s := s.mapTotals fun t => t.postReports s.transit.totals
  let calls := s.queue.calls
  calls.foldl (fun s x => s.enlist x.ticket) (s.mapQueue fun q => { q with calls := [] })

/-- The labels lost from the outlets' queues, as reports (R191, R193). -/
def State.lostLabels (s : State) : List TotalsReport :=
  List.replicate (s.outlets.p1.labelCount + s.outlets.p2.labelCount + s.outlets.p3.labelCount + s.outlets.p4.labelCount)
    .labelLost

/-- A warm start, of the kind given (R193, R194). -/
def State.warmStart (s : State) (kind : StartKind) (lv : Levels) : State :=
  let s := s.settleUnits
  { s with
    link := { s.link with links := warmLinks s.link.links lv.present, restart := .idle }
    weigh := ⟨s.weigh.w1.warm, s.weigh.w2.warm, s.weigh.w3.warm, s.weigh.w4.warm⟩
    sealHigh := lv.sealHigh
    txn := s.txn.warm
    queue := s.queue.warm lv.dispenser
    outlets := ⟨s.outlets.p1.warm lv.outletPresent.p1 lv.outletHold.p1,
      s.outlets.p2.warm lv.outletPresent.p2 lv.outletHold.p2, s.outlets.p3.warm lv.outletPresent.p3 lv.outletHold.p3,
      s.outlets.p4.warm lv.outletPresent.p4 lv.outletHold.p4⟩
    totals := s.totals.postReports s.lostLabels
    clock := { s.clock with lastStart := kind }
    transit := .empty }

/-- POWER_UP: BACKUP_GOOD decides between a warm start and a cold one (R193). -/
def execPowerUp (backupGood : Bool) (levels : Levels) (s : State) : Outcome :=
  done (if backupGood then s.warmStart .warm levels else s.coldStart levels)

/-! ### RESTART (R194) -/

/-- Where a RESTART's reply stands once it is produced: on its way, or discarded because its slot was dropped (R6, R194). -/
def State.restartReply (s : State) (r : Requester) : RestartPhase :=
  if s.transit.cancellations.any (Cancellation.names r) then .due else .replying r.tag

/-- RESTART: the reply OK is produced, and from now on no link admits a frame. -/
def execRestart (p : Port) (t : Tag) (s : State) : Outcome :=
  takeRequest p t (.restart p t) s fun r s =>
    let s := s.ok r .empty
    if s.link.restart = .idle then { s with link := { s.link with restart := s.restartReply r } } else s

/-- RESTART_EFFECTS: they begin once the RESTART's reply has been sent or abandoned and no unit is in progress. -/
def execRestartEffects (levels : Levels) (s : State) : Outcome :=
  if s.link.restart = .due ∧ s.unitsEnded then done (s.warmStart .restart levels) else done s

end Sys2Proof.Machine
end

