-- ==== Sys2Proof/Machine/Links.lean ====
section
/-! DEFINITION. The link controller (chapter 1): link states, rate learning, frames, admission, transmission, link
reset, cancellations and the general requests. -/

namespace Sys2Proof.Machine

/-! ### Admission (R7 to R9) -/

/-- The four checks of admission, in order, and the request they let in (R7). -/
def admissionChecks (l : Link) (permissions : PerStation PermSet) (p : Port) (f : Frame) : Except Result Instr := do
  require (l.slots.length < Config.slotsPerLink) .busy
  require (!l.slots.any (fun x => x.tag = f.tag)) .tagInUse
  let c ← orRefuse (readRequest p f.tag f.code f.body) .badRequest
  require (optional (Access.passes permissions p) (accessOf f.code.toNat)) .denied
  return c

/-- Admission of the oldest frame in the receive buffer and, after each frame admitted, of the next. It waits behind a
frame whose refusal is not sent yet, and stops on every link once a RESTART is taken (R7, R194). The fuel is the number
of frames. -/
def State.admitFrames (s : State) (p : Port) : Nat → State
  | 0 => s
  | fuel + 1 =>
    let l := s.linkOf p
    match l.buffer with
    | [] => s
    | f :: rest =>
      if f.refused ∨ s.link.restart ≠ .idle then s
      else
        match admissionChecks l s.link.permissions p f with
        | .ok c =>
          (s.setLink p { l with buffer := rest, slots := l.slots ++ [⟨f.tag, c, .admitted, s.nextOrder⟩] }).admitFrames p
            fuel
        | .error e =>
          s.setLink p { l with
            buffer := { f with refused := true } :: rest
            ready := l.ready ++ [⟨false, s.replyNow ⟨p, f.tag, f.code⟩ e .empty⟩] }

/-- Admission of all the receive buffer may hold. -/
def State.admitAll (s : State) (p : Port) : State := s.admitFrames p (s.linkOf p).buffer.length

/-! ### Receiving (R1 to R4) -/

/-- PRESENT_LINE_RISES (R1). -/
def execPresentLineRises (p : Port) (s : State) : Outcome :=
  let l := s.linkOf p
  if l.state = .down then done (s.setLink p { l with state := .learn, rate := none, rx := [] }) else done s

/-- Bits per second. -/
def Rate.bps : Rate → Nat
  | .r19200 => 19200
  | .r38400 => 38400
  | .r57600 => 57600
  | .r115200 => 115200

/-- A quarter of a low interval of `lowNs` ns lies within 3 % of the rate's bit time, the limit included (R2). -/
def Rate.fits (r : Rate) (lowNs : Nat) : Bool :=
  decide (100 * ((lowNs * r.bps : Nat) - 4000000000 : Int).natAbs ≤ 12000000000)

/-- The rate a low interval measures. -/
def measuredRate (lowNs : Nat) : Option Rate :=
  [Rate.r19200, .r38400, .r57600, .r115200].find? (fun r => r.fits lowNs)

/-- RATE_LEARNING_CHARACTER (R2): an accepted character is the start byte of the first frame. -/
def execRateLearningCharacter (p : Port) (lowNs : Nat) (decoded : Byte) (s : State) : Outcome :=
  let l := s.linkOf p
  if l.state = .learn then
    match measuredRate lowNs with
    | some r =>
      if decoded = startByte then done (s.setLink p { l with state := .up, rate := some r, rx := [startByte] })
      else done (s.setLink p { l with rateError := true })
    | none => done (s.setLink p { l with rateError := true })
  else done s

/-- What hunting has found reaches the receive buffer and the counts (R3 to R5). -/
def Link.receive (l : Link) : HuntEvent → Link
  | .checkError => { l with checkErrors := saturate Config.linkCountCap l.checkErrors }
  | .good f =>
    if l.buffer.length < Config.receiveBuffer then
      { l with buffer := l.buffer ++ [f], good := saturate Config.linkCountCap l.good }
    else { l with overruns := saturate Config.linkCountCap l.overruns }

/-- Each finding in turn, admission following it. -/
def State.receiveAll (s : State) (p : Port) (events : List HuntEvent) : State :=
  events.foldl (fun s e => (s.mapLink p (·.receive e)).admitAll p) s

/-- FRAME_RECEIVED: bytes that arrive on a link in UP, hunted with what was collected before (R3, R4). -/
def execFrameReceived (p : Port) (bytes : List Byte) (s : State) : Outcome :=
  let l := s.linkOf p
  if l.state = .up then
    let found := hunt false (l.rx ++ bytes).length (l.rx ++ bytes)
    done ((s.setLink p { l with rx := found.2 }).receiveAll p found.1)
  else done s

/-- FRAME_GAP_TIMEOUT: a gap of more than 50 ms after the bytes collected so far; an incomplete frame is rejected (R3). -/
def execFrameGapTimeout (p : Port) (s : State) : Outcome :=
  let l := s.linkOf p
  if l.state = .up then
    let found := hunt true l.rx.length l.rx
    done ((s.setLink p { l with rx := found.2 }).receiveAll p found.1)
  else done s

/-! ### Transmission (R12, R13) -/

/-- The slot of the reply that has been sent. -/
def Slot.answered (t : Tag) (x : Slot) : Bool := x.tag = t && x.phase = .ready

/-- A sent reply frees its slot, or its refused frame (R4, R11). -/
def Link.freeSent (l : Link) (r : ReadyReply) : Link :=
  if r.fromSlot then
    { l with tx := none, slots :=
        match takeFirst (Slot.answered r.reply.tag) l.slots with
        | some (_, rest) => rest
        | none => l.slots }
  else { l with tx := none, buffer := l.buffer.drop 1 }

/-- The refusal record after a refusal was sent (R13). -/
def Link.recordRefusal (l : Link) (r : Reply) : Link :=
  if r.result = .ok then l
  else
    { l with
      refusal := some ⟨r.code, r.tag, r.result, r.at_, r.daySeconds⟩
      refusalCount := saturate Config.linkCountCap l.refusalCount }

/-- The report of one refusal sent to a station (R180). -/
def refusalReports (p : Port) (r : Reply) : List TotalsReport :=
  match p with
  | .station st => if r.result = .ok then [] else [.refusal st]
  | .office => []

/-- RESTART's effects are due once its reply has been sent (R194). -/
def restartAfter (phase : RestartPhase) (p : Port) (r : ReadyReply) : RestartPhase :=
  if phase = .replying r.reply.tag ∧ p = .office ∧ r.fromSlot ∧ r.reply.code = 0x7F then .due else phase

/-- A reply has been sent whole. -/
def State.replySent (s : State) (p : Port) (r : ReadyReply) : State :=
  let s := s.mapLink p fun l => (l.freeSent r).recordRefusal r.reply
  { s with
    link := { s.link with restart := restartAfter s.link.restart p r }
    transit := { s.transit with totals := s.transit.totals ++ refusalReports p r.reply } }

/-- TRANSMIT_COMPLETE (R12): the frame in transmission has been sent; admission goes on, and the next frame starts. -/
def execTransmitComplete (p : Port) (s : State) : Outcome :=
  match (s.linkOf p).tx with
  | none => done s
  | some (.notice _ _) => done (s.mapLink p fun l => { l with tx := none })
  | some (.reply r) => done ((s.replySent p r).admitAll p)

/-! ### Link reset and cancellations (R6, R48, R52, R61) -/

/-- A link after its reset: counts, refusal record and refusal count are kept (R6, R18). -/
def Link.reset (l : Link) : Link :=
  { l with
    state := .down, rate := none, rateError := false, rx := [], buffer := [], slots := [], ready := [], tx := none,
    notices := [], dropped := 0, threshold := 1 }

/-- A channel forgets its reports to a home station whose link was reset, and withdraws that port's pending grant
(R48, R58). -/
def Channel.forgetPort (c : Channel) (p : Port) : Channel :=
  let c := if c.isHome p then { c with lastSent := none, reportTimer := none, reportPending := false } else c
  if c.pendingGrant.map (·.port) = some p then { c with pendingGrant := none } else c

/-- One channel is told of a link reset: a hold of the port ends at once, or at the end of a write in flight (R61). -/
def State.resetChannel (s : State) (p : Port) (w : Platter) : State :=
  let c := (s.channel w).forgetPort p
  if c.holdOwner = some p then
    match c.slot with
    | some op =>
      match op.phase with
      | .writing _ _ => s.setChannel w { c with holdOwner := none }
      | .waiting => (s.setChannel w { c with slot := none }).endHold w
    | none => (s.setChannel w c).endHold w
  else s.setChannel w c

/-- A reset of the office abandons the reply of a RESTART, whose effects are then due (R194). -/
def restartAfterReset (phase : RestartPhase) (p : Port) : RestartPhase :=
  match phase, p with
  | .replying _, .office => .due
  | _, _ => phase

/-- The session number of a port's cancellations at its next reset: above those still on their way. -/
def nextSession (p : Port) (cs : List Cancellation) : Nat :=
  placeAbove ((cs.filter (fun x => x.port = p)).map (·.session))

/-- The cancellation of a dropped slot's request. A request on its way to another block is still to be taken there, before
its cancellation or after; one of the link controller's own ends with its slot (R6, log entry 9). -/
def Slot.cancellation (p : Port) (session : Nat) (x : Slot) : Cancellation :=
  ⟨p, x.tag, x.request, session, x.phase = .admitted && requestOwner x.request ≠ .link, x.order⟩

/-- LINK_RESET (R6). DESIGN CHOICE (log entry 36): the spec gives no order in which the four platters are told; W1 to W4
act in order. -/
def execLinkReset (p : Port) (s : State) : Outcome :=
  let l := s.linkOf p
  if l.state = .down then done s
  else
    let s := s.setLink p l.reset
    let s := { s with
      link := { s.link with restart := restartAfterReset s.link.restart p }
      transit := { s.transit with
        cancellations := s.transit.cancellations ++
          l.slots.map (Slot.cancellation p (nextSession p s.transit.cancellations)) } }
    done (Platter.all.foldl (fun s w => s.resetChannel p w) s)

/-- A reply's address forgotten, where it is the cancelled request's. -/
def forget (r : Requester) (x : Option Requester) : Option Requester := if x = some r then none else x

/-- A cancellation at a weighing channel: a waiting operation of the request ends, a write runs on without a reply, a
pending grant is withdrawn (R52, R58). -/
def State.cancelAtChannel (s : State) (w : Platter) (r : Requester) : State :=
  let c := s.channel w
  let c := { c with pendingGrant := forget r c.pendingGrant }
  match c.slot with
  | none => s.setChannel w c
  | some op =>
    if op.replyTo = some r then
      match op.phase with
      | .waiting => (s.setChannel w { c with slot := none }).givePending w
      | .writing _ _ => s.setChannel w { c with slot := some { op with replyTo := none } }
    else s.setChannel w c

/-- A cancellation at the transaction table: a PRICE ITEM in flight leaves the list, and its capture's cancellation goes
to the channel (R115). -/
def State.cancelPriceItem (s : State) (r : Requester) : State :=
  match takeFirst (fun (e : InFlight) => e.requester = r) s.txn.inFlight with
  | none => s
  | some (e, rest) =>
    { s with
      txn := { s.txn with inFlight := rest }
      transit := { s.transit with captureCancels := s.transit.captureCancels ++ [(e.platter, e.request)] } }

/-- A cancellation at the ticket queue: a call that has not been confirmed ends, its ticket back at its place as after an
open bound refused (R138, R139), and a skip that has not been discarded ends too; neither has had an effect (R6). -/
def State.cancelAtTickets (s : State) (r : Requester) : State :=
  match takeFirst (fun (x : Call) => x.replyTo = r) s.queue.calls with
  | some (x, rest) => { s with queue := { s.queue with calls := rest } }.enlist x.ticket
  | none => { s with transit := { s.transit with discards := s.transit.discards.filter (fun x => x.replyTo ≠ some r) } }

/-- A cancellation at an outlet: a CANCEL JOB that waits goes on waiting, without a reply (R168). -/
def State.cancelAtOutlet (s : State) (o : OutletId) (r : Requester) : State :=
  let x := s.outletOf o
  s.setOutlet o { x with jobs := x.jobs.map fun j => { j with cancels := j.cancels.filter (fun y => y ≠ r) } }

/-- A cancellation at the block that owns the request. The other blocks answer every request as they take it. -/
def State.cancelAt (s : State) (r : Requester) : Block → State
  | .weighing w => s.cancelAtChannel w r
  | .txn => s.cancelPriceItem r
  | .tickets => s.cancelAtTickets r
  | .outlet o => s.cancelAtOutlet o r
  | .link | .plu | .totals | .clock => s

/-- REQUEST_CANCELLATION: the oldest cancellation of this port and tag reaches the owning block (R6). -/
def execRequestCancellation (p : Port) (t : Tag) (s : State) : Outcome :=
  match takeFirst (fun (x : Cancellation) => x.port = p && x.tag = t) s.transit.cancellations with
  | none => done s
  | some (x, rest) =>
    let s := { s with transit := { s.transit with cancellations := rest } }
    done (s.cancelAt ⟨p, t, requestCode x.request⟩ (requestOwner x.request))

/-! ### General requests (R5, R10, R13 to R17) -/

/-- What READ STATUS replies to a port (R17). -/
def State.statusView (s : State) (p : Port) : StatusView where
  lastStart := s.clock.lastStart
  now := s.now
  clockUnset := s.clock.unset
  opened := s.totals.day.opened.map (·.date)
  dayNumber := s.totals.day.number
  links := ⟨⟨(s.linkOf (.station .s1)).state, (s.linkOf (.station .s2)).state, (s.linkOf (.station .s3)).state,
    (s.linkOf (.station .s4)).state, (s.linkOf (.station .s5)).state, (s.linkOf (.station .s6)).state⟩,
    (s.linkOf .office).state⟩
  platters := ⟨((s.channel .w1).state, (s.channel .w1).holdOwner), ((s.channel .w2).state, (s.channel .w2).holdOwner),
    ((s.channel .w3).state, (s.channel .w3).holdOwner), ((s.channel .w4).state, (s.channel .w4).holdOwner)⟩
  outlets := ⟨(s.outletOf .p1).state, (s.outletOf .p2).state, (s.outletOf .p3).state, (s.outletOf .p4).state⟩
  permissions := heldSet s.link.permissions p
  threshold := (s.linkOf p).threshold
  notices := (s.linkOf p).notices.length
  dropped := (s.linkOf p).dropped
  slots := (s.linkOf p).slots.length

/-- READ STATUS (R17). -/
def execReadStatus (p : Port) (t : Tag) (s : State) : Outcome :=
  takeRequest p t (.readStatus p t) s fun r s => s.ok r (.status (s.statusView p))

/-- READ REFUSAL (R13). -/
def execReadRefusal (p : Port) (t : Tag) (named : Port) (s : State) : Outcome :=
  takeRequest p t (.readRefusal p t named) s fun r s =>
    if p = .office ∨ p = named then s.ok r (.refusal (s.linkOf named).refusal (s.linkOf named).refusalCount)
    else s.refuse r .denied

/-- A link as READ LINK shows it (R5). -/
def Link.view (l : Link) : LinkView :=
  ⟨l.state, if l.state = .up then l.rate else none, l.rateError, l.good, l.checkErrors, l.overruns⟩

/-- A link after READ LINK: its counts at 0, its rate-error flag clear (R5). -/
def Link.clearCounts (l : Link) : Link := { l with good := 0, checkErrors := 0, overruns := 0, rateError := false }

/-- READ LINK (R5). -/
def execReadLink (p : Port) (t : Tag) (named : Port) (s : State) : Outcome :=
  takeRequest p t (.readLink p t named) s fun r s =>
    if p = .office ∨ p = named then
      let v := (s.linkOf named).view
      (s.mapLink named Link.clearCounts).ok r (.link v)
    else s.refuse r .denied

/-- A notice threshold or priority: 1 to 7 (R14, R15). -/
def levelInRange (n : Nat) : Bool := 1 ≤ n && n ≤ 7

/-- SET THRESHOLD (R15). -/
def execSetThreshold (p : Port) (t : Tag) (value : Nat) (s : State) : Outcome :=
  takeRequest p t (.setThreshold p t value) s fun r s =>
    if levelInRange value then (s.mapLink p fun l => { l with threshold := value }).ok r .empty
    else s.refuse r .badValue

/-- SET NOTICE PRIORITY (R14). -/
def execSetNoticePriority (p : Port) (t : Tag) (kind : NoticeKind) (priority : Nat) (s : State) : Outcome :=
  takeRequest p t (.setNoticePriority p t kind priority) s fun r s =>
    if levelInRange priority then
      { s with link := { s.link with priorities := s.link.priorities.set kind priority } }.ok r .empty
    else s.refuse r .badValue

/-- SET PERMISSIONS (R10). -/
def execSetPermissions (p : Port) (t : Tag) (station : Port) (set : PermSet) (s : State) : Outcome :=
  takeRequest p t (.setPermissions p t station set) s fun r s =>
    match station.station? with
    | none => s.refuse r .badValue
    | some st => { s with link := { s.link with permissions := s.link.permissions.set st set } }.ok r .empty

end Sys2Proof.Machine
end

