-- ==== Sys2Proof/Machine/Tickets.lean ====
section
/-! DEFINITION. The commands of chapter 7: classes, issues, dispenser lines, calls, call timers, recall, skip and
reinstatement, the reports of the transaction table, and the reading of the queue. -/

namespace Sys2Proof.Machine

/-! ### Classes (R131) -/

/-- A class record after one entry of CONFIGURE CLASS; call timeout and hold-off are clamped. -/
def ClassRecord.apply (c : ClassRecord) (e : ClassEntry) : ClassRecord :=
  { c with
    enabled := e.enabled.getD c.enabled
    rank := e.rank.getD c.rank
    waitLimit := e.waitLimit.getD c.waitLimit
    callTimeout := (e.callTimeout.map (clamp 10 300)).getD c.callTimeout
    line := e.line.getD c.line
    edge := e.edge.getD c.edge
    holdOff := (e.holdOff.map (clamp 200 2000)).getD c.holdOff }

/-- The class records that would result. -/
def applyEntries (cs : PerClass ClassRecord) (es : List ClassEntry) : PerClass ClassRecord :=
  es.foldl (fun cs e => cs.set e.cls ((cs.get e.cls).apply e)) cs

/-- No entry of the list occurs twice. -/
def allDistinct {α : Type} [DecidableEq α] : List α → Bool
  | [] => true
  | x :: xs => !xs.contains x && allDistinct xs

/-- The tests of CONFIGURE CLASS, in order, and the records it leaves (R131). -/
def configureClassTests (cs : PerClass ClassRecord) (es : List ClassEntry) : Except Result (PerClass ClassRecord) := do
  require (allDistinct (es.map (·.cls))) .badValue
  require (es.all (fun e => optional (fun r => 1 ≤ r && r ≤ 4) e.rank && optional (fun w => w ≤ 120) e.waitLimit)) .badValue
  let out := applyEntries cs es
  require (allDistinct [out.a.rank, out.b.rank, out.c.rank, out.d.rank]) .badValue
  require (allDistinct ([out.a.line, out.b.line, out.c.line, out.d.line].filterMap id)) .badValue
  return out

/-- CONFIGURE CLASS (R131). -/
def execConfigureClass (p : Port) (t : Tag) (entries : List ClassEntry) (s : State) : Outcome :=
  takeRequest p t (.configureClass p t entries) s fun r s =>
    match configureClassTests s.queue.classes entries with
    | .error e => s.refuse r e
    | .ok cs => (s.mapQueue fun q => { q with classes := cs }).ok r .empty

/-! ### Issues (R135 to R137) -/

/-- ISSUE TICKET (R135). -/
def execIssueTicket (p : Port) (t : Tag) (cls : TicketClass) (s : State) : Outcome :=
  takeRequest p t (.issueTicket p t cls) s fun r s =>
    match s.issueTests cls with
    | .error e => s.refuse r e
    | .ok n => (s.issue cls n).ok r (.issued ⟨cls, n⟩ s.queue.issueCounter (s.classOf cls).waiting.length)

/-- The edge selection includes a change to this level (R137). -/
def edgeIncludes : EdgeSelection → Bool → Bool
  | .rising, high => high
  | .falling, high => !high
  | .both, _ => true
  | .off, _ => false

/-- The class that governs a dispenser line (R137). -/
def State.governor (s : State) (d : DispenserLine) : Option TicketClass :=
  TicketClass.all.find? (fun k => (s.classOf k).line = some d)

/-- The state with one dispenser line replaced. -/
def State.setLine (s : State) (d : DispenserLine) (x : DispenserState) : State :=
  s.mapQueue fun q => { q with lines := q.lines.set d x }

/-- DISPENSER_LINE_CHANGE (R137): at every change of level the level last seen is updated; a press starts the hold-off
and makes a dispenser issue. A report of the level already seen is no change. -/
def execDispenserLineChange (d : DispenserLine) (high : Bool) (s : State) : Outcome :=
  let x := s.queue.lines.get d
  if x.level = high then done s
  else
    match s.governor d with
    | none => done (s.setLine d { x with level := high })
    | some k =>
      let c := s.classOf k
      if edgeIncludes c.edge high ∧ x.holdOff = none then
        done ((s.setLine d ⟨high, some c.holdOff⟩).dispenserIssue k)
      else done (s.setLine d { x with level := high })

/-- HOLD_OFF_EXPIRY: the timer stops, and the line is not looked back at (R137). -/
def execHoldOffExpiry (d : DispenserLine) (s : State) : Outcome :=
  done (s.setLine d { s.queue.lines.get d with holdOff := none })

/-! ### Calls (R139 to R143) -/

/-- Steps 1 to 4 of CALL NEXT: the clerk and the chosen ticket (R139). -/
def State.callTests (s : State) (p : Port) (clerk : Nat) : Except Result (ClerkNo × Ticket) := do
  let c ← namedClerk clerk
  require s.dayOpen .dayClosed
  s.openingTest c
  let ticket ← orRefuse (s.choose p) .queueEmpty
  return (c, ticket)

/-- A ticket leaves its waiting list. -/
def State.delist (s : State) (k : TicketId) : State :=
  let c := s.classOf k.cls
  s.setClass k.cls { c with waiting := c.waiting.filter (fun x => x.id ≠ k) }

/-- CALL NEXT (R139): up to the open-bound order, which OPEN_BOUND takes. -/
def execCallNext (p : Port) (t : Tag) (clerk : Nat) (s : State) : Outcome :=
  takeRequest p t (.callNext p t clerk) s fun r s =>
    match s.callTests p clerk with
    | .error e => s.refuse r e
    | .ok (c, ticket) =>
      (s.delist ticket.id).mapQueue fun q => { q with calls := q.calls ++ [⟨ticket, c, p, r⟩] }

/-- OPEN_BOUND: the transaction table takes the open-bound order for a chosen ticket; the call is confirmed, or the
ticket returns to its place (R127, R138, R139, R141). An order that was not given is not there to be taken. -/
def execOpenBound (ticket : TicketId) (s : State) : Outcome :=
  match takeFirst (fun (x : Call) => x.ticket.id = ticket) s.queue.calls with
  | none => done s
  | some (call, rest) =>
    let s := s.mapQueue fun q => { q with calls := rest }
    match s.openingTest call.clerk with
    | .error e => done ((s.enlist call.ticket).refuse call.replyTo e)
    | .ok () =>
      let n := s.txn.takesNumber
      let s := (s.openTxn call.clerk (some ticket) call.port).noteStation call.clerk call.port
      done ((s.confirmCall call.ticket n call.port).ok call.replyTo (.called ticket n 0))

/-- CALL_TIMER_EXPIRY (R143). A stopped timer does not expire. -/
def execCallTimerExpiry (ticket : TicketId) (s : State) : Outcome :=
  match s.findCalled ticket with
  | none => done s
  | some x =>
    if x.timer = none then done s
    else if x.recalls < 3 then
      let x := { x with recalls := x.recalls + 1, timer := some (s.classOf ticket.cls).callTimeout }
      done (((s.setCalled x).showCall ticket x.station).notify x.station
        (.callExpired ticket x.txn .recall x.recalls))
    else
      let s := s.setCalled { x with timer := none }
      done { s with transit := { s.transit with discards := s.transit.discards ++ [⟨ticket, x.txn, true, none⟩] } }

/-- What follows a discard answered OK: the skip, then CALL_EXPIRED for an automatic one or the reply (R143 to R145). -/
def State.afterDiscard (s : State) (m : DiscardOrder) : State :=
  match s.findCalled m.ticket with
  | none => s.replyTo m.replyTo .ok (.skipped m.ticket)
  | some x =>
    let s := s.skipTicket x
    if m.automatic then s.notify x.station (.callExpired m.ticket x.txn .skip x.recalls)
    else s.replyTo m.replyTo .ok (.skipped m.ticket)

/-- DISCARD: the transaction table takes the oldest discard order for this ticket, and the queue acts on its answer
(R127, R143 to R145). -/
def execDiscard (ticket : TicketId) (s : State) : Outcome :=
  match takeFirst (fun (m : DiscardOrder) => m.ticket = ticket) s.transit.discards with
  | none => done s
  | some (m, rest) =>
    let s := { s with transit := { s.transit with discards := rest } }
    match s.discard m.txn m.ticket with
    | .error e => done (s.replyTo m.replyTo e .empty)
    | .ok s => done (s.afterDiscard m)

/-- The oldest report on its way for a ticket, and the state without it. -/
def State.takeReport (s : State) (ticket : TicketId) : Option (TicketReport × State) :=
  match takeFirst (fun (m : TicketId × TicketReport) => m.1 = ticket) s.transit.ticketReports with
  | none => none
  | some ((_, report), rest) => some (report, { s with transit := { s.transit with ticketReports := rest } })

/-- BOUND_TXN_REPORT: the oldest report for this ticket, of a transaction still in hand (R142). -/
def execBoundTxnReport (ticket : TicketId) (s : State) : Outcome :=
  match s.takeReport ticket with
  | some (.bound report, s) => done (s.hearBound ticket report)
  | some (.outcome _, _) | none => done s

/-- TICKET_OUTCOME_REPORT: the oldest report for this ticket, of a transaction that has gone (R148). -/
def execTicketOutcomeReport (ticket : TicketId) (s : State) : Outcome :=
  match s.takeReport ticket with
  | some (.outcome o, s) => done (s.endTicket ticket o)
  | some (.bound _, _) | none => done s

/-! ### Recall, skip, reinstate (R145) -/

/-- The bound lookup: the clerk's OPEN transaction, bound to a ticket that is CALLED (R127, R145). -/
def State.boundLookup (s : State) (clerk : Nat) : Except Result (Txn × CalledTicket) := do
  let c ← namedClerk clerk
  let x ← orRefuse (s.openOf c) .noSuch
  let k ← orRefuse x.ticket .noSuch
  let called ← orRefuse (s.findCalled k) .noSuch
  return (x, called)

/-- The tests of RECALL (R145). -/
def State.recallTests (s : State) (clerk : Nat) : Except Result CalledTicket := do
  let (_, x) ← s.boundLookup clerk
  require (x.recalls < 3) .limit
  return x

/-- RECALL (R145). -/
def execRecall (p : Port) (t : Tag) (clerk : Nat) (s : State) : Outcome :=
  takeRequest p t (.recall p t clerk) s fun r s =>
    match s.recallTests clerk with
    | .error e => s.refuse r e
    | .ok x =>
      let k := x.ticket.id
      let x := { x with
        recalls := x.recalls + 1
        station := p
        timer := if x.bound = .openEmpty then some (s.classOf k.cls).callTimeout else x.timer }
      ((s.setCalled x).showCall k p).ok r (.recalled k x.recalls)

/-- The tests of SKIP before the discard order (R145). -/
def State.skipTests (s : State) (clerk : Nat) : Except Result (Txn × CalledTicket) := do
  let (x, called) ← s.boundLookup clerk
  require x.lines.isEmpty .hasLines
  return (x, called)

/-- SKIP (R145): up to the discard order, which DISCARD takes. -/
def execSkip (p : Port) (t : Tag) (clerk : Nat) (s : State) : Outcome :=
  takeRequest p t (.skip p t clerk) s fun r s =>
    match s.skipTests clerk with
    | .error e => s.refuse r e
    | .ok (x, called) =>
      { s with transit := { s.transit with
        discards := s.transit.discards ++ [⟨called.ticket.id, x.number, false, some r⟩] } }

/-- The tests of REINSTATE: the ticket and the missed list without it (R145). -/
def State.reinstateTests (s : State) (k : TicketId) : Except Result (Ticket × List Ticket) := do
  require (1 ≤ k.number && k.number ≤ 99) .badValue
  orRefuse (takeFirst (fun (t : Ticket) => t.id = k) s.queue.missed) .noSuch

/-- The place of a ticket in a list, counted from 1. -/
def placeOf (k : TicketId) (list : List Ticket) : Nat := list.findIdx (fun x => x.id = k) + 1

/-- REINSTATE (R145). -/
def execReinstate (p : Port) (t : Tag) (ticket : TicketId) (s : State) : Outcome :=
  takeRequest p t (.reinstate p t ticket) s fun r s =>
    match s.reinstateTests ticket with
    | .error e => s.refuse r e
    | .ok (x, rest) =>
      let x := { x with reinstated := some s.queue.reinstateTurn }
      let s := s.mapQueue fun q => { q with missed := rest, reinstateTurn := q.reinstateTurn + 1 }
      let s := s.enlist x
      let list := (s.classOf ticket.cls).waiting
      ((s.queueWatches ticket.cls list.length).queueChange ticket.cls .reinstate).ok r
        (.reinstated ticket (placeOf ticket list))

/-! ### Reading the queue (R150) -/

/-- The head of a waiting list as READ QUEUE shows it. -/
def ClassRecord.headView (c : ClassRecord) (daySeconds : Nat) : Option HeadView :=
  c.waiting.head?.map fun t => ⟨t.id.number, t.issuedAt, t.seq, t.reinstated.isSome, c.overdue daySeconds t⟩

/-- A class as READ QUEUE shows it. -/
def ClassRecord.view (c : ClassRecord) (daySeconds : Nat) : ClassView :=
  ⟨c.enabled, c.rank, c.waitLimit, c.callTimeout, c.next, c.waiting.length, c.headView daySeconds⟩

/-- The CALLED tickets as READ QUEUE shows them: what is left of each running timer is a free value of its own. -/
def calledViews (reading : Nat) : List CalledTicket → List CalledView
  | [] => []
  | x :: xs =>
    ⟨x.ticket.id, x.txn, x.station, x.recalls, x.bound, x.timer.map (timeLeft reading)⟩ :: calledViews (reading + 1) xs

/-- What READ QUEUE replies to a port. DESIGN CHOICE (log entry 39): R150 gives the CALLED tickets no order; they are listed
in the order their calls were confirmed. -/
def State.queueView (s : State) (p : Port) : QueueView where
  classes := ⟨(s.classOf .a).view s.clock.daySeconds, (s.classOf .b).view s.clock.daySeconds,
    (s.classOf .c).view s.clock.daySeconds, (s.classOf .d).view s.clock.daySeconds⟩
  missed := s.queue.missed.map fun t => (t.id, t.issuedAt)
  recent := s.queue.recent
  called := calledViews s.timeReadings s.queue.called
  issueCounter := s.queue.issueCounter
  callSet := s.callSet p

/-- READ QUEUE (R150). -/
def execReadQueue (p : Port) (t : Tag) (s : State) : Outcome :=
  takeRequest p t (.readQueue p t) s fun r s =>
    { s with timeReadings := s.timeReadings + s.queue.called.length }.ok r (.queue (s.queueView p))

end Sys2Proof.Machine
end

