-- ==== Sys2Proof/Machine/Transactions.lean ====
section
/-! DEFINITION. The commands of chapter 6: clerks, pricing items into transactions, changing, closing, voiding and
reading them. -/

namespace Sys2Proof.Machine

/-! ### Clerks and stations -/

/-- The clerk has a PARKED transaction (R104). -/
def State.hasParked (s : State) (c : ClerkNo) : Bool := s.txn.held.any (fun x => x.clerk = c && x.parkedAt.isSome)

/-- The tests of CLERK WRITE (R104). -/
def State.clerkWriteTests (s : State) (clerk : Nat) (name : Text) (enabled : Bool) : Except Result ClerkNo := do
  let c ← namedClerk clerk
  require (name.length ≤ 12) .badValue
  require (enabled || ((s.clerk c).openTxn.isNone && !s.hasParked c)) .inUse
  return c

/-- CLERK WRITE (R104). -/
def execClerkWrite (p : Port) (t : Tag) (clerk : Nat) (name : Text) (enabled : Bool) (s : State) : Outcome :=
  takeRequest p t (.clerkWrite p t clerk name enabled) s fun r s =>
    match s.clerkWriteTests clerk name enabled with
    | .error e => s.refuse r e
    | .ok c =>
      (s.setClerk c { s.clerk c with name := name, enabled := enabled, lastStation := some p }).ok r .empty

/-- A store-wide field is present in CONFIGURE STATION (R87). -/
def hasStoreWide (f : StationFields) : Bool := f.prefixDigit.isSome || f.step.isSome

/-- The tests of CONFIGURE STATION, in order (R87, R113). -/
def configureStationTests (p station : Port) (f : StationFields) : Except Result Station := do
  let st ← orRefuse station.station? .badValue
  require (p = .office || p = station) .denied
  require (!hasStoreWide f || p = .office) .denied
  require (optional (fun d => d ≤ 9) f.prefixDigit && optional (fun n => n = 1 || n = 5 || n = 10) f.step) .badValue
  require (optional (fun (set : CallSet) => set.toNat < 16) f.callSet) .badValue
  return st

/-- A station's outlet settings after CONFIGURE STATION (R113). -/
def OutletRouting.apply (x : OutletRouting) (f : StationFields) : OutletRouting :=
  ⟨f.primary.getD x.primary, f.fallback.getD x.fallback, f.labelEach.getD x.labelEach⟩

/-- CONFIGURE STATION (R113): outlet settings, call set and store-wide settings in one event. -/
def execConfigureStation (p : Port) (t : Tag) (station : Port) (fields : StationFields) (s : State) : Outcome :=
  takeRequest p t (.configureStation p t station fields) s fun r s =>
    match configureStationTests p station fields with
    | .error e => s.refuse r e
    | .ok st =>
      { s with
        txn := { s.txn with routing := s.txn.routing.set st ((s.txn.routing.get st).apply fields) }
        queue := { s.queue with
          callSets := s.queue.callSets.set st (fields.callSet.getD (s.queue.callSets.get st)) }
        pricing := ⟨fields.prefixDigit.getD s.pricing.prefixDigit, fields.step.getD s.pricing.step⟩ }.ok r .empty

/-! ### Adding items (R109 to R115) -/

/-- The capture request number after one (R109). -/
def nextCaptureRequest (n : Nat) : Nat := if n ≥ Config.sequenceMax then 1 else n + 1

/-- The arrival tests of PRICE ITEM, in order (R109). -/
def State.priceItemTests (s : State) (p : Port) (w : Platter) (plu clerk : Nat) : Except Result ClerkNo := do
  require s.dayOpen .dayClosed
  let c ← namedClerk clerk
  require (s.clerk c).enabled .noSuch
  let _ ← pricingRead plu .byWeight s.plus
  require ((s.channel w).isHome p) .denied
  return c

/-- A PRICE ITEM that would be accepted finds its platter's last capture, or that capture's refusal, still on its way to
the transaction table, with its entry in the in-flight list (R109). -/
def State.captureOutstanding (s : State) (p : Port) (w : Platter) (plu clerk : Nat) : Bool :=
  s.txn.inFlight.any (fun e => e.platter = w) && (s.priceItemTests p w plu clerk).toBool &&
    ((s.channel w).admitOperation s.sealHigh p .capture).toBool

/-- PRICE ITEM at arrival (R109): the request takes the next capture request number, and the channel is asked for a
CAPTURE; a refusal of the channel removes the entry again. DESIGN CHOICE (log entry 51): R109 admits one entry per
platter, so a request whose platter's last capture is still on its way is taken after it, and waits until then. -/
def execPriceItem (p : Port) (t : Tag) (w : Platter) (plu clerk : Nat) (label : LabelChoice) (s : State) : Outcome :=
  if s.captureOutstanding p w plu clerk then .next s
  else
    takeRequest p t (.priceItem p t w plu clerk label) s fun r s =>
      match s.priceItemTests p w plu clerk with
      | .error e => s.refuse r e
      | .ok c =>
        let n := s.txn.nextRequest
        let s := { s with txn := { s.txn with nextRequest := nextCaptureRequest n } }
        let ch := s.channel w
        match ch.admitOperation s.sealHigh p .capture with
        | .error e => s.refuse r e
        | .ok () =>
          let entry := ⟨r, n, w, plu, c, label, (s.clerk c).openTxn, s.totals.day.number⟩
          { s with txn := { s.txn with inFlight := s.txn.inFlight ++ [entry] } }.setChannel w
            { ch with slot := some (ch.newEntry .capture r n 0) }

/-- The line list and subtotal an item would join: those of the clerk's OPEN transaction, empty for a new one. -/
def State.targetLines (s : State) (c : ClerkNo) : List Line × Nat :=
  match s.openOf c with
  | some x => (x.lines, x.subtotal)
  | none => ([], 0)

/-- The business date (R171). -/
def State.business (s : State) : Option Date := s.totals.day.opened.map (·.date)

/-- The last tests before a line is taken, which PRICE ITEM and ADD COUNT ITEM share: room for the line, the subtotal's
limit, and the reserve (R110 tests 6 to 8, R114 tests 6 to 8). -/
def State.lineTests (s : State) (c : ClerkNo) (plu : Nat) (item : PricedItem) : Except Result PluRecord := do
  require ((s.targetLines c).1.length < Config.linesPerTxn) .txnFull
  require ((s.targetLines c).2 + item.amount ≤ Config.subtotalMax) .priceLimit
  reserveTests plu item.kind item.quantity s.plus

/-- The tests at a capture's completion, in order (R110). -/
def State.captureTests (s : State) (e : InFlight) (c : CaptureRecord) :
    Except Result (PluRecord × PricedItem × PluRecord) := do
  require (s.dayOpen && s.totals.day.number = e.day) .dayClosed
  require (s.clerk e.clerk).enabled .noSuch
  let read ← pricingRead e.plu .byWeight s.plus
  let item ← priceByWeight s.pricing s.business s.now.date read.fields c
  require ((s.clerk e.clerk).openTxn = e.target) .txnGone
  let reserved ← s.lineTests e.clerk e.plu item
  return (read, item, reserved)

/-- CAPTURE_TAKEN: the oldest capture record on its way from this platter's channel. With no in-flight entry of its
number it is discarded unconsumed (R110, R111, R115). -/
def execCaptureTaken (w : Platter) (s : State) : Outcome :=
  match takeFirst (fun (m : CaptureRecord) => m.platter = w) s.transit.captures with
  | none => done s
  | some (m, rest) =>
    let s := { s with transit := { s.transit with captures := rest } }
    match takeFirst (fun (e : InFlight) => e.platter = w && e.request = m.request) s.txn.inFlight with
    | none => done s
    | some (e, others) =>
      let s := { s with txn := { s.txn with inFlight := others } }
      match s.captureTests e m with
      | .error code => done (s.refuse e.requester code)
      | .ok (read, item, reserved) =>
        done ((s.reserve reserved item.quantity).takeLine e.requester e.clerk e.target e.plu read.fields item
          (some (w, m.number)) e.label)

/-- CAPTURE_REFUSAL_TAKEN: the oldest capture refusal on its way from this platter's channel. Its code is the deferred
reply; one that matches no in-flight entry is ignored (R51, R115). -/
def execCaptureRefusalTaken (w : Platter) (s : State) : Outcome :=
  match takeFirst (fun (m : CaptureRefusal) => m.platter = w) s.transit.captureRefusals with
  | none => done s
  | some (m, rest) =>
    let s := { s with transit := { s.transit with captureRefusals := rest } }
    match takeFirst (fun (e : InFlight) => e.platter = w && e.request = m.request) s.txn.inFlight with
    | none => done s
    | some (e, others) => done ({ s with txn := { s.txn with inFlight := others } }.refuse e.requester m.result)

/-- The tests of ADD COUNT ITEM, in order (R114). -/
def State.countTests (s : State) (plu quantity clerk : Nat) :
    Except Result (ClerkNo × PluRecord × PricedItem × PluRecord) := do
  require s.dayOpen .dayClosed
  let c ← namedClerk clerk
  require (s.clerk c).enabled .noSuch
  let read ← pricingRead plu .byCount s.plus
  let item ← priceByCount s.pricing s.business s.now.date read.fields quantity
  let reserved ← s.lineTests c plu item
  return (c, read, item, reserved)

/-- ADD COUNT ITEM (R114). -/
def execAddCountItem (p : Port) (t : Tag) (plu quantity clerk : Nat) (label : LabelChoice) (s : State) : Outcome :=
  takeRequest p t (.addCountItem p t plu quantity clerk label) s fun r s =>
    match s.countTests plu quantity clerk with
    | .error e => s.refuse r e
    | .ok (c, read, item, reserved) =>
      (s.reserve reserved item.quantity).takeLine r c (s.clerk c).openTxn plu read.fields item none label

/-! ### Changing a transaction in hand (R116 to R120) -/

/-- The tests of VOID LINE (R116). DESIGN CHOICE (log entry 53): a line index outside 1 to 40 names no line and is answered
NO_SUCH, where R9 has a number out of its range refused BAD_VALUE. -/
def State.voidLineTests (s : State) (clerk index : Nat) : Except Result (Txn × Line) := do
  let c ← namedClerk clerk
  let x ← orRefuse (s.openOf c) .noSuch
  let l ← orRefuse (x.lines.find? (fun l => l.index = index)) .noSuch
  require (!l.voided) .noSuch
  return (x, l)

/-- VOID LINE (R116). -/
def execVoidLine (p : Port) (t : Tag) (clerk index : Nat) (s : State) : Outcome :=
  takeRequest p t (.voidLine p t clerk index) s fun r s =>
    match s.voidLineTests clerk index with
    | .error e => s.refuse r e
    | .ok (x, l) =>
      let x' := { x.voidLine l with lastStation := p }
      let s := ((s.setTxn x').noteStation x.clerk p).returnStock l.plu l.quantity
      ((s.mapTotals (fun u => u.postLineVoid x.clerk)).cancelLabel l).ok r (.lineVoided x'.subtotal x'.itemCount)

/-- The tests of PARK (R117). DESIGN CHOICE (log entry 37): R117 does not order its cases; they are tested as it lists
them, so a clerk without an OPEN transaction is refused NO_SUCH beside a full parked list. -/
def State.parkTests (s : State) (clerk : Nat) : Except Result Txn := do
  let c ← namedClerk clerk
  let x ← orRefuse (s.openOf c) .noSuch
  require (s.txn.parked.length < Config.parkedPlaces) .tableFull
  return x

/-- PARK (R117). -/
def execPark (p : Port) (t : Tag) (clerk : Nat) (s : State) : Outcome :=
  takeRequest p t (.park p t clerk) s fun r s =>
    match s.parkTests clerk with
    | .error e => s.refuse r e
    | .ok x =>
      let s := s.setTxn { x with parkedAt := some s.now, lastStation := p }
      let s := { s with txn := { s.txn with parked := s.txn.parked ++ [x.number] } }
      let s := s.setClerk x.clerk { s.clerk x.clerk with openTxn := none, lastStation := some p }
      (s.reportTicket x.ticket (.bound .parked)).ok r (.parked x.number)

/-- The PARKED transaction RESUME names: by number it must belong to the clerk; OLDEST is the clerk's first in the
parked list (R118). DESIGN CHOICE (log entry 53): a number outside 1 to 9999 finds none and is answered NO_SUCH, where R9
has a number out of its range refused BAD_VALUE. -/
def State.resumeFinds (s : State) (c : ClerkNo) : ResumeTarget → Option Txn
  | .number n =>
    match s.findTxn n with
    | some x => if x.parkedAt.isSome ∧ x.clerk = c then some x else none
    | none => none
  | .oldest => (s.txn.parked.filterMap s.findTxn).find? (fun x => x.clerk = c)

/-- The tests of RESUME (R118). -/
def State.resumeTests (s : State) (clerk : Nat) (target : ResumeTarget) : Except Result Txn := do
  let c ← namedClerk clerk
  let x ← orRefuse (s.resumeFinds c target) .noSuch
  match s.openOf c with
  | none => return x
  | some y => if y.ticket.isSome ∧ x.ticket.isSome then .error .inService else .error .openTxn

/-- RESUME (R118). -/
def execResume (p : Port) (t : Tag) (clerk : Nat) (target : ResumeTarget) (s : State) : Outcome :=
  takeRequest p t (.resume p t clerk target) s fun r s =>
    match s.resumeTests clerk target with
    | .error e => s.refuse r e
    | .ok x =>
      let s := s.setTxn { x with parkedAt := none, lastStation := p }
      let s := { s with txn := { s.txn with parked := s.txn.parked.filter (fun n => n ≠ x.number) } }
      let s := s.setClerk x.clerk { s.clerk x.clerk with openTxn := some x.number, lastStation := some p }
      (s.reportTicket x.ticket (.bound (.resumed x.lines.isEmpty))).ok r (.resumed x.number x.subtotal x.approval)

/-- The tests of APPROVE (R120). -/
def State.approveTests (s : State) (number : Nat) : Except Result Txn := do
  require (txnNumberInRange number) .badValue
  let x ← orRefuse (s.findTxn number) .noSuch
  require (x.approval = .required) .badValue
  return x

/-- APPROVE (R120). -/
def execApprove (p : Port) (t : Tag) (number : Nat) (s : State) : Outcome :=
  takeRequest p t (.approve p t number) s fun r s =>
    match s.approveTests number with
    | .error e => s.refuse r e
    | .ok x => (s.setTxn { x with approval := .granted }).ok r .empty

/-! ### Closing, reprinting, voiding (R121 to R125) -/

/-- Tests 1 to 4 of CLOSE TRANSACTION (R121). -/
def State.closeTests (s : State) (clerk : Nat) : Except Result Txn := do
  let c ← namedClerk clerk
  let x ← orRefuse (s.openOf c) .noSuch
  require (x.approval ≠ .required) .approval
  require (!(unvoided x.lines).isEmpty) .hasNoLines
  return x

/-- Test 5 of CLOSE TRANSACTION: the total label accepted, where one is asked for (R121). -/
def State.closeLabel (s : State) (x : Txn) (label : Bool) (p : Port) : Except Result (State × LabelStatus) :=
  if label then
    match s.routeLabel p (totalLabel s.pricing false x.number x.clerk (s.clerk x.clerk).name x.ticket x.subtotal x.lines
        s.now p) with
    | none => .error .noOutlet
    | some (s, o, id) => .ok (s, .queued o id)
  else .ok (s, .notAsked)

/-- CLOSE TRANSACTION (R121, R122). -/
def execCloseTransaction (p : Port) (t : Tag) (clerk : Nat) (label : Bool) (s : State) : Outcome :=
  takeRequest p t (.closeTransaction p t clerk label) s fun r s =>
    match s.closeTests clerk with
    | .error e => s.refuse r e
    | .ok x =>
      match s.closeLabel x label p with
      | .error e => s.refuse r e
      | .ok (s, status) => (s.closeSteps x p).ok r (.closed x.number x.subtotal x.itemCount status)

/-- The closed-list entry REPRINT TOTAL names (R124). -/
def State.reprintTests (s : State) (number : Nat) : Except Result ClosedEntry := do
  require (txnNumberInRange number) .badValue
  orRefuse (s.txn.closed.find? (fun e => e.number = number)) .noSuch

/-- REPRINT TOTAL (R100, R124). -/
def execReprintTotal (p : Port) (t : Tag) (number : Nat) (s : State) : Outcome :=
  takeRequest p t (.reprintTotal p t number) s fun r s =>
    match s.reprintTests number with
    | .error e => s.refuse r e
    | .ok e =>
      match s.routeLabel p (totalLabel s.pricing true e.number e.clerk e.clerkName e.ticket e.subtotal e.lines e.closedAt
          p) with
      | none => s.refuse r .noOutlet
      | some (s, o, id) => s.ok r (.reprinted o id)

/-- The held transaction VOID TRANSACTION names: BAD_VALUE out of range, NO_SUCH when there is none (R125). -/
def State.voidTests (s : State) : TxnName → Except Result Txn
  | .byClerk n => do
    let c ← namedClerk n
    orRefuse (s.openOf c) .noSuch
  | .byNumber n => do
    require (txnNumberInRange n) .badValue
    orRefuse (s.findTxn n) .noSuch

/-- The last station noted where the request names a clerk (R103). -/
def State.noteNamed (s : State) (name : TxnName) (c : ClerkNo) (p : Port) : State :=
  match name with
  | .byClerk _ => s.noteStation c p
  | .byNumber _ => s

/-- VOID TRANSACTION (R125). -/
def execVoidTransaction (p : Port) (t : Tag) (name : TxnName) (s : State) : Outcome :=
  takeRequest p t (.voidTransaction p t name) s fun r s =>
    match s.voidTests name with
    | .error e => s.refuse r e
    | .ok x =>
      let s := (s.voidAll x).mapTotals (fun u => u.postVoid x.clerk x.subtotal)
      let s := (s.reportTicket x.ticket (.outcome .noSale)).removeTxn x
      (s.noteNamed name x.clerk p).ok r (.voided x.number x.subtotal)

/-! ### Reading (R128) -/

/-- Up to three lines in index order from the first index on (R128). -/
def pageLines (first : Nat) (lines : List Line) : List Line := (lines.filter (fun l => first ≤ l.index)).take 3

/-- What READ TRANSACTION replies, or its refusal (R128). DESIGN CHOICE (log entry 37): the first line index is judged
before the transaction is looked for; R128 orders neither before the other. -/
def State.readTxn (s : State) (name : TxnName) (first : Nat) : Except Result Payload := do
  require (1 ≤ first && first ≤ 40) .badValue
  match name with
  | .byClerk n => do
    let c ← namedClerk n
    let x ← orRefuse (s.openOf c) .noSuch
    return .heldTxn { x with lines := pageLines first x.lines } x.lines.length
  | .byNumber n => do
    require (txnNumberInRange n) .badValue
    match s.findTxn n with
    | some x => return .heldTxn { x with lines := pageLines first x.lines } x.lines.length
    | none => do
      let e ← orRefuse (s.txn.closed.find? (fun e => e.number = n)) .noSuch
      return .closedTxn { e with lines := pageLines first e.lines } e.lines.length

/-- READ TRANSACTION (R128). -/
def execReadTransaction (p : Port) (t : Tag) (name : TxnName) (first : Nat) (s : State) : Outcome :=
  takeRequest p t (.readTransaction p t name first) s fun r s =>
    match s.readTxn name first with
    | .error e => s.refuse r e
    | .ok v => s.ok r v

/-- The numbers of a clerk's PARKED transactions, in parked-list order (R128). -/
def State.parkedOf (s : State) (c : ClerkNo) : List Nat :=
  ((s.txn.parked.filterMap s.findTxn).filter (fun x => x.clerk = c)).map (·.number)

/-- READ CLERK (R128). -/
def execReadClerk (p : Port) (t : Tag) (clerk : Nat) (s : State) : Outcome :=
  takeRequest p t (.readClerk p t clerk) s fun r s =>
    match namedClerk clerk with
    | .error e => s.refuse r e
    | .ok c => s.ok r (.clerk clerk (s.clerk c) (s.parkedOf c))

end Sys2Proof.Machine
end

