-- ==== Sys2Proof/Machine/Weighing.lean ====
section
/-! DEFINITION. The weighing commands: samples, the silence and report timers, and the requests of section 2.11. -/

namespace Sys2Proof.Machine

/-- SAMPLE_ARRIVAL: one converter sample (R20). A window that now holds N samples is evaluated. -/
def execSampleArrival (w : Platter) (sample : BitVec 24) (s : State) : Outcome :=
  let c := (s.channel w).addSample sample.toInt
  let s := s.setChannel w c
  done (if c.window.length = c.working.n then s.evaluate w else s)

/-- A waiting operation's last unmet condition becomes NOT_READY at a silence expiry (R50). -/
def Channel.silenceSlot (c : Channel) : Channel :=
  match c.slot with
  | some op =>
    match op.phase with
    | .waiting => { c with slot := some { op with lastUnmet := .notReady } }
    | .writing _ _ => c
  | none => c

/-- The state a silence expiry leaves, and whether it is an entry into FAULT (R23). -/
def Channel.silenceState (c : Channel) : Channel × Bool :=
  match c.state with
  | .zeroing | .motion | .stable | .overload | .underload => ({ c with state := .fault }, true)
  | .uncalibrated | .held | .fault => (c, false)

/-- SILENCE_TIMER_EXPIRY (R23). A stopped timer does not expire. -/
def execSilenceTimerExpiry (w : Platter) (s : State) : Outcome :=
  let c := s.channel w
  if c.silence = none then done s
  else
    let (c, entered) := { c.emptyWindow.silenceSlot with silence := none }.silenceState
    let s := s.setChannel w c
    done ((if entered then s.alert w .fault else s).reportCheck w)

/-- REPORT_TIMER_EXPIRY (R40): with the pending flag set and the fields different, the current fields are sent. -/
def execReportTimerExpiry (w : Platter) (s : State) : Outcome :=
  let c := s.channel w
  if c.reportTimer = none then done s
  else
    let s := s.setChannel w { c with reportTimer := none, reportPending := false }
    done (if c.reportPending ∧ c.lastSent ≠ some (c.report w) then s.sendReport w else s)

/-- READ WEIGHT (R43). -/
def execReadWeight (p : Port) (t : Tag) (w : Platter) (s : State) : Outcome :=
  takeRequest p t (.readWeight p t w) s fun r s => s.ok r (.report ((s.channel w).report w))

/-- The tests of PRESET TARE in order, and the tare they leave, in g (R44). -/
def Channel.presetTareTests (c : Channel) (p : Port) (grams : Nat) : Except Result Nat := do
  require (c.isHome p) .denied
  require c.state.showsWeight .notReady
  let tare := c.record.met.roundTare grams
  require (c.record.met.e1 ≤ tare && tare ≤ c.record.met.max1) .tareLimit
  return tare

/-- PRESET TARE (R42, R44). -/
def execPresetTare (p : Port) (t : Tag) (w : Platter) (grams : Nat) (s : State) : Outcome :=
  takeRequest p t (.presetTare p t w grams) s fun r s =>
    let c := s.channel w
    match c.presetTareTests p grams with
    | .error e => s.refuse r e
    | .ok tare =>
      ((s.setChannel w (c.setTare (1000 * tare) .preset)).ok r (.tareApplied tare)).reportCheck w

/-- CLEAR TARE (R42, R45). -/
def execClearTare (p : Port) (t : Tag) (w : Platter) (s : State) : Outcome :=
  takeRequest p t (.clearTare p t w) s fun r s =>
    let c := s.channel w
    if c.isHome p then ((s.setChannel w (c.setTare 0 .none)).ok r .empty).reportCheck w
    else s.refuse r .denied

end Sys2Proof.Machine
end

