-- ==== Sys2Proof/Machine/Dispatch.lean ====
section
/-! DEFINITION. The effect of each command on everything but the queue of waiting commands: one arm, one meaning. -/

namespace Sys2Proof.Machine

def exec (i : Instr) (s : State) : Host.Outcome State Fault Refusal :=
  match i with
  | .presentLineRises p => Sys2Proof.Machine.execPresentLineRises p s
  | .linkReset p => Sys2Proof.Machine.execLinkReset p s
  | .rateLearningCharacter p lowNs decoded => Sys2Proof.Machine.execRateLearningCharacter p lowNs decoded s
  | .frameReceived p bytes => Sys2Proof.Machine.execFrameReceived p bytes s
  | .frameGapTimeout p => Sys2Proof.Machine.execFrameGapTimeout p s
  | .transmitComplete p => Sys2Proof.Machine.execTransmitComplete p s
  | .readStatus p t => Sys2Proof.Machine.execReadStatus p t s
  | .readRefusal p t named => Sys2Proof.Machine.execReadRefusal p t named s
  | .readLink p t named => Sys2Proof.Machine.execReadLink p t named s
  | .setThreshold p t value => Sys2Proof.Machine.execSetThreshold p t value s
  | .setNoticePriority p t kind priority => Sys2Proof.Machine.execSetNoticePriority p t kind priority s
  | .setPermissions p t station set => Sys2Proof.Machine.execSetPermissions p t station set s
  | .requestCancellation p t => Sys2Proof.Machine.execRequestCancellation p t s
  | .sampleArrival w sample => Sys2Proof.Machine.execSampleArrival w sample s
  | .silenceTimerExpiry w => Sys2Proof.Machine.execSilenceTimerExpiry w s
  | .reportTimerExpiry w => Sys2Proof.Machine.execReportTimerExpiry w s
  | .readWeight p t w => Sys2Proof.Machine.execReadWeight p t w s
  | .presetTare p t w grams => Sys2Proof.Machine.execPresetTare p t w grams s
  | .clearTare p t w => Sys2Proof.Machine.execClearTare p t w s
  | .zero p t w => Sys2Proof.Machine.execZero p t w s
  | .tare p t w => Sys2Proof.Machine.execTare p t w s
  | .operationTimeout w => Sys2Proof.Machine.execOperationTimeout w s
  | .captureCancellation w => Sys2Proof.Machine.execCaptureCancellation w s
  | .captureConsumed w => Sys2Proof.Machine.execCaptureConsumed w s
  | .calHold p t w => Sys2Proof.Machine.execCalHold p t w s
  | .calRelease p t w => Sys2Proof.Machine.execCalRelease p t w s
  | .calZero p t w => Sys2Proof.Machine.execCalZero p t w s
  | .calSpan p t w loadGrams => Sys2Proof.Machine.execCalSpan p t w loadGrams s
  | .storeWriteEnd w success => Sys2Proof.Machine.execStoreWriteEnd w success s
  | .sealFalls => Sys2Proof.Machine.execSealFalls s
  | .configurePlatter p t w fields => Sys2Proof.Machine.execConfigurePlatter p t w fields s
  | .readCalibration p t w => Sys2Proof.Machine.execReadCalibration p t w s
  | .pluRead p t number => Sys2Proof.Machine.execPluRead p t number s
  | .pluReadNext p t number => Sys2Proof.Machine.execPluReadNext p t number s
  | .pluWrite p t number fields => Sys2Proof.Machine.execPluWrite p t number fields s
  | .pluDelete p t number => Sys2Proof.Machine.execPluDelete p t number s
  | .pluWithdraw p t number => Sys2Proof.Machine.execPluWithdraw p t number s
  | .pluRestore p t number => Sys2Proof.Machine.execPluRestore p t number s
  | .stockLoad p t number quantity watch => Sys2Proof.Machine.execStockLoad p t number quantity watch s
  | .stockLoadNone p t number => Sys2Proof.Machine.execStockLoadNone p t number s
  | .clerkWrite p t clerk name enabled => Sys2Proof.Machine.execClerkWrite p t clerk name enabled s
  | .priceItem p t w plu clerk label => Sys2Proof.Machine.execPriceItem p t w plu clerk label s
  | .captureTaken w => Sys2Proof.Machine.execCaptureTaken w s
  | .captureRefusalTaken w => Sys2Proof.Machine.execCaptureRefusalTaken w s
  | .addCountItem p t plu quantity clerk label => Sys2Proof.Machine.execAddCountItem p t plu quantity clerk label s
  | .configureStation p t station fields => Sys2Proof.Machine.execConfigureStation p t station fields s
  | .voidLine p t clerk index => Sys2Proof.Machine.execVoidLine p t clerk index s
  | .park p t clerk => Sys2Proof.Machine.execPark p t clerk s
  | .resume p t clerk target => Sys2Proof.Machine.execResume p t clerk target s
  | .approve p t number => Sys2Proof.Machine.execApprove p t number s
  | .closeTransaction p t clerk label => Sys2Proof.Machine.execCloseTransaction p t clerk label s
  | .reprintTotal p t number => Sys2Proof.Machine.execReprintTotal p t number s
  | .voidTransaction p t name => Sys2Proof.Machine.execVoidTransaction p t name s
  | .readTransaction p t name first => Sys2Proof.Machine.execReadTransaction p t name first s
  | .readClerk p t clerk => Sys2Proof.Machine.execReadClerk p t clerk s
  | .openBound ticket => Sys2Proof.Machine.execOpenBound ticket s
  | .discard ticket => Sys2Proof.Machine.execDiscard ticket s
  | .boundTxnReport ticket => Sys2Proof.Machine.execBoundTxnReport ticket s
  | .ticketOutcomeReport ticket => Sys2Proof.Machine.execTicketOutcomeReport ticket s
  | .configureClass p t entries => Sys2Proof.Machine.execConfigureClass p t entries s
  | .issueTicket p t cls => Sys2Proof.Machine.execIssueTicket p t cls s
  | .dispenserLineChange d high => Sys2Proof.Machine.execDispenserLineChange d high s
  | .holdOffExpiry d => Sys2Proof.Machine.execHoldOffExpiry d s
  | .callNext p t clerk => Sys2Proof.Machine.execCallNext p t clerk s
  | .callTimerExpiry ticket => Sys2Proof.Machine.execCallTimerExpiry ticket s
  | .recall p t clerk => Sys2Proof.Machine.execRecall p t clerk s
  | .skip p t clerk => Sys2Proof.Machine.execSkip p t clerk s
  | .reinstate p t ticket => Sys2Proof.Machine.execReinstate p t ticket s
  | .readQueue p t => Sys2Proof.Machine.execReadQueue p t s
  | .lineTaken o => Sys2Proof.Machine.execLineTaken o s
  | .deviceJobDone o => Sys2Proof.Machine.execDeviceJobDone o s
  | .holdAsserted o => Sys2Proof.Machine.execHoldAsserted o s
  | .holdReleased o => Sys2Proof.Machine.execHoldReleased o s
  | .holdTimerExpiry o => Sys2Proof.Machine.execHoldTimerExpiry o s
  | .resumeOutlet p t o => Sys2Proof.Machine.execResumeOutlet p t o s
  | .paperOut o => Sys2Proof.Machine.execPaperOut o s
  | .paperReady o => Sys2Proof.Machine.execPaperReady o s
  | .outletPresentFalls o => Sys2Proof.Machine.execOutletPresentFalls o s
  | .outletPresentRises o hold => Sys2Proof.Machine.execOutletPresentRises o hold s
  | .cancelJob p t o job => Sys2Proof.Machine.execCancelJob p t o job s
  | .readOutlet p t o => Sys2Proof.Machine.execReadOutlet p t o s
  | .configureOutlet p t o fields => Sys2Proof.Machine.execConfigureOutlet p t o fields s
  | .openDay p t date => Sys2Proof.Machine.execOpenDay p t date s
  | .closeDay p t mode => Sys2Proof.Machine.execCloseDay p t mode s
  | .totalsReport report => Sys2Proof.Machine.execTotalsReport report s
  | .readTotals p t sec key => Sys2Proof.Machine.execReadTotals p t sec key s
  | .readClosedDay p t sec key => Sys2Proof.Machine.execReadClosedDay p t sec key s
  | .setWatch p t number kind target threshold action => Sys2Proof.Machine.execSetWatch p t number kind target threshold action s
  | .readWatch p t => Sys2Proof.Machine.execReadWatch p t s
  | .setClock p t date time => Sys2Proof.Machine.execSetClock p t date time s
  | .clockSecond => Sys2Proof.Machine.execClockSecond s
  | .daySecondsAdvance => Sys2Proof.Machine.execDaySecondsAdvance s
  | .powerUp backupGood levels => Sys2Proof.Machine.execPowerUp backupGood levels s
  | .restart p t => Sys2Proof.Machine.execRestart p t s
  | .restartEffects levels => Sys2Proof.Machine.execRestartEffects levels s
  | .sealRises => Sys2Proof.Machine.execSealRises s

end Sys2Proof.Machine
end

