-- ==== Sys2Proof/WellFormed.lean ====
section
/-! DEFINITION. When a command's operands are ones a link or a line can carry: every number within the bytes its body
layout gives it (R195 to R197), every text within its length byte, one to four entries in CONFIGURE CLASS. A number
outside its stated RANGE is well formed all the same; the owning block judges it (R9). -/

namespace Sys2Proof

/-- `n` fits an unsigned field of `bytes` bytes (R195). -/
def inBytes (bytes n : Nat) : Bool := n < 256 ^ bytes

/-- An absent field fits; a present one fits as a number of `bytes` bytes. -/
def inBytesOpt (bytes : Nat) : Option Nat → Bool
  | none => true
  | some n => inBytes bytes n

/-- A text fits its one-byte length prefix. -/
def textFits (t : Text) : Bool := t.length < 256

/-- The date's year fits two bytes, its month and day one each. -/
def Date.fits (d : Date) : Bool := inBytes 2 d.year && inBytes 1 d.month && inBytes 1 d.day

/-- Hour, minute and second fit one byte each. -/
def Time.fits (t : Time) : Bool := inBytes 1 t.hour && inBytes 1 t.minute && inBytes 1 t.second

/-- A promotion fits its 12 bytes. -/
def Promotion.fits (p : Promotion) : Bool := inBytes 4 p.price && p.first.fits && p.last.fits

/-- An absent promotion fits; a present one fits its bytes. -/
def promotionFits : Option Promotion → Bool
  | none => true
  | some p => p.fits

/-- An absent text fits; a present one fits its length byte. -/
def textOptFits : Option Text → Bool
  | none => true
  | some t => textFits t

/-- The PLU WRITE fields fit their layout (section 11.4). -/
def PluFields.fits (f : PluFields) : Bool :=
  textFits f.name && textOptFits f.second && inBytes 4 f.unitPrice && promotionFits f.promotion &&
    inBytes 1 f.department && inBytesOpt 2 f.presetTare && inBytesOpt 2 f.shelfLife

/-- A given watch level fits four bytes. -/
def WatchLevel.fits : WatchLevel → Bool
  | .given n => inBytes 4 n
  | .absent | .keep => true

/-- The CONFIGURE PLATTER fields fit their layout (R197). -/
def PlatterFields.fits (f : PlatterFields) : Bool :=
  inBytesOpt 2 f.max1 && inBytesOpt 1 f.e1 && inBytesOpt 2 f.max2 && inBytesOpt 1 f.e2 && inBytesOpt 1 f.n && inBytesOpt 1 f.m &&
    inBytesOpt 1 f.motionBand && inBytesOpt 2 f.captureTimeout && inBytesOpt 2 f.reportInterval

/-- The CONFIGURE STATION numbers fit one byte each (R197). -/
def StationFields.fits (f : StationFields) : Bool := inBytesOpt 1 f.prefixDigit && inBytesOpt 1 f.step

/-- An entry of CONFIGURE CLASS fits its layout (R197). -/
def ClassEntry.fits (e : ClassEntry) : Bool :=
  inBytesOpt 1 e.rank && inBytesOpt 1 e.waitLimit && inBytesOpt 2 e.callTimeout && inBytesOpt 2 e.holdOff

/-- The CONFIGURE OUTLET numbers fit one byte each (R197). -/
def OutletFields.fits (f : OutletFields) : Bool := inBytesOpt 1 f.prescale && inBytesOpt 1 f.limitCount

/-- A transaction name fits: a clerk in one byte, a number in two. -/
def TxnName.fits : TxnName → Bool
  | .byClerk c => inBytes 1 c
  | .byNumber n => inBytes 2 n

/-- RESUME's target fits: a number in two bytes. -/
def ResumeTarget.fits : ResumeTarget → Bool
  | .number n => inBytes 2 n
  | .oldest => true

/-- Every entry fits. -/
def entriesFit : List ClassEntry → Bool
  | [] => true
  | e :: es => e.fits && entriesFit es

/-- The command's operands are ones a link or a line can carry. -/
def Instr.wf : Instr → Bool
  | .presentLineRises _ | .linkReset _ | .rateLearningCharacter _ _ _ | .frameReceived _ _ | .frameGapTimeout _
  | .transmitComplete _ | .readStatus _ _ | .readRefusal _ _ _ | .readLink _ _ _ => true
  | .setThreshold _ _ v => inBytes 1 v
  | .setNoticePriority _ _ _ n => inBytes 1 n
  | .setPermissions _ _ _ _ | .requestCancellation _ _ => true
  | .sampleArrival _ _ | .silenceTimerExpiry _ | .reportTimerExpiry _ | .readWeight _ _ _ => true
  | .presetTare _ _ _ g => inBytes 2 g
  | .clearTare _ _ _ | .zero _ _ _ | .tare _ _ _ | .operationTimeout _ | .captureCancellation _ | .captureConsumed _
  | .calHold _ _ _ | .calRelease _ _ _ | .calZero _ _ _ => true
  | .calSpan _ _ _ l => inBytes 4 l
  | .storeWriteEnd _ _ | .sealFalls => true
  | .configurePlatter _ _ _ f => f.fits
  | .readCalibration _ _ _ => true
  | .pluRead _ _ n | .pluReadNext _ _ n | .pluDelete _ _ n | .pluWithdraw _ _ n | .pluRestore _ _ n
  | .stockLoadNone _ _ n => inBytes 2 n
  | .pluWrite _ _ n f => inBytes 2 n && f.fits
  | .stockLoad _ _ n q w => inBytes 2 n && inBytes 4 q && w.fits
  | .clerkWrite _ _ c name _ => inBytes 1 c && textFits name
  | .priceItem _ _ _ n c _ => inBytes 2 n && inBytes 1 c
  | .captureTaken _ | .captureRefusalTaken _ => true
  | .addCountItem _ _ n q c _ => inBytes 2 n && inBytes 1 q && inBytes 1 c
  | .configureStation _ _ _ f => f.fits
  | .voidLine _ _ c i => inBytes 1 c && inBytes 1 i
  | .park _ _ c => inBytes 1 c
  | .resume _ _ c r => inBytes 1 c && r.fits
  | .approve _ _ n | .reprintTotal _ _ n => inBytes 2 n
  | .closeTransaction _ _ c _ => inBytes 1 c
  | .voidTransaction _ _ n => n.fits
  | .readTransaction _ _ n i => n.fits && inBytes 1 i
  | .readClerk _ _ c => inBytes 1 c
  | .openBound k | .discard k | .boundTxnReport k | .ticketOutcomeReport k | .callTimerExpiry k => inBytes 1 k.number
  | .configureClass _ _ es => 1 ≤ es.length && es.length ≤ 4 && entriesFit es
  | .issueTicket _ _ _ | .dispenserLineChange _ _ | .holdOffExpiry _ => true
  | .callNext _ _ c | .recall _ _ c | .skip _ _ c => inBytes 1 c
  | .reinstate _ _ k => inBytes 1 k.number
  | .readQueue _ _ => true
  | .lineTaken _ | .deviceJobDone _ | .holdAsserted _ | .holdReleased _ | .holdTimerExpiry _ | .resumeOutlet _ _ _
  | .paperOut _ | .paperReady _ | .outletPresentFalls _ | .outletPresentRises _ _ => true
  | .cancelJob _ _ _ j => inBytes 2 j
  | .readOutlet _ _ _ => true
  | .configureOutlet _ _ _ f => f.fits
  | .openDay _ _ d => d.fits
  | .closeDay _ _ _ | .totalsReport _ => true
  | .readTotals _ _ _ k | .readClosedDay _ _ _ k => inBytes 2 k
  | .setWatch _ _ n _ tg th _ => inBytes 1 n && inBytes 2 tg && inBytes 4 th
  | .readWatch _ _ => true
  | .setClock _ _ d tm => d.fits && tm.fits
  | .clockSecond | .daySecondsAdvance | .powerUp _ _ | .restart _ _ | .restartEffects _ | .sealRises => true

end Sys2Proof
end

