-- ==== Sys2Proof/Safety.lean ====
section
/-! DEFINITION. The terms the statements use: what a command leaves when its transmitters may have started, what a
request's reply is, and the laws of the state that every step keeps. -/

namespace Sys2Proof.Machine

/-! ### Links, seen past their transmitters -/

/-- The replies of a link not yet sent whole: the one in transmission, then those that wait. -/
def Link.replies (l : Link) : List ReadyReply :=
  (match l.tx with
    | some (.reply r) => [r]
    | some (.notice _ _) | none => []) ++ l.ready

/-- The notices of a link not yet sent whole: the one in transmission, then those that wait. -/
def Link.outbox (l : Link) : List Notice :=
  (match l.tx with
    | some (.notice n _) => [n]
    | some (.reply _) | none => []) ++ l.notices

/-- The dropped notices not yet reported whole: those the notice in transmission reports, and those since. -/
def Link.unreported (l : Link) : Nat :=
  (match l.tx with
    | some (.notice _ d) => d
    | some (.reply _) | none => 0) + l.dropped

/-- The link without what its transmitter moves. -/
def Link.still (l : Link) : Link := { l with ready := [], tx := none, notices := [], dropped := 0 }

/-- `m` is `l`, but for frames that the transmitter may have started since. -/
def Link.sameTraffic (l m : Link) : Prop :=
  m.still = l.still ∧ m.replies = l.replies ∧ m.outbox = l.outbox ∧ m.unreported = l.unreported

/-- The link once the request that holds the slot of a tag has its reply. -/
def Link.answered (l : Link) (t : Tag) (c : Instr) (r : Reply) : Link :=
  { l with
    slots := updateFirst (fun x => x.tag = t && x.request = c) (fun x => { x with phase := .ready }) l.slots
    ready := l.ready ++ [⟨true, r⟩] }

/-- The link once the request of a tag has been taken by its block and waits for its reply. -/
def Link.pending (l : Link) (t : Tag) (c : Instr) : Link :=
  { l with slots := updateFirst (fun x => x.tag = t && x.request = c) (fun x => { x with phase := .taken }) l.slots }

/-! ### What a command leaves -/

/-- `t` is `u`, but for frames that transmitters may have started since. -/
def State.upToTransmitters (u t : State) : Prop :=
  { t with link := u.link } = u ∧ t.link.permissions = u.link.permissions ∧ t.link.priorities = u.link.priorities ∧
    t.link.restart = u.link.restart ∧ ∀ q, (u.linkOf q).sameTraffic (t.linkOf q)

/-- The command answers a next state, and it is `u` up to its transmitters. -/
def Leaves (c : Instr) (s u : State) : Prop := ∃ t, exec c s = .next t ∧ u.upToTransmitters t

/-- The reply a request gets at a moment: its tag and code, a result, its fields, the calendar time and day seconds. -/
def replyAt (u : State) (t : Tag) (c : Instr) (result : Result) (payload : Payload) : Reply :=
  ⟨t, requestCode c, result, payload, u.now, u.clock.daySeconds⟩

/-- The request answers a next state: `u`, with the request's reply made and its slot reply-ready. -/
def Answers (c : Instr) (p : Port) (t : Tag) (s : State) (result : Result) (payload : Payload) (u : State) : Prop :=
  Leaves c s (u.mapLink p fun l => l.answered t c (replyAt u t c result payload))

/-- The request answers a next state: `u`, with the request taken and its reply still to come. -/
def Defers (c : Instr) (p : Port) (t : Tag) (s u : State) : Prop := Leaves c s (u.mapLink p fun l => l.pending t c)

/-- The request answers a refusal, and nothing else changes. -/
def Refuses (c : Instr) (p : Port) (t : Tag) (s : State) (code : Result) : Prop := Answers c p t s code .empty s

/-- `after` is the table `before` with the record of one PLU number changed by `f`, and no other number's. -/
def RecordChanged (before after : List PluRecord) (n : Nat) (f : PluRecord → PluRecord) : Prop :=
  findPlu n after = (findPlu n before).map f ∧ ∀ m, m ≠ n → findPlu m after = findPlu m before

/-- A watch fires at a line of a PLU that takes the subtotal from `subtotal - amount` to `subtotal` (R185). -/
def Watch.firesAt (w : Watch) (plu amount subtotal : Nat) : Prop :=
  w.armed = true ∧ (w.cond = .pluSale plu ∨
    ∃ threshold, w.cond = .txnAmount threshold ∧ subtotal - amount ≤ threshold ∧ threshold < subtotal)

/-- A label is asked for: YES, or DEFAULT from a station that labels each item (R112). -/
def LabelAsked (s : State) (p : Port) (choice : LabelChoice) : Prop :=
  choice = .yes ∨ choice = .dflt ∧ ∃ st, p = .station st ∧ (s.txn.routing.get st).labelEach = true

/-- The outlet that takes a port's label: the first of the station's primary and fallback outlets that accepts it, none
for the office (R112). -/
def labelTaker (s : State) (p : Port) (job : Job) : Option OutletId :=
  (match p with
    | .office => []
    | .station st => (s.txn.routing.get st).primary.toList ++ (s.txn.routing.get st).fallback.toList).find?
      fun o => ((s.outletOf o).offer job).isSome

/-- A notice of this kind reaches a port that is UP and asks for its priority (R16). -/
def State.hears (s : State) (p : Port) (k : NoticeKind) : Prop :=
  (s.linkOf p).state = .up ∧ (s.linkOf p).threshold ≤ s.link.priorities.get k

/-- The number an opening takes: the first from the next number on, 9999 being followed by 1, that no held transaction and
no closed-list entry has (R107). -/
def TxnTable.Takes (x : TxnTable) (n : Nat) : Prop :=
  let place := fun d : Nat => (x.nextNumber - 1 + d) % 9999 + 1
  let used := fun k : Nat => (∃ y ∈ x.held, y.number = k) ∨ ∃ e ∈ x.closed, e.number = k
  ∃ d, d < 33 ∧ n = place d ∧ ¬used n ∧ ∀ e, e < d → used (place e)

/-- What an item taken into a transaction leaves (R81, R84, R106, R111, R112, R119): the line at the end of the clerk's
OPEN transaction, built from the priced item; the subtotal and the item count; approval required by a HOLD watch that
fires; the stock reserved and the open line counted, with STOCK_LOW to the office where the reserve brings remaining to
the watch level for the first time; the last stations; the ticket queue told of a bound transaction's
first line; the label offered where one is asked for; no other transaction, and nothing of the weighing channels, the
day record and the accumulators. -/
structure ItemTaken (s t : State) (p : Port) (c : ClerkNo) (plu : Nat) (f : PluFields) (item : PricedItem)
    (capture : Option (Platter × Nat)) (choice : LabelChoice) (x : Txn) (l : Line) (status : LabelStatus) : Prop where
  number : x.number = ((s.clerk c).openTxn.getD s.txn.takesNumber)
  takes : (s.clerk c).openTxn = none → s.txn.Takes x.number
  next : t.txn.nextNumber =
    if (s.clerk c).openTxn = none then (if x.number < 9999 then x.number + 1 else 1) else s.txn.nextNumber
  openedAt : x.openedAt = (match s.openOf c with
    | some y => y.openedAt
    | none => s.clock.now)
  found : t.openOf c = some x
  lines : x.lines = (match s.openOf c with
    | some y => y.lines
    | none => []) ++ [l]
  subtotal : x.subtotal = (match s.openOf c with
    | some y => y.subtotal
    | none => 0) + item.amount
  items : x.itemCount = (match s.openOf c with
    | some y => y.itemCount
    | none => 0) + 1
  kept : x.clerk = c ∧ x.parkedAt = none ∧ x.lastStation = p ∧ x.ticket = (s.openOf c).bind (·.ticket)
  approval :
    let before := ((s.openOf c).map (·.approval)).getD .none
    let asked := ∃ j : Fin 4, s.totals.watches[j].firesAt plu item.amount x.subtotal ∧ s.totals.watches[j].action = .hold
    (before = .none → asked → x.approval = .required) ∧ (¬(before = .none ∧ asked) → x.approval = before)
  watches : t.totals.watches = (s.lineWatches plu item.amount x.subtotal x.number c).1.totals.watches
  reported : t.transit.ticketReports = s.transit.ticketReports ++ (match s.openOf c with
    | some y => if y.lines = [] then (y.ticket.map fun k => (k, TicketReport.bound .firstLine)).toList else []
    | none => [])
  unlabelled : ¬LabelAsked s p choice → l.label = none ∧ status = .notAsked ∧ t.outlets = s.outlets
  labelled : LabelAsked s p choice →
    let job := itemLabel s.pricing plu f item c (s.clerk c).name p
    match labelTaker s p job with
    | none => l.label = none ∧ status = .notQueued ∧ t.outlets = s.outlets
    | some o => ∃ y id, (s.outletOf o).offer job = some (y, id) ∧ l.label = some (o, id) ∧ status = .queued o id ∧
      t.outlets = s.outlets.set o y
  line : l = { newLine x.lines.length plu f item capture p with label := l.label }
  clerk : t.clerk c = { s.clerk c with openTxn := some x.number, lastStation := some p }
  clerks : ∀ k, k ≠ c → t.clerk k = s.clerk k
  others : ∀ n, n ≠ x.number → t.findTxn n = s.findTxn n
  stock : RecordChanged s.plus t.plus plu fun r => { r with
    openLines := r.openLines + 1
    stock := r.stock.map fun a => { a with
      remaining := a.remaining - item.quantity
      held := a.held + item.quantity
      lowNotified := a.lowNotified || a.watch.any fun level => a.remaining - item.quantity ≤ level } }
  lowStock :
    let low := fun (a : Stock) (level : Nat) => (findPlu plu s.plus).bind (·.stock) = some a ∧ a.watch = some level ∧
      a.remaining - item.quantity ≤ level ∧ a.lowNotified = false
    (∀ a level, low a level → s.hears .office .stockLow →
      .stockLow plu (a.remaining - item.quantity) (a.held + item.quantity) level ∈ (t.linkOf .office).outbox) ∧
    ((∀ a level, ¬low a level) → ∀ n ∈ (t.linkOf .office).outbox, n.kind = .stockLow → n ∈ (s.linkOf .office).outbox)
  rest : t.weigh = s.weigh ∧ t.totals.day = s.totals.day ∧ t.totals.acc = s.totals.acc ∧ t.clock = s.clock ∧
    t.queue = s.queue ∧ t.txn.closed = s.txn.closed ∧ t.txn.parked = s.txn.parked

/-- The reply of a request waits on its port, or is being sent. -/
def Replied (t : State) (r : Requester) (result : Result) (payload : Payload) : Prop :=
  ⟨true, ⟨r.tag, r.code, result, payload, t.now, t.clock.daySeconds⟩⟩ ∈ (t.linkOf r.port).replies

/-- The frame next in turn has been examined: it takes a slot, or the first failing test refuses it, the frame staying in
the buffer until its refusal is sent (R4, R7 to R9). -/
def State.examined (v : State) (p : Port) (tag : Tag) (code : Byte) (body : List Byte) : State :=
  let refused := fun e : Result => v.mapLink p fun l => { l with
    buffer := [⟨tag, code, body, true⟩]
    ready := l.ready ++ [⟨false, ⟨tag, code, e, .empty, v.now, v.clock.daySeconds⟩⟩] }
  if 4 ≤ (v.linkOf p).slots.length then refused .busy
  else if ∃ x ∈ (v.linkOf p).slots, x.tag = tag then refused .tagInUse
  else
    match readRequest p tag code body, accessOf code.toNat with
    | some c, some a =>
      if a.passes v.link.permissions p then
        v.mapLink p fun l => { l with slots := l.slots ++ [⟨tag, c, .admitted, v.nextOrder⟩] }
      else refused .denied
    | _, _ => refused .badRequest

/-- The channel once the working fields of a CONFIGURE PLATTER have taken effect, clamped: a new N empties the window and
both histories, a smaller M shortens them, and a new home station starts its reports afresh (R41, R46, R63, R68). -/
def Channel.withWorking (c : Channel) (f : PlatterFields) : Channel :=
  let within := fun (lo hi n : Nat) => max lo (min n hi)
  let trim := fun (list : List Int) =>
    if f.n ≠ none then []
    else
      match f.m with
      | none => list
      | some m => list.drop (list.length - within 2 16 m)
  let home : Option Station := f.home.bind Port.station?
  { c with
    window := if f.n = none then c.window else []
    sum := if f.n = none then c.sum else 0
    extremes := if f.n = none then c.extremes else 0
    fine := if f.n = none then c.fine else none
    history := trim c.history
    calHistory := trim c.calHistory
    lastSent := if home = none then c.lastSent else none
    reportTimer := if home = none then c.reportTimer else none
    reportPending := if home = none then c.reportPending else false
    working := {
      n := f.n.getD c.working.n
      m := (f.m.map (within 2 16)).getD c.working.m
      motionBand := (f.motionBand.map (within 1 6)).getD c.working.motionBand
      captureTimeout := (f.captureTimeout.map (within 500 10000)).getD c.working.captureTimeout
      reportInterval := (f.reportInterval.map (within 100 1000)).getD c.working.reportInterval
      home := home.getD c.working.home
      autoTareClear := f.autoTareClear.getD c.working.autoTareClear } }

/-- Every line that names this item label job has forgotten it (R106). -/
def State.labelGone (s : State) (o : OutletId) (job : Nat) : State :=
  let lines := fun ls : List Line => ls.map fun l => if l.label = some (o, job) then { l with label := none } else l
  { s with txn := { s.txn with
    held := s.txn.held.map fun x => { x with lines := lines x.lines }
    closed := s.txn.closed.map fun e => { e with lines := lines e.lines } } }

/-! ### Laws of the state -/

/-- A link keeps its capacities and ranges (R4, R5, R7, R13, R15, R16), its slots' tags are distinct and stand in the
order of their admissions (R7), and off UP it holds no frame, no request and no notice (R1, R6). -/
structure Link.Lawful (l : Link) : Prop where
  slots : l.slots.length ≤ Config.slotsPerLink
  tags : l.slots.Pairwise fun x y => x.tag ≠ y.tag
  order : l.slots.Pairwise fun x y => x.order < y.order
  buffer : l.buffer.length ≤ Config.receiveBuffer
  notices : l.notices.length ≤ Config.noticeQueue
  dropped : l.dropped ≤ Config.droppedCap
  threshold : 1 ≤ l.threshold ∧ l.threshold ≤ 7
  counts : l.good ≤ Config.linkCountCap ∧ l.checkErrors ≤ Config.linkCountCap ∧ l.overruns ≤ Config.linkCountCap ∧
    l.refusalCount ≤ Config.linkCountCap
  silent : l.state ≠ .up → l.rate = none ∧ l.rx = [] ∧ l.buffer = [] ∧ l.slots = [] ∧ l.ready = [] ∧ l.tx = none ∧
    l.notices = []

/-- Every link is lawful, every priority is 1 to 7 (R14), and no two links' requests have one place among the
admissions (R7). -/
def State.LinkLaw (s : State) : Prop :=
  (∀ p, (s.linkOf p).Lawful) ∧ (∀ k, 1 ≤ s.link.priorities.get k ∧ s.link.priorities.get k ≤ 7) ∧
  ∀ p q, p ≠ q → ∀ x ∈ (s.linkOf p).slots, ∀ y ∈ (s.linkOf q).slots, x.order ≠ y.order

/-- The sum and the extreme count are those of the window, which is no longer than N (R20, R21). -/
def Channel.WindowLaw (c : Channel) : Prop :=
  c.window.length ≤ c.working.n ∧ c.sum = c.window.sum ∧ c.extremes = (c.window.filter isExtreme).length

/-- The window law on every platter. -/
def State.WindowLaw (s : State) : Prop := ∀ w, (s.channel w).WindowLaw

/-- The amounts of some lines. -/
def amountSum (ls : List Line) : Nat := (ls.map (·.amount)).sum

/-- A transaction's subtotal is the sum of its unvoided lines' amounts and lies within its range, as every line amount
does; its item count counts them, and its lines are numbered from 1 and at most 40 (R105, R106). -/
structure Txn.Lawful (x : Txn) : Prop where
  subtotal : x.subtotal = amountSum (unvoided x.lines)
  limit : x.subtotal ≤ Config.subtotalMax
  amounts : ∀ l ∈ x.lines, l.amount ≤ Config.lineAmountMax
  items : x.itemCount = (unvoided x.lines).length
  indices : x.lines.map (·.index) = (List.range x.lines.length).map (· + 1)
  room : x.lines.length ≤ Config.linesPerTxn

/-- Every held transaction is lawful, and the table holds them in ascending order of distinct numbers (R105). -/
def State.SalesLaw (s : State) : Prop :=
  (∀ x ∈ s.txn.held, x.Lawful) ∧ s.txn.held.Pairwise fun x y => x.number < y.number

/-- The transaction table is consistent: its transactions are lawful; the next number is in its range; the parked list names the PARKED ones, each once
and at most 8; a clerk's open transaction is that clerk's OPEN transaction; no number is in use twice; and the in-flight
list holds one entry per platter, and so at most four (R103, R105, R107, R109, R123). -/
structure State.TableLaw (s : State) : Prop where
  sales : s.SalesLaw
  next : 1 ≤ s.txn.nextNumber ∧ s.txn.nextNumber ≤ 9999
  parkedOnce : s.txn.parked.Nodup
  parkedRoom : s.txn.parked.length ≤ Config.parkedPlaces
  parked : ∀ n, n ∈ s.txn.parked ↔ ∃ x ∈ s.txn.held, x.number = n ∧ x.parkedAt.isSome
  openTxns : ∀ c n, (s.clerk c).openTxn = some n ↔ ∃ x ∈ s.txn.held, x.number = n ∧ x.clerk = c ∧ x.parkedAt = none
  closedRoom : s.txn.closed.length ≤ Config.closedPlaces
  closedOnce : s.txn.closed.Pairwise fun x y => x.number ≠ y.number
  apart : ∀ x ∈ s.txn.held, ∀ e ∈ s.txn.closed, x.number ≠ e.number
  flights : s.txn.inFlight.Pairwise fun x y => x.platter ≠ y.platter
  flightRoom : s.txn.inFlight.length ≤ 4

/-- The unvoided lines of OPEN and PARKED transactions that name a PLU (R71). -/
def State.openLinesOf (s : State) (n : Nat) : List Line :=
  s.txn.held.flatMap fun x => (unvoided x.lines).filter fun l => l.plu = n

/-- The PLU table keeps its order and size; every open-line count counts the lines that name the PLU, and no PLU such a
line names is absent (R71); in every stock account remaining, held and sold make up loaded, and held is the quantity of
those lines (R77). -/
structure State.StockLaw (s : State) : Prop where
  order : s.plus.Pairwise fun x y => x.number < y.number
  room : s.plus.length ≤ Config.pluRecords
  counts : ∀ r ∈ s.plus, r.openLines = (s.openLinesOf r.number).length
  present : ∀ n, s.openLinesOf n ≠ [] → ∃ r ∈ s.plus, r.number = n
  accounts : ∀ r ∈ s.plus, ∀ a, r.stock = some a →
    a.remaining + a.held + a.sold = a.loaded ∧ a.held = ((s.openLinesOf r.number).map (·.quantity)).sum

/-- The kinds an operation slot may hold while the platter is HELD (R49). -/
def OpKind.calibrates : OpKind → Bool
  | .calZero | .calSpan | .configure => true
  | .zero | .tare | .capture => false

/-- Zero and tare keep their ranges (R34); a hold owner's platter is HELD, and a HELD platter has no tare, no interlock
and no open capture (R38, R59); while HELD the slot holds calibration work and nothing else, and only then (R49); a
write carries legal settings, the standing ones unless it configures (R64, R65, R68); a pending grant waits behind a
filled slot (R58). -/
structure Channel.Lawful (c : Channel) : Prop where
  settings : c.record.met.legal = true
  zi : ∀ z, c.zi = some z → (z.natAbs : Int) ≤ 100 * c.record.met.max2
  zp : (c.zp.natAbs : Int) ≤ 20 * c.record.met.max2
  tare : c.tare ≤ 1000 * c.record.met.max1 ∧ c.tare % (1000 * c.record.met.e1) = 0
  noTare : c.tareKind = .none → c.tare = 0
  owner : c.holdOwner.isSome → c.state = .held
  held : c.state = .held → c.tareKind = .none ∧ c.interlock = false ∧ c.openCapture = none
  slot : ∀ op, c.slot = some op → (op.kind.calibrates = true ↔ c.state = .held)
  writing : ∀ op record working, c.slot = some op → op.phase = .writing record working →
    op.kind.calibrates = true ∧ record.met.legal = true ∧ (working = none → record.met = c.record.met)
  grant : c.pendingGrant.isSome → c.slot.isSome ∧ c.state ≠ .held

/-- Every platter is lawful. -/
def State.PlatterLaw (s : State) : Prop := ∀ w, (s.channel w).Lawful

/-- Two tickets that wait have different places: different turns of reinstatement, or different issue sequences. -/
def Ticket.apart (a b : Ticket) : Prop :=
  match a.reinstated, b.reinstated with
  | some x, some y => x ≠ y
  | none, none => a.seq ≠ b.seq
  | some _, none | none, some _ => True

/-- The tickets that wait, and those that a call in progress has chosen. -/
def TicketQueue.queued (q : TicketQueue) : List Ticket :=
  q.classes.a.waiting ++ q.classes.b.waiting ++ q.classes.c.waiting ++ q.classes.d.waiting ++ q.calls.map (·.ticket)

/-- Every ticket in hand: WAITING, chosen, CALLED or MISSED. -/
def TicketQueue.inHand (q : TicketQueue) : List TicketId :=
  q.queued.map (·.id) ++ q.called.map (·.ticket.id) ++ q.missed.map (·.id)

/-- No two tickets in hand share class and number (R133); every waiting list holds its class's tickets in their order
(R138); the counters stay ahead of the tickets (R133); the missed list and the recent-calls list keep their sizes, and
no two recent calls name one ticket (R144, R146). -/
structure State.TicketLaw (s : State) : Prop where
  once : s.queue.inHand.Nodup
  own : ∀ k, ∀ x ∈ (s.classOf k).waiting, x.id.cls = k
  order : ∀ k, (s.classOf k).waiting.Pairwise fun a b => a.precedes b = true
  apart : s.queue.queued.Pairwise Ticket.apart
  ahead : ∀ x ∈ s.queue.queued,
    (x.reinstated = none → x.seq < s.queue.issueCounter) ∧ ∀ n, x.reinstated = some n → n < s.queue.reinstateTurn
  missed : s.queue.missed.length ≤ Config.missedPlaces
  recent : s.queue.recent.length ≤ Config.recentPlaces ∧ (s.queue.recent.map (·.1)).Nodup

/-- The lines of a head job that the device has still to take of those moved (R157, R158). -/
def QueuedJob.movedLines (j : QueuedJob) : List PrintLine :=
  markedLines j.job.lines.length j.taken ((j.job.lines.drop j.taken).take (j.moved - j.taken))

/-- The job queue holds at most 8 jobs with distinct ids, of kinds the outlet accepts; the line queue holds at most 4
lines, all of the head job, a line in transfer being its first; only the head job is begun; and the queued label count
counts the ITEM and TOTAL jobs (R152, R154, R155, R157, R168, R191). -/
structure Outlet.Lawful (x : Outlet) : Prop where
  room : x.jobs.length ≤ Config.jobQueue
  ids : (x.jobs.map (·.id)).Nodup
  kinds : ∀ j ∈ x.jobs, kindAccepts x.kind j.job.kind = true
  lines : x.lineQueue.length ≤ Config.lineQueue
  empty : x.jobs = [] → x.lineQueue = []
  head : ∀ j rest, x.jobs = j :: rest →
    x.lineQueue = j.movedLines ∧ j.taken ≤ j.moved ∧ j.moved ≤ j.job.lines.length ∧ (j.cancelWaiting → x.transfer)
  others : ∀ j ∈ x.jobs.drop 1, j.moved = 0 ∧ j.taken = 0 ∧ j.started = false ∧ j.cancelWaiting = false
  transfer : x.transfer → x.lineQueue ≠ []
  labels : x.labelCount = (x.jobs.filter fun j => j.job.kind.isLabel).length

/-- Every outlet is lawful. -/
def State.OutletLaw (s : State) : Prop := ∀ o, (s.outletOf o).Lawful

/-- In a set of accumulators whose flags are clear, the departments', the clerks' and the PLU entries' amounts each add up
to the grand amount, and so do the items and the weight where the records have them (R177, R181); the PLU totals table
keeps its order and size (R181). -/
structure Accumulators.Lawful (a : Accumulators) : Prop where
  departments : a.grand.saturated = false → (∀ d ∈ a.departments.toList, d.saturated = false) →
    a.grand.amount = (a.departments.toList.map (·.amount)).sum ∧ a.grand.items = (a.departments.toList.map (·.items)).sum
  clerks : a.grand.saturated = false → (∀ c ∈ a.clerks.toList, c.saturated = false) →
    a.grand.amount = (a.clerks.toList.map (·.amount)).sum ∧ a.grand.items = (a.clerks.toList.map (·.items)).sum ∧
      a.grand.transactions = (a.clerks.toList.map (·.transactions)).sum
  entries : a.grand.saturated = false → (∀ e ∈ a.plus, e.saturated = false) →
    a.grand.amount = (a.plus.map (·.amount)).sum ∧ a.grand.weight = (a.plus.map (·.weight)).sum
  order : a.plus.Pairwise fun x y => x.plu < y.plu
  room : a.plus.length ≤ Config.pluTotals

/-- The accumulators and those of the snapshot are lawful; the day record's fields keep their ranges, and an open day has
a number; the snapshot shows an open day (R171, R177, R181, R183). -/
structure State.TotalsLaw (s : State) : Prop where
  standing : s.totals.acc.Lawful
  closed : ∀ n, s.totals.snapshot = some n → n.acc.Lawful ∧ n.day.opened.isSome
  counts : s.totals.day.postings ≤ Config.countCap ∧ s.totals.day.forcedVoids ≤ Config.countCap ∧
    s.totals.day.labelsLost ≤ Config.countCap ∧ s.totals.day.refusals ≤ Config.countCap
  number : s.totals.day.number ≤ 9999 ∧ (s.dayOpen = true → 1 ≤ s.totals.day.number)

/-- While the day is CLOSED no transaction is held, no call is in progress, and no ticket is WAITING or MISSED (R173). -/
def State.DayLaw (s : State) : Prop :=
  s.dayOpen = false →
    s.txn.held = [] ∧ s.queue.calls = [] ∧ s.queue.missed = [] ∧ ∀ k, (s.classOf k).waiting = []

/-- A report on its way says that this ticket's transaction has gone. -/
def State.reportedGone (s : State) (k : TicketId) : Prop := ∃ o, (k, TicketReport.outcome o) ∈ s.transit.ticketReports

/-- Every CALLED ticket is bound to one held transaction, the one it names, or a report that this has gone is on its way;
every held transaction's ticket is CALLED; and while the day is CLOSED no ticket is CALLED and no discard order is on its
way (R127, R133, R148, R173). -/
structure State.BoundLaw (s : State) : Prop where
  bound : ∀ x ∈ s.queue.called, (∃ y ∈ s.txn.held, y.ticket = some x.ticket.id ∧ y.number = x.txn) ∨
    s.reportedGone x.ticket.id
  called : ∀ y ∈ s.txn.held, ∀ k, y.ticket = some k →
    (∃ x ∈ s.queue.called, x.ticket.id = k ∧ x.txn = y.number) ∧ ¬s.reportedGone k
  once : s.txn.held.Pairwise fun x y => x.ticket = none ∨ x.ticket ≠ y.ticket
  gone : (s.transit.ticketReports.filterMap fun m =>
      match m.2 with
      | .outcome _ => some m.1
      | .bound _ => none).Nodup ∧
    ∀ k, s.reportedGone k → ∃ x ∈ s.queue.called, x.ticket.id = k
  closed : s.dayOpen = false → s.queue.called = [] ∧ s.transit.discards = []

/-! ### Figures and codes as R95 and R97 write them -/

/-- A number in decimal, without leading zeros; its characters have their ASCII codes (PRESUMED, log entry 42). -/
def figure (n : Nat) : Text := (Nat.toDigits 10 n).map fun c => BitVec.ofNat 8 c.toNat

/-- A number in decimal, with leading zeros up to a width. -/
def figureOf (width n : Nat) : Text := List.replicate (width - (figure n).length) 0x30#8 ++ figure n

/-- An amount: units divided by 100, with two decimals after a point (R97). -/
def moneyFigure (n : Nat) : Text := figure (n / 100) ++ asText "." ++ figureOf 2 (n % 100)

/-- A date: year, month and day joined by hyphens (R97). -/
def dateFigure (d : Date) : Text := figureOf 4 d.year ++ asText "-" ++ figureOf 2 d.month ++ asText "-" ++ figureOf 2 d.day

/-- A date, a space, and the time, whose hour, minute and second are joined by colons (R97, R99). -/
def momentFigure (m : DateTime) : Text :=
  dateFigure m.date ++ asText " " ++ figureOf 2 m.time.hour ++ asText ":" ++ figureOf 2 m.time.minute ++ asText ":" ++
    figureOf 2 m.time.second

/-- A port (R97). -/
def portFigure : Port → Text
  | .office => asText "O"
  | .station .s1 => asText "S1"
  | .station .s2 => asText "S2"
  | .station .s3 => asText "S3"
  | .station .s4 => asText "S4"
  | .station .s5 => asText "S5"
  | .station .s6 => asText "S6"

/-- A ticket: its class letter and its number (R97). -/
def ticketFigure (k : TicketId) : Text :=
  asText (match k.cls with
    | .a => "A"
    | .b => "B"
    | .c => "C"
    | .d => "D") ++ figure k.number

/-- The thirteen digits of a label code: 2, the prefix digit, five of the PLU number, five of the amount, and the check
digit, which brings the sum, weighted 1 and 3 by turns, to a multiple of 10 (R95). -/
def LabelCode (prefixDigit plu amount : Nat) (code : Text) : Prop :=
  let at_ := fun place n : Nat => n / 10 ^ place % 10
  ∃ check, check < 10 ∧
    (2 + 3 * prefixDigit + at_ 4 plu + 3 * at_ 3 plu + at_ 2 plu + 3 * at_ 1 plu + at_ 0 plu + 3 * at_ 4 amount + at_ 3 amount +
      3 * at_ 2 amount + at_ 1 amount + 3 * at_ 0 amount + check) % 10 = 0 ∧
    code = [2, prefixDigit, at_ 4 plu, at_ 3 plu, at_ 2 plu, at_ 1 plu, at_ 0 plu, at_ 4 amount, at_ 3 amount, at_ 2 amount,
      at_ 1 amount, at_ 0 amount, check].map fun d => BitVec.ofNat 8 (48 + d)

/-! ### The premise of the statements about requests -/

/-- The request waits to be taken by its block, on a part whose links are lawful (R7). -/
def Waiting (s : State) (p : Port) (t : Tag) (c : Instr) : Prop := s.LinkLaw ∧ s.awaits p t c = true

end Sys2Proof.Machine
end

