-- ==== Sys2Proof/Certificates/Slice0/Obligations.lean ====
section
/-! DEFINITION. The statements for the provers. `Leaves`, `Answers`, `Refuses` and `Defers` each say that a command
answers a next state, and give that state whole, up to frames that transmitters may have started (Safety.lean). -/

open Sys2Proof Sys2Proof.Machine

/-! ### Steps, reset and the laws of the state -/

/-- One step executes the command at the front of the queue on the rest of the queue, whatever the command; an empty
queue idles. That the part steps by commands is the model's choice (log entry 1). -/
def Obligations.StepRunsFrontCommand : Prop :=
  (∀ (s : State) (c : Instr) (rest : List Instr), step (s.withPending (c :: rest)) = exec c (s.withPending rest)) ∧
  ∀ s : State, s.pending = [] → step s = .next s

/-- Every command completes in every state and leaves the queue of commands alone. A request that its slot does not
hold ready to be taken, and that is not on its way past a link reset either, changes nothing (R7; that it is then left
as it is is the model's choice, log entry 2). Of two requests to one block, of one link or of two, the one admitted
later is not there to be taken while the earlier waits (R7; that each platter's channel and each outlet is a block of
its own is the model's choice, log entry 44). -/
def Obligations.CommandsComplete : Prop :=
  (∀ (c : Instr) (s : State), ∃ t, exec c s = .next t ∧ t.pending = s.pending) ∧
  (∀ (c : Instr) (s : State) (p : Port) (tag : Tag) (code : Nat) (b : Block),
    requestInfo c = some (p, tag, code, b) → s.awaits p tag c = false → s.awaitsDropped p tag c = false →
    exec c s = .next s) ∧
  (∀ (s : State) (p : Port) (before between after : List Slot) (x y : Slot) (codeX codeY : Nat) (b : Block), s.LinkLaw →
    (s.linkOf p).slots = before ++ x :: (between ++ y :: after) → x.phase = .admitted → y.phase = .admitted →
    requestInfo x.request = some (p, x.tag, codeX, b) → requestInfo y.request = some (p, y.tag, codeY, b) →
    s.transit.cancellations = [] →
    exec y.request s = .next s) ∧
  ∀ (s : State) (p q : Port) (x y : Slot) (codeX codeY : Nat) (b : Block), s.LinkLaw →
    x ∈ (s.linkOf p).slots → y ∈ (s.linkOf q).slots → x.order < y.order → x.phase = .admitted → y.phase = .admitted →
    requestInfo x.request = some (p, x.tag, codeX, b) → requestInfo y.request = some (q, y.tag, codeY, b) →
    s.transit.cancellations = [] →
    exec y.request s = .next s

/-- What reset leaves (R10, R14, R15, R18, R19, R47, R66, R103, R107, R130, R133, R152, R170, R171, R184, R188, R190,
R193). That every sampled line is low, so that links and outlets start DOWN and OFFLINE, is the model's choice (log
entry 3), and so is the action NOTICE of a watch that is OFF (log entry 26). -/
def Obligations.ResetValues : Prop :=
  let s := State.reset
  (∀ p, (s.linkOf p).state = .down ∧ (s.linkOf p).threshold = 1 ∧ (s.linkOf p).slots = [] ∧
    (s.linkOf p).refusal = none ∧ (s.linkOf p).refusalCount = 0) ∧
  (∀ st, s.link.permissions.get st = 0b00001111 ∧ s.txn.routing.get st = ⟨some .p1, some .p2, false⟩ ∧
    s.queue.callSets.get st = 0b0001) ∧
  s.link.priorities = ⟨2, 5, 2, 4, 3, 3, 5, 4, 4, 6, 6⟩ ∧
  (∀ w, (s.channel w).state = .uncalibrated ∧ (s.channel w).window = [] ∧ (s.channel w).zi = none ∧
    (s.channel w).tareKind = .none ∧ (s.channel w).slot = none ∧ (s.channel w).holdOwner = none ∧
    (s.channel w).record = ⟨⟨6000, 2, 6000, 2⟩, none, none, none, false, 0⟩ ∧ (s.channel w).nextCapture = 1 ∧
    (s.channel w).working.n = 8 ∧ (s.channel w).working.m = 6 ∧ (s.channel w).working.captureTimeout = 3000) ∧
  s.plus = [] ∧ s.pricing = ⟨0, 1⟩ ∧
  (∀ c, s.clerk c = ⟨[], false, none, none⟩) ∧ s.txn.held = [] ∧ s.txn.closed = [] ∧ s.txn.nextNumber = 1 ∧
  (∀ k, (s.classOf k).enabled = decide (k = .a) ∧ (s.classOf k).waiting = [] ∧ (s.classOf k).next = 1) ∧
  s.queue.issueCounter = 1 ∧
  (∀ o, (s.outletOf o).state = .offline ∧ (s.outletOf o).jobs = [] ∧ (s.outletOf o).limitMs = 8000 ∧
    (s.outletOf o).mode = .each) ∧
  s.totals.day = ⟨none, 0, 0, 0, 0, 0, false⟩ ∧ s.totals.snapshot = none ∧
  (∀ i : Fin 4, s.totals.watches[i] = ⟨.off, .notice, false, 0⟩) ∧
  s.clock = ⟨⟨⟨2000, 1, 1⟩, ⟨0, 0, 0⟩⟩, true, 0, .cold⟩

/-- Every law of the state holds at reset. -/
def Obligations.ResetKeepsLaws : Prop :=
  State.reset.LinkLaw ∧ State.reset.WindowLaw ∧ State.reset.PlatterLaw ∧ State.reset.TableLaw ∧ State.reset.StockLaw ∧
  State.reset.TicketLaw ∧ State.reset.DayLaw ∧ State.reset.BoundLaw ∧ State.reset.OutletLaw ∧ State.reset.TotalsLaw

/-- Every well-formed request is read back from the body that carries it, with every operand at every value its layout
admits (R9, R195, R197, section 11.4). -/
def Obligations.RequestRoundTrip : Prop :=
  ∀ (c : Instr) (p : Port) (tag : Tag) (code : Nat) (b : Block), requestInfo c = some (p, tag, code, b) →
    c.wf = true → readRequest p tag (BitVec.ofNat 8 code) (requestBody c) = some c

/-- Every step keeps the law of the links: four slots of distinct tags, two frames, sixteen notices, counts and
ranges, and nothing held on a link that is not UP (R1, R4, R5, R7, R13 to R16). -/
def Obligations.StepsKeepLinkLaw : Prop :=
  ∀ s t : State, s.LinkLaw → step s = .next t → t.LinkLaw

/-- Every step keeps the law of the sample windows (R20, R21) and the law of the platters (R34, R38, R49, R58, R59,
R68). -/
def Obligations.StepsKeepChannelLaws : Prop :=
  ∀ s t : State, step s = .next t → (s.WindowLaw → t.WindowLaw) ∧ (s.PlatterLaw → t.PlatterLaw)

/-- Every step keeps the law of the transaction table (R103, R105 to R107, R123), with at most one entry of each
platter and four in all in the in-flight list (R109; the model's choice where it bears, log entry 51). Every step
keeps the law of the PLU table and its stock: open-line counts and held quantities are those of the lines in hand
(R71, R77, R81 to R83). -/
def Obligations.StepsKeepTransactionLaws : Prop :=
  (∀ s t : State, s.TableLaw → step s = .next t → t.TableLaw) ∧
  (∀ s t : State, s.TableLaw → s.StockLaw → step s = .next t → t.StockLaw)

/-- Every step keeps the law of the tickets: no class and number held twice, every waiting list in order; while the
day is CLOSED no transaction is held and no ticket waits; and every CALLED ticket is bound to one held transaction, up
to the reports on their way, and none is CALLED, nor a discard on its way, on a closed day (R127, R133, R138, R144,
R146, R148, R149, R173). -/
def Obligations.StepsKeepTicketLaw : Prop :=
  (∀ s t : State, s.DayLaw → step s = .next t → t.DayLaw ∧ (s.TicketLaw → t.TicketLaw)) ∧
  ∀ s t : State, s.TableLaw → s.TicketLaw → s.DayLaw → s.BoundLaw → step s = .next t → t.BoundLaw

/-- Every step keeps the law of the outlets: the line queue holds lines of the head job in order, and the queued label
count counts the labels (R152, R154, R155, R157, R158, R191). -/
def Obligations.StepsKeepOutletLaw : Prop :=
  ∀ s t : State, s.OutletLaw → step s = .next t → t.OutletLaw

/-- Every step keeps the law of the totals: with clear flags the departments, the clerks and the PLU entries add up to
the grand record, in the accumulators and in the snapshot, and the day record keeps its ranges (R171, R173, R177,
R181, R183). -/
def Obligations.StepsKeepTotalsLaw : Prop :=
  ∀ s t : State, s.TotalsLaw → step s = .next t → t.TotalsLaw

/-- Only the end of a store write changes a platter's record of the calibration store; its calibration counter then
rises by one, up to its cap, or the record stands as it was (R66, R67). -/
def Obligations.OnlyStoreWritesChangeTheRecord : Prop :=
  ∀ (s t : State) (c : Instr) (w : Platter), exec c s = .next t →
    (t.channel w).record = (s.channel w).record ∨
    (c = .storeWriteEnd w true ∧ (t.channel w).record.counter =
      if (s.channel w).record.counter < 65535 then (s.channel w).record.counter + 1 else (s.channel w).record.counter)

/-! ### Links -/

/-- A rising present line takes a DOWN link into rate learning (R1); on a link that is not DOWN it does not arise and
is left without effect (R1, log entry 2). A low interval within 3 % of four bit times of one of the four rates, on a
character C3h, takes it UP at that rate with that character as a start byte, and any other character sets the
rate-error flag (R2); a gap of more than 50 ms rejects the frame being collected and counts it (R3). That the limit of
3 % is included is the model's choice (log entry 25). A link reset takes the link DOWN, empties it, sends a
cancellation for every slot, and tells every channel: the port's hold ends (at the end of a write in flight), its
pending grant is withdrawn, and a channel whose home station it is forgets what it last sent. The counts, the refusal
record and the permission sets are kept, and no other block's state changes (R6, R48, R61). A cancellation carries,
beside its port and tag, where its request stands and which reset sent it, the model's own (log entry 9). -/
def Obligations.LinkStatesAndReset : Prop :=
  ((∀ (s : State) (p : Port), Leaves (.presentLineRises p) s
    (if (s.linkOf p).state = .down then s.mapLink p fun l => { l with state := .learn, rate := none, rx := [] } else s)) ∧
  (∀ (s : State) (p : Port) (lowNs : Nat) (b : Byte), (s.linkOf p).state = .learn →
    (∀ r : Rate, 97 * 4000000000 ≤ 100 * (lowNs * r.bps) → 100 * (lowNs * r.bps) ≤ 103 * 4000000000 → b = 0xC3 →
      Leaves (.rateLearningCharacter p lowNs b) s
        (s.mapLink p fun l => { l with state := .up, rate := some r, rx := [0xC3] })) ∧
    ((b ≠ 0xC3 ∨ ∀ r : Rate, 100 * (lowNs * r.bps) < 97 * 4000000000 ∨ 103 * 4000000000 < 100 * (lowNs * r.bps)) →
      Leaves (.rateLearningCharacter p lowNs b) s (s.mapLink p fun l => { l with rateError := true }))) ∧
  (∀ (s : State) (p : Port) (len : Byte) (rest : List Byte), (s.linkOf p).state = .up →
    (s.linkOf p).rx = 0xC3 :: len :: rest → 2 ≤ len.toNat → len.toNat ≤ 242 → rest.length < len.toNat + 2 →
    (0xC3 : Byte) ∉ len :: rest → (s.linkOf p).buffer = [] →
    Leaves (.frameGapTimeout p) s
      (s.mapLink p fun l => { l with rx := [], checkErrors := if l.checkErrors < 65535 then l.checkErrors + 1 else l.checkErrors }))) ∧
  (∀ (s : State) (p : Port), (s.linkOf p).state ≠ .down → ∃ t session, exec (.linkReset p) s = .next t ∧
    t.linkOf p = { s.linkOf p with
      state := .down, rate := none, rateError := false, rx := [], buffer := [], slots := [], ready := [], tx := none,
      notices := [], dropped := 0, threshold := 1 } ∧
    (∀ q, q ≠ p → (t.linkOf q).still = (s.linkOf q).still ∧ (t.linkOf q).replies = (s.linkOf q).replies) ∧
    (∀ x ∈ s.transit.cancellations, x.port = p → x.session < session) ∧
    t.transit = { s.transit with cancellations :=
      s.transit.cancellations ++ (s.linkOf p).slots.map fun x =>
        ⟨p, x.tag, x.request, session, decide (x.phase = .admitted ∧ requestOwner x.request ≠ .link),
          x.order⟩ } ∧
    (∀ w, let c := s.channel w
      let d := t.channel w
      d.window = c.window ∧ d.history = c.history ∧ d.calHistory = c.calHistory ∧ d.tare = c.tare ∧
      d.working = c.working ∧ d.record = c.record ∧
      d.pendingGrant = (if c.pendingGrant.map (·.port) = some p then none else c.pendingGrant) ∧
      (c.isHome p = true → d.lastSent = none ∧ d.reportTimer = none) ∧
      (c.holdOwner ≠ some p → d.holdOwner = c.holdOwner ∧ d.state = c.state ∧ d.slot = c.slot ∧ d.zi = c.zi ∧ d.zp = c.zp) ∧
      (c.holdOwner = some p → d.holdOwner = none ∧
        if c.writing then d.state = c.state ∧ d.slot = c.slot
        else d.slot = none ∧ d.state = if c.record.valid then .zeroing else .uncalibrated)) ∧
    t.plus = s.plus ∧ t.pricing = s.pricing ∧ t.txn = s.txn ∧ t.queue = s.queue ∧ t.outlets = s.outlets ∧
    t.totals = s.totals ∧ t.clock = s.clock ∧ t.sealHigh = s.sealHigh ∧ t.link.permissions = s.link.permissions ∧
    t.link.priorities = s.link.priorities)

/-- A whole request frame that arrives on an UP link between frames is counted as good: with none waiting it is
examined at once, behind a refused one it waits, and with both places of the buffer taken it is dropped and counted as
an overrun (R3 to R5). Examined, it is refused BUSY without a free slot, TAG_IN_USE with its tag taken, BAD_REQUEST
with no request in its code and body, DENIED without its permission, and otherwise takes a slot, at a place among the
admissions above every request's in a slot or dropped from one; a refusal waits for the transmitter with the frame
kept in the buffer (R7 to R9, `State.examined`). A frame whose check does not match or whose kind is not 1 is rejected
and counted as a check error, and one of impossible length is discarded uncounted (R3). -/
def Obligations.FrameAdmission : Prop :=
  ∀ (s : State) (p : Port), s.LinkLaw → (s.linkOf p).state = .up → (s.linkOf p).rx = [] → s.link.restart = .idle →
    let up := fun n : Nat => if n < 65535 then n + 1 else n
    (∀ (tag : Tag) (code : Byte) (body : List Byte), body.length ≤ 240 →
      let i := Instr.frameReceived p (frameBytes 1 tag code body)
      let counted := s.mapLink p fun l => { l with good := up l.good }
      ((s.linkOf p).buffer = [] → Leaves i s (counted.examined p tag code body)) ∧
      (∀ f, (s.linkOf p).buffer = [f] → f.refused = true →
        Leaves i s (counted.mapLink p fun l => { l with buffer := [f, ⟨tag, code, body, false⟩] })) ∧
      (∀ f g, (s.linkOf p).buffer = [f, g] → f.refused = true →
        Leaves i s (s.mapLink p fun l => { l with overruns := up l.overruns }))) ∧
    (∀ q, ∀ x ∈ (s.linkOf q).slots, x.order < s.nextOrder) ∧
    (∀ x ∈ s.transit.cancellations, x.order < s.nextOrder) ∧
    (∀ (len kindTag code high low : Byte) (body : List Byte), len.toNat = body.length + 2 → body.length ≤ 240 →
      (0xC3 : Byte) ∉ len :: kindTag :: code :: (body ++ [high, low]) →
      (crc16 (len :: kindTag :: code :: body) ≠ high ++ low ∨ kindTag.toNat / 16 ≠ 1) →
      (∀ f ∈ (s.linkOf p).buffer.head?, f.refused = true) →
      Leaves (.frameReceived p (0xC3 :: len :: kindTag :: code :: (body ++ [high, low]))) s
        (s.mapLink p fun l => { l with checkErrors := up l.checkErrors })) ∧
    ∀ (len : Byte) (rest : List Byte), len.toNat < 2 ∨ 242 < len.toNat → (0xC3 : Byte) ∉ rest →
      Leaves (.frameReceived p (0xC3 :: len :: rest)) s s

/-- The end of a transmission frees the transmitter. A reply sent whole frees its slot, or its refused frame, after
which the next frame in the buffer is examined; one that is no OK becomes the port's last refusal with its stamp, is
counted, and from a station is reported to the totals unit (R4, R7, R11 to R13, R180). That the refusal record is
written at the end of the sending is the model's reading (log entry 15), and with no frame being sent nothing happens
(log entry 2). A reply that a block produces waits on its port for the transmitter, unless no slot waits for it or its
cancellation is on its way, when it is discarded (R6, R11, log entry 10). A notice handed to a port: discarded on a
link not UP or below the threshold; a WEIGHT notice takes the place of one waiting for its platter; otherwise it joins
the tail, the oldest of sixteen leaving and being counted as dropped (R16). A reply's frame has kind 2, the tag and
code of its request, and the result code first in its body, alone in a refusal; a notice's has kind 3, tag 0, its
code, and the dropped count first; the body of PARK, SKIP and RESUME OUTLET is given whole (R195, R196; what other
replies carry without a layout in section 11.4 is in log entry 14). -/
def Obligations.NoticesAndTransmissions : Prop :=
  (∀ (s : State) (p : Port), s.LinkLaw → s.link.restart = .idle →
    ((s.linkOf p).tx = none → Leaves (.transmitComplete p) s s) ∧
    (∀ n d, (s.linkOf p).tx = some (.notice n d) →
      Leaves (.transmitComplete p) s (s.mapLink p fun l => { l with tx := none })) ∧
    (∀ r, (s.linkOf p).tx = some (.reply r) →
      let noted := fun l : Link => if r.reply.result = .ok then l else { l with
        refusal := some ⟨r.reply.code, r.reply.tag, r.reply.result, r.reply.at_, r.reply.daySeconds⟩
        refusalCount := if l.refusalCount < 65535 then l.refusalCount + 1 else l.refusalCount }
      let posted := fun u : State => match p with
        | .office => u
        | .station st =>
          if r.reply.result = .ok then u
          else { u with transit := { u.transit with totals := u.transit.totals ++ [.refusal st] } }
      (r.fromSlot = true → (∀ f ∈ (s.linkOf p).buffer.head?, f.refused = true) →
        ∀ before x after, (s.linkOf p).slots = before ++ x :: after → x.tag = r.reply.tag → x.phase = .ready →
          Leaves (.transmitComplete p) s
            (posted (s.mapLink p fun l => noted { l with tx := none, slots := before ++ after }))) ∧
      (r.fromSlot = false →
        let freed := posted (s.mapLink p fun l => noted { l with tx := none, buffer := [] })
        (∀ f, (s.linkOf p).buffer = [f] → Leaves (.transmitComplete p) s freed) ∧
        ∀ f g, (s.linkOf p).buffer = [f, g] → g.refused = false →
          Leaves (.transmitComplete p) s (freed.examined p g.tag g.code g.body)))) ∧
  (∀ (s : State) (r : Requester) (result : Result) (payload : Payload),
    ((s.linkOf r.port).slots.any (Slot.waitsFor r) = true → s.transit.cancellations.any (Cancellation.names r) = false →
      Replied (s.reply r result payload) r result payload) ∧
    ((s.linkOf r.port).slots.any (Slot.waitsFor r) = false ∨ s.transit.cancellations.any (Cancellation.names r) = true →
      s.reply r result payload = s)) ∧
  (∀ (s : State) (p : Port) (n : Notice),
    ((s.linkOf p).state ≠ .up ∨ s.link.priorities.get n.kind < (s.linkOf p).threshold → s.notify p n = s) ∧
    ((s.linkOf p).state = .up → (s.linkOf p).threshold ≤ s.link.priorities.get n.kind →
      (∀ r before old after, n = .weight r → (s.linkOf p).notices = before ++ .weight old :: after →
        old.platter = r.platter → (∀ x ∈ before, x.weightPlatter ≠ some r.platter) →
        s.notify p n = s.mapLink p fun l => { l with notices := before ++ n :: after }) ∧
      ((n.weightPlatter = none ∨ ∀ x ∈ (s.linkOf p).notices, x.weightPlatter ≠ n.weightPlatter) →
        ((s.linkOf p).notices.length < 16 → s.notify p n = s.mapLink p fun l => { l with notices := l.notices ++ [n] }) ∧
        (∀ oldest rest, (s.linkOf p).notices = oldest :: rest → rest.length = 15 →
          s.notify p n = s.mapLink p fun l => { l with
            notices := rest ++ [n]
            dropped := if l.dropped < 255 then l.dropped + 1 else l.dropped })))) ∧
  (∀ r : ReadyReply, ∃ rest, (r.reply.result ≠ .ok → rest = []) ∧
    (Transmission.reply r).bytes = frameBytes 2 r.reply.tag r.reply.code (BitVec.ofNat 8 r.reply.result.code :: rest)) ∧
  (∀ (n : Notice) (dropped : Nat), (Transmission.notice n dropped).bytes =
    frameBytes 3 0 (BitVec.ofNat 8 (noticeKindCode n.kind)) (BitVec.ofNat 8 dropped :: n.fieldBytes)) ∧
  (∀ n, (Payload.parked n).bytes = [BitVec.ofNat 8 (n / 256), BitVec.ofNat 8 n]) ∧
  (∀ k, (Payload.skipped k).bytes = [BitVec.ofNat 8 k.cls.code, BitVec.ofNat 8 k.number]) ∧
  ∀ state, (Payload.outletState state).bytes = [BitVec.ofNat 8 state.code]

/-- READ STATUS replies its view and changes nothing (R17). READ REFUSAL and READ LINK name a port: the office any, a
station its own, else DENIED; READ LINK then clears the counts and the rate-error flag it has replied (R5, R13). SET
THRESHOLD, SET NOTICE PRIORITY and SET PERMISSIONS set what they name, or refuse BAD_VALUE and set nothing (R10, R14,
R15). That READ LINK replies just the fields R5 lists is the model's reading (log entry 28). -/
def Obligations.LinkRequests : Prop :=
  (∀ (s : State) (p : Port) (t : Tag), Waiting s p t (.readStatus p t) →
    ∃ v, Answers (.readStatus p t) p t s .ok (.status v) s ∧ v.lastStart = s.clock.lastStart ∧ v.now = s.clock.now ∧
      v.clockUnset = s.clock.unset ∧ v.opened = s.totals.day.opened.map (·.date) ∧ v.dayNumber = s.totals.day.number ∧
      (∀ q, v.links.get q = (s.linkOf q).state) ∧
      (∀ w, v.platters.get w = ((s.channel w).state, (s.channel w).holdOwner)) ∧
      (∀ o, v.outlets.get o = (s.outletOf o).state) ∧
      v.permissions = (match p with | .office => 0xFF | .station st => s.link.permissions.get st) ∧
      v.threshold = (s.linkOf p).threshold ∧ v.notices = (s.linkOf p).notices.length ∧
      v.dropped = (s.linkOf p).dropped ∧ v.slots = (s.linkOf p).slots.length) ∧
  (∀ (s : State) (p : Port) (t : Tag) (q : Port), Waiting s p t (.readRefusal p t q) →
    if p = .office ∨ p = q then
      Answers (.readRefusal p t q) p t s .ok (.refusal (s.linkOf q).refusal (s.linkOf q).refusalCount) s
    else Refuses (.readRefusal p t q) p t s .denied) ∧
  (∀ (s : State) (p : Port) (t : Tag) (q : Port), Waiting s p t (.readLink p t q) →
    let l := s.linkOf q
    if p = .office ∨ p = q then
      Answers (.readLink p t q) p t s .ok
        (.link ⟨l.state, if l.state = .up then l.rate else none, l.rateError, l.good, l.checkErrors, l.overruns⟩)
        (s.mapLink q fun l => { l with good := 0, checkErrors := 0, overruns := 0, rateError := false })
    else Refuses (.readLink p t q) p t s .denied) ∧
  (∀ (s : State) (p : Port) (t : Tag) (n : Nat), Waiting s p t (.setThreshold p t n) →
    if 1 ≤ n ∧ n ≤ 7 then
      Answers (.setThreshold p t n) p t s .ok .empty (s.mapLink p fun l => { l with threshold := n })
    else Refuses (.setThreshold p t n) p t s .badValue) ∧
  (∀ (s : State) (p : Port) (t : Tag) (k : NoticeKind) (n : Nat), Waiting s p t (.setNoticePriority p t k n) →
    if 1 ≤ n ∧ n ≤ 7 then
      ∃ m : Priorities, m.get k = n ∧ (∀ j, j ≠ k → m.get j = s.link.priorities.get j) ∧
        Answers (.setNoticePriority p t k n) p t s .ok .empty { s with link := { s.link with priorities := m } }
    else Refuses (.setNoticePriority p t k n) p t s .badValue) ∧
  (∀ (s : State) (p : Port) (t : Tag) (q : Port) (set : PermSet), Waiting s p t (.setPermissions p t q set) →
    match q with
    | .office => Refuses (.setPermissions p t q set) p t s .badValue
    | .station st =>
      ∃ m : PerStation PermSet, m.get st = set ∧ (∀ x, x ≠ st → m.get x = s.link.permissions.get x) ∧
        Answers (.setPermissions p t q set) p t s .ok .empty { s with link := { s.link with permissions := m } })

/-- A cancellation reaches the block that owns its request, oldest first; with none of this port and tag on its way
nothing happens (log entry 2). A waiting operation of the request ends without effect, with a pending grant then
given, and a write loses its reply; a pending grant of the request is withdrawn; a PRICE ITEM in flight leaves the
list and its capture is cancelled; a call not yet confirmed ends with its ticket back at its place, and a skip not yet
discarded ends (log entry 17); a waiting CANCEL JOB runs on without a reply; the other blocks hold nothing of it (R6,
R52, R58, R115, R168). A request that had not been taken when its slot was dropped may be taken before its
cancellation, its effects standing and no reply made: shown for a ZERO and a PLU WITHDRAW (R6, log entry 9). -/
def Obligations.RequestCancellation : Prop :=
  (∀ (s : State) (p : Port) (t : Tag),
    ((∀ x ∈ s.transit.cancellations, ¬(x.port = p ∧ x.tag = t)) → Leaves (.requestCancellation p t) s s) ∧
    ∀ before x after, s.transit.cancellations = before ++ x :: after → x.port = p → x.tag = t →
      (∀ y ∈ before, ¬(y.port = p ∧ y.tag = t)) →
      let r : Requester := ⟨p, t, requestCode x.request⟩
      let u := { s with transit := { s.transit with cancellations := before ++ after } }
      match requestOwner x.request with
      | .link | .plu | .totals | .clock => Leaves (.requestCancellation p t) s u
      | .outlet o => Leaves (.requestCancellation p t) s (u.setOutlet o { s.outletOf o with
          jobs := (s.outletOf o).jobs.map fun j => { j with cancels := j.cancels.filter (· ≠ r) } })
      | .tickets =>
        (∀ first call last, s.queue.calls = first ++ call :: last → call.replyTo = r → (∀ y ∈ first, y.replyTo ≠ r) →
          let k := call.ticket.id.cls
          let c := s.classOf k
          ∃ ahead behind, c.waiting = ahead ++ behind ∧ (∀ y ∈ ahead, call.ticket.precedes y = false) ∧
            (∀ y ∈ behind.head?, call.ticket.precedes y = true) ∧
            Leaves (.requestCancellation p t) s { u with queue := { s.queue with
              calls := first ++ last
              classes := s.queue.classes.set k { c with waiting := ahead ++ call.ticket :: behind } } }) ∧
        ((∀ y ∈ s.queue.calls, y.replyTo ≠ r) → Leaves (.requestCancellation p t) s { u with transit := { u.transit with
          discards := s.transit.discards.filter fun m => m.replyTo ≠ some r } })
      | .txn =>
        ((∀ e ∈ s.txn.inFlight, e.requester ≠ r) → Leaves (.requestCancellation p t) s u) ∧
        ∀ first e last, s.txn.inFlight = first ++ e :: last → e.requester = r → (∀ y ∈ first, y.requester ≠ r) →
          Leaves (.requestCancellation p t) s { u with
            txn := { s.txn with inFlight := first ++ last }
            transit := { u.transit with captureCancels := s.transit.captureCancels ++ [(e.platter, e.request)] } }
      | .weighing w =>
        let c := { s.channel w with
          pendingGrant := if (s.channel w).pendingGrant = some r then none else (s.channel w).pendingGrant }
        match c.slot with
        | none => Leaves (.requestCancellation p t) s (u.setChannel w c)
        | some op =>
          if op.replyTo ≠ some r then Leaves (.requestCancellation p t) s (u.setChannel w c)
          else
            match op.phase with
            | .writing _ _ =>
              Leaves (.requestCancellation p t) s (u.setChannel w { c with slot := some { op with replyTo := none } })
            | .waiting =>
              Leaves (.requestCancellation p t) s ((u.setChannel w { c with slot := none }).givePending w)) ∧
  ∀ (s : State) (p : Port) (t : Tag) (before after : List Cancellation) (x : Cancellation),
    s.transit.cancellations = before ++ x :: after → x.port = p → x.tag = t → x.untaken = true →
    (∀ y ∈ before ++ after, y.precedes p t x.request = false) →
    (∀ y ∈ before ++ after, y.untaken = true → requestOwner y.request = requestOwner x.request → x.order ≤ y.order) →
    (∀ q, ∀ z ∈ (s.linkOf q).slots, z.phase = .admitted → requestOwner z.request = requestOwner x.request →
      x.order ≤ z.order) →
    let u := { s with transit := { s.transit with cancellations := before ++ { x with untaken := false } :: after } }
    (∀ w, let c := s.channel w
      x.request = .zero p t w → p = .station c.working.home → c.holdOwner = none → c.pendingGrant = none → c.state ≠ .held →
      c.slot = none → c.tareKind = .none →
      Leaves x.request s (u.setChannel w { c with slot := some ⟨.zero, p, t, some ⟨p, t, requestCode x.request⟩, 0, 0,
        .waiting, some c.working.captureTimeout, .notReady⟩ })) ∧
    ∀ n r, x.request = .pluWithdraw p t n → 1 ≤ n → n ≤ 9999 → findPlu n s.plus = some r →
      ∃ table, Leaves x.request s { u with plus := table } ∧ findPlu n table = some { r with active := false } ∧
        ∀ m, m ≠ n → findPlu m table = findPlu m s.plus

/-! ### Weighing channels -/

/-- Every sample restarts the silence timer and joins the window, the sum and the extreme count, the oldest of more
than N leaving; while the window stays short, nothing else happens (R20, R21). A sample that fills the window is
evaluated: the channel is weighed, its alerts go to the office and the home station, the waiting operation is tested,
and the report check is made (R26, R28). Held, and with no valid record, the platter is HELD and UNCALIBRATED, and
neither zero nor tare moves (R27, R38). Otherwise the fine weight is the nearest milligram to (S − N Z) L / (N K), a
half going away from zero, and joins the history; the average is the nearest count, a half going up (R22, R25); the
state follows the rows of R27, with the initial zero taken within 10 % of Max2, or one ZERO_RANGE alert per stay
(R30); zero tracking moves Zp by the gross weight within its band and range (R31); a consumed tare is cleared near
zero where the platter does so (R35); the interlock is released by a low or changed load (R57); and entering OVERLOAD
or UNDERLOAD sends its alert (R28; that it does so from FAULT too is the model's choice, log entry 35). -/
def Obligations.SamplesAreWeighed : Prop :=
  (∀ (s : State) (w : Platter) (v : BitVec 24), (s.channel w).WindowLaw → 0 < (s.channel w).working.n →
    (∃ t, exec (.sampleArrival w v) s = .next t ∧
      (t.channel w).silence = some 500 ∧
      (t.channel w).window = lastEntries (s.channel w).working.n ((s.channel w).window ++ [v.toInt]) ∧
      (t.channel w).sum = (t.channel w).window.sum ∧
      (t.channel w).extremes =
        ((t.channel w).window.filter fun x => x = -8388608 || x = 8388607).length ∧
      (∀ x, x ≠ w → t.channel x = s.channel x) ∧
      t.plus = s.plus ∧ t.txn = s.txn ∧ t.queue = s.queue ∧ t.outlets = s.outlets ∧ t.totals = s.totals ∧
      t.clock = s.clock ∧ t.link.permissions = s.link.permissions) ∧
    ((s.channel w).window.length + 1 < (s.channel w).working.n →
      Leaves (.sampleArrival w v) s (s.setChannel w { s.channel w with
        silence := some 500
        window := (s.channel w).window ++ [v.toInt]
        sum := (s.channel w).sum + v.toInt
        extremes := (s.channel w).extremes + if v.toInt = -8388608 ∨ v.toInt = 8388607 then 1 else 0 }))) ∧
  (∀ (s : State) (w : Platter) (v : BitVec 24), (s.channel w).WindowLaw → 0 < (s.channel w).working.n →
    (s.channel w).working.n ≤ (s.channel w).window.length + 1 →
    ∃ (d : Channel) (alerts : List AlertReason) (a : Int),
      let c := s.channel w
      let met := c.record.met
      let n : Int := c.working.n
      let told := alerts.foldl (fun u reason => (u.notify .office (.platterAlert w reason d.state)).notify
        (.station c.working.home) (.platterAlert w reason d.state)) (s.setChannel w d)
      let tareKept : Prop := d.tare = c.tare ∧ d.tareKind = c.tareKind ∧ d.consumedSinceTare = c.consumedSinceTare
      let kept : Prop := d.zi = c.zi ∧ d.zp = c.zp ∧ d.zeroAlert = c.zeroAlert ∧ d.interlock = c.interlock ∧ tareKept
      Leaves (.sampleArrival w v) s ((told.testOperation w).reportCheck w) ∧
      d.silence = some 500 ∧ d.window = lastEntries c.working.n (c.window ++ [v.toInt]) ∧ d.sum = d.window.sum ∧
      d.extremes = (d.window.filter fun x => x = -8388608 || x = 8388607).length ∧
      -n < 2 * (a * n - d.sum) ∧ 2 * (a * n - d.sum) ≤ n ∧ d.calHistory = lastEntries c.working.m (c.calHistory ++ [a]) ∧
      d.record = c.record ∧ d.working = c.working ∧ d.slot = c.slot ∧ d.holdOwner = c.holdOwner ∧
      d.pendingGrant = c.pendingGrant ∧ d.openCapture = c.openCapture ∧ d.nextCapture = c.nextCapture ∧
      d.interlockRef = c.interlockRef ∧ d.lastSent = c.lastSent ∧ d.reportTimer = c.reportTimer ∧
      d.reportPending = c.reportPending ∧
      (c.holdOwner ≠ none ∨ c.state = .held → d.state = .held ∧ alerts = [] ∧ kept) ∧
      (c.holdOwner = none → c.state ≠ .held → c.record.valid = false →
        d.state = .uncalibrated ∧ d.fine = none ∧ d.history = c.history ∧ alerts = [] ∧ kept) ∧
      ∀ (z k : Int) (l : Nat), c.holdOwner = none → c.state ≠ .held → c.record.valid = true → c.record.z = some z →
        c.record.k = some k → c.record.l = some l → 0 < k → ∃ f : Int,
          let num := (d.sum - n * z) * l
          let stable : Prop := d.history.length = c.working.m ∧
            spread d.history ≤ 500 * met.e1 * c.working.motionBand ∧ d.extremes = 0
          let inRange : Prop := (f.natAbs : Int) ≤ 100 * met.max2
          2 * ((f * (n * k) - num).natAbs : Int) ≤ n * k ∧
          (2 * ((f * (n * k) - num).natAbs : Int) = n * k → num.natAbs < (f * (n * k)).natAbs) ∧
          d.fine = some f ∧ d.history = lastEntries c.working.m (c.history ++ [f]) ∧
          (d.interlock = true ↔ c.interlock = true ∧
            ¬(d.state ∈ [PlatterState.motion, .stable, .overload, .underload] ∧ ∃ zi, d.zi = some zi ∧
              (f - (zi + d.zp) < 20000 * met.e1 ∨ 10000 * met.e1 ≤ ((f - (zi + d.zp) - c.interlockRef).natAbs : Int)))) ∧
          match c.zi with
          | none =>
            tareKept ∧
            (stable → inRange → d.state = .stable ∧ d.zi = some f ∧ d.zp = 0 ∧ d.zeroAlert = false ∧ alerts = []) ∧
            (stable → ¬inRange → d.state = .zeroing ∧ d.zi = none ∧ d.zeroAlert = true ∧
              alerts = if c.state = .zeroing ∧ c.zeroAlert = true then [] else [.zeroRange]) ∧
            (¬stable → d.state = .zeroing ∧ d.zi = none ∧ alerts = [] ∧
              d.zeroAlert = (decide (c.state = .zeroing) && c.zeroAlert))
          | some zi =>
            let g := f - (zi + c.zp)
            let near : Prop := (g.natAbs : Int) ≤ 500 * met.e1
            d.zi = some zi ∧ d.zeroAlert = c.zeroAlert ∧
            (d.extremes > 0 ∨ 1000 * (met.max2 + 9 * met.e2 : Int) < g → d.state = .overload) ∧
            (d.extremes = 0 → g < -20000 * met.e1 → d.state = .underload) ∧
            (d.extremes = 0 → -20000 * met.e1 ≤ g → g ≤ 1000 * (met.max2 + 9 * met.e2 : Int) →
              (stable → d.state = .stable) ∧ (¬stable → d.state = .motion)) ∧
            (alerts = if d.state = .overload ∧ c.state ≠ .overload then [.overload]
              else if d.state = .underload ∧ c.state ≠ .underload then [.underload] else []) ∧
            (d.zp = if d.state = .stable ∧ c.tareKind = .none ∧ near ∧ ((c.zp + g).natAbs : Int) ≤ 20 * met.max2 then
              c.zp + g else c.zp) ∧
            let clears : Prop := d.state = .stable ∧ c.working.autoTareClear = true ∧ c.tareKind ≠ .none ∧
              c.consumedSinceTare = true ∧ near
            (clears → d.tare = 0 ∧ d.tareKind = .none ∧ d.consumedSinceTare = false) ∧ (¬clears → tareKept))

/-- The silence timer's expiry empties the window and the histories and takes a weighing platter into FAULT with an
alert to the office and the home station, and keeps the zero and the tare (R23, R28). The report timer's expiry sends
the current fields where the pending flag is set and they differ from the last sent (R40, R41). A report check sends
them at once with the timer stopped, waits with it running, and sends nothing for equal fields (R40). -/
def Obligations.ChannelTimers : Prop :=
  (∀ (s : State) (w : Platter), (s.channel w).silence ≠ none →
    let c := s.channel w
    let entered : Prop := c.state ≠ .uncalibrated ∧ c.state ≠ .held ∧ c.state ≠ .fault
    let d := { c with
      window := [], sum := 0, extremes := 0, fine := none, history := [], calHistory := [], silence := none
      slot := c.slot.map fun op => if op.phase = .waiting then { op with lastUnmet := .notReady } else op }
    (entered → Leaves (.silenceTimerExpiry w) s
      ((((s.setChannel w { d with state := .fault }).notify .office (.platterAlert w .fault .fault)).notify
        (.station c.working.home) (.platterAlert w .fault .fault)).reportCheck w)) ∧
    (¬entered → Leaves (.silenceTimerExpiry w) s ((s.setChannel w d).reportCheck w))) ∧
  (∀ (s : State) (w : Platter), (s.channel w).reportTimer ≠ none →
    let c := { s.channel w with reportTimer := none, reportPending := false }
    if (s.channel w).reportPending = true ∧ c.lastSent ≠ some (c.report w) then
      if (s.linkOf (.station c.working.home)).state = .up then
        Leaves (.reportTimerExpiry w) s
          ((s.setChannel w { c with lastSent := some (c.report w), reportTimer := some c.working.reportInterval }).notify
            (.station c.working.home) (.weight (c.report w)))
      else Leaves (.reportTimerExpiry w) s (s.setChannel w { c with lastSent := none })
    else Leaves (.reportTimerExpiry w) s (s.setChannel w c)) ∧
  (∀ (s : State) (w : Platter),
    let c := s.channel w
    (c.lastSent = some (c.report w) → s.reportCheck w = s.setChannel w { c with reportPending := false }) ∧
    (c.lastSent ≠ some (c.report w) → c.reportTimer ≠ none →
      s.reportCheck w = s.setChannel w { c with reportPending := true }) ∧
    (c.lastSent ≠ some (c.report w) → c.reportTimer = none → (s.linkOf (.station c.working.home)).state = .up →
      s.reportCheck w =
        (s.setChannel w { c with lastSent := some (c.report w), reportTimer := some c.working.reportInterval }).notify
          (.station c.working.home) (.weight (c.report w))) ∧
    (c.lastSent ≠ some (c.report w) → c.reportTimer = none → (s.linkOf (.station c.working.home)).state ≠ .up →
      s.reportCheck w = s.setChannel w { c with lastSent := none }))

/-- PRESET TARE takes the value rounded to e1, a half going up, from the home station in MOTION or STABLE and within
e1 to Max1; CLEAR TARE removes the tare in every state, from the home station (R42, R44, R45). READ WEIGHT replies the
report fields of the moment, with weights only in MOTION and STABLE and with the flag of R39, and changes nothing
(R39, R43). -/
def Obligations.TaresAndWeights : Prop :=
  (∀ (s : State) (p : Port) (t : Tag) (w : Platter) (g : Nat), Waiting s p t (.presetTare p t w g) →
    0 < (s.channel w).record.met.e1 →
    let c := s.channel w
    let e := c.record.met.e1
    if p ≠ .station c.working.home then Refuses (.presetTare p t w g) p t s .denied
    else if c.state ≠ .motion ∧ c.state ≠ .stable then Refuses (.presetTare p t w g) p t s .notReady
    else ∃ m : Nat, 2 * (m * e) ≤ 2 * g + e ∧ 2 * g < 2 * (m * e) + e ∧
      if m = 0 ∨ c.record.met.max1 < m * e then Refuses (.presetTare p t w g) p t s .tareLimit
      else Answers (.presetTare p t w g) p t s .ok (.tareApplied (m * e))
        ((s.setChannel w { c with tare := 1000 * (m * e), tareKind := .preset, consumedSinceTare := false }).reportCheck w)) ∧
  (∀ (s : State) (p : Port) (t : Tag) (w : Platter), Waiting s p t (.clearTare p t w) →
    let c := s.channel w
    if p = .station c.working.home then
      Answers (.clearTare p t w) p t s .ok .empty
        ((s.setChannel w { c with tare := 0, tareKind := .none, consumedSinceTare := false }).reportCheck w)
    else Refuses (.clearTare p t w) p t s .denied) ∧
  (∀ (s : State) (p : Port) (t : Tag) (w : Platter), Waiting s p t (.readWeight p t w) →
    ∃ r : Report, Answers (.readWeight p t w) p t s .ok (.report r) s ∧
      let c := s.channel w
      r.platter = w ∧ r.state = c.state ∧ r.tareKind = c.tareKind ∧ r.interlock = c.interlock ∧
      (c.state ≠ .motion → c.state ≠ .stable → r.weights = none ∧ r.zeroCentre = false) ∧
      (c.state = .motion ∨ c.state = .stable → ∀ f zi, c.fine = some f → c.zi = some zi →
        0 < c.record.met.e1 → 0 < c.record.met.e2 →
        let g := f - (zi + c.zp)
        let rounds := fun (fine grams : Int) (e : Nat) =>
          grams % e = 0 ∧ 2 * (1000 * grams - fine).natAbs ≤ 1000 * e ∧
          (2 * (1000 * grams - fine).natAbs = 1000 * e → fine.natAbs < 1000 * grams.natAbs)
        let division := fun fine : Int => if 1000 * (c.record.met.max1 : Int) < fine then c.record.met.e2 else c.record.met.e1
        (r.zeroCentre = true ↔ (g.natAbs : Int) ≤ 250 * c.record.met.e1) ∧
        ∃ x, r.weights = some x ∧ rounds g x.gross (division g) ∧
          rounds (g - c.tare) x.net (division (g - c.tare)) ∧ x.tare = c.tare / 1000 ∧
          x.division = division (g - c.tare)))

/-! ### Platter operations and calibration -/

/-- ZERO, TARE, CAL ZERO and CAL SPAN enter the slot, WAITING, with the timeout timer at the capture timeout, and
their reply is deferred; the first failing test refuses them at once (R42, R49). -/
def Obligations.OperationsEnterTheSlot : Prop :=
  ∀ (s : State) (p : Port) (t : Tag) (w : Platter) (load : Nat),
    let c := s.channel w
    let entered := fun (i : Instr) (k : OpKind) (grams : Nat) => s.setChannel w { c with
      slot := some ⟨k, p, t, some ⟨p, t, requestCode i⟩, 0, grams, .waiting, some c.working.captureTimeout, .notReady⟩ }
    let kept : Prop := c.holdOwner ≠ none ∨ c.pendingGrant ≠ none ∨ c.state = .held
    (let i := Instr.zero p t w
     Waiting s p t i →
      if p ≠ .station c.working.home then Refuses i p t s .denied
      else if kept then Refuses i p t s .held
      else if c.slot ≠ none then Refuses i p t s .platterBusy
      else if c.tareKind ≠ .none then Refuses i p t s .tareLimit
      else Defers i p t s (entered i .zero 0)) ∧
    (let i := Instr.tare p t w
     Waiting s p t i →
      if p ≠ .station c.working.home then Refuses i p t s .denied
      else if kept then Refuses i p t s .held
      else if c.slot ≠ none then Refuses i p t s .platterBusy
      else Defers i p t s (entered i .tare 0)) ∧
    (let i := Instr.calZero p t w
     Waiting s p t i →
      if c.holdOwner ≠ some p then Refuses i p t s .held
      else if c.slot ≠ none then Refuses i p t s .platterBusy
      else if s.sealHigh = false then Refuses i p t s .sealed
      else Defers i p t s (entered i .calZero 0)) ∧
    (let i := Instr.calSpan p t w load
     Waiting s p t i →
      if c.holdOwner ≠ some p then Refuses i p t s .held
      else if c.slot ≠ none then Refuses i p t s .platterBusy
      else if s.sealHigh = false then Refuses i p t s .sealed
      else if c.record.z = none then Refuses i p t s .badSpan
      else Defers i p t s (entered i .calSpan load))

/-- The test of a waiting operation at an evaluation: the first condition that fails becomes the last unmet one (R50).
With all met, ZERO moves Zp by the gross weight within 2 % of Max2 (R53), TARE takes the gross rounded weight within
Max1 (R54), CAPTURE opens a capture and sends its record (R55), and CAL ZERO and CAL SPAN begin their store write
(R64, R65). -/
def Obligations.OperationsComplete : Prop :=
  ∀ (s : State) (w : Platter) (op : OpEntry),
    let c := s.channel w
    c.slot = some op → op.phase = .waiting →
    let unmet := fun u : Unmet => s.testOperation w = s.setChannel w { c with slot := some { op with lastUnmet := u } }
    let named : Unmet := match c.state with
      | .motion => .motion
      | .overload => .overload
      | .underload => .underload
      | _ => .notReady
    let writes := fun record : StoreRecord => s.testOperation w = s.setChannel w { c with
      slot := some { op with phase := .writing record none, timer := none } }
    let uncalibrated : Option Unmet :=
      if c.calHistory.length ≠ c.working.m then some .notReady
      else if c.extremes > 0 then some .overload
      else if spread c.calHistory > 64 then some .motion
      else none
    match op.kind with
    | .zero =>
      if c.state ≠ .stable then unmet named
      else if c.tareKind ≠ .none then unmet .notReady
      else ∀ g, c.gross = some g →
        if ((c.zp + g).natAbs : Int) ≤ 20 * c.record.met.max2 then
          s.testOperation w = (s.setChannel w { c with zp := c.zp + g }).endOperation w op .ok .empty
        else s.testOperation w = s.endOperation w op .zeroRange .empty
    | .tare =>
      if c.state ≠ .stable then unmet named
      else ∀ g, c.gross = some g →
        let grams := c.record.met.roundWeight g
        if g ≤ 1000 * c.record.met.max1 ∧ 0 < grams then
          s.testOperation w = (s.setChannel w { c with
            tare := 1000 * grams.toNat, tareKind := .weighed, consumedSinceTare := false }).endOperation w op .ok
              (.tareApplied grams.toNat)
        else s.testOperation w = s.endOperation w op .tareLimit .empty
    | .capture =>
      if c.state ≠ .stable then unmet named
      else if c.interlock then unmet .reweigh
      else ∀ g, c.gross = some g → ∃ m : CaptureRecord,
        m.number = c.nextCapture ∧ m.platter = w ∧ m.grossFine = g ∧ m.netFine = g - c.tare ∧
        m.net = c.record.met.roundWeight (g - c.tare) ∧ m.division = c.record.met.divisionFor (g - c.tare) ∧
        m.tare = c.tare / 1000 ∧ m.tareKind = c.tareKind ∧ m.met = c.record.met ∧ m.request = op.captureRequest ∧
        s.testOperation w = ({ s.setChannel w { c with
            openCapture := some (c.nextCapture, g)
            nextCapture := if c.nextCapture < 65535 then c.nextCapture + 1 else 1 } with
          transit := { s.transit with
            captures := s.transit.captures ++ [m]
            totals := s.transit.totals ++ (op.port.station?.map TotalsReport.captureCompleted).toList } }).endOperation w op
              .ok .empty
    | .calZero =>
      match uncalibrated with
      | some u => unmet u
      | none => ∀ a older, c.calHistory = older ++ [a] → writes { c.record with z := some a }
    | .calSpan =>
      match uncalibrated with
      | some u => unmet u
      | none => ∀ a older z, c.calHistory = older ++ [a] → c.record.z = some z →
        if 100000 ≤ a - z ∧ 100 * c.record.met.max2 ≤ 1000 * op.loadGrams ∧
            1000 * op.loadGrams ≤ 1000 * c.record.met.max2 then
          writes { c.record with k := some (a - z), l := some (1000 * op.loadGrams), valid := true }
        else s.testOperation w = s.endOperation w op .badSpan .empty
    | .configure => True

/-- The end of an operation empties the slot and replies where a reply is owed; a pending hold grant is then given,
with its own deferred reply OK: the platter is HELD for the requester, without tare, interlock or open capture (R38,
R52, R58, R59). The timeout of a waiting operation ends it, refused with its last unmet condition, as its deferred
reply or, for a CAPTURE, as a refusal sent to the transaction table; that refusal then ends the PRICE ITEM of its
number with its code, and one of no number in the list is ignored (R51, R115). A capture's cancellation ends the
CAPTURE that waits with its number and no other (R52). A consumption report that names the open capture sets the
interlock at that capture's gross weight, marks a standing tare as consumed, closes the capture and makes a report
check; any other changes nothing at the channel (R56). -/
def Obligations.OperationsEndAndCapturesAreConsumed : Prop :=
  ((∀ (s : State) (w : Platter) (op : OpEntry) (result : Result) (payload : Payload),
    let u := s.setChannel w { s.channel w with slot := none }
    s.endOperation w op result payload = (match op.replyTo with
      | none => u
      | some r => u.reply r result payload).givePending w) ∧
  (∀ (s : State) (w : Platter),
    let c := s.channel w
    (c.pendingGrant = none → s.givePending w = s) ∧
    ∀ r, c.pendingGrant = some r → s.givePending w = ((s.setChannel w { c with
      pendingGrant := none, state := .held, holdOwner := some r.port, tare := 0, tareKind := .none
      consumedSinceTare := false, interlock := false, openCapture := none }).reportCheck w).reply r .ok .empty)) ∧
  ((∀ (s : State) (w : Platter) (op : OpEntry),
    (s.channel w).slot = some op → op.phase = .waiting →
    let u := if op.kind = .capture then { s with transit := { s.transit with
      captureRefusals := s.transit.captureRefusals ++ [⟨w, op.captureRequest, op.lastUnmet.result⟩] } } else s
    Leaves (.operationTimeout w) s (u.endOperation w op op.lastUnmet.result .empty)) ∧
  (∀ (s : State) (w : Platter) (n : Nat) (rest : List (Platter × Nat)),
    s.transit.captureCancels = (w, n) :: rest →
    let u := { s with transit := { s.transit with captureCancels := rest } }
    let c := s.channel w
    (∀ op, c.slot = some op → op.phase = .waiting → op.kind = .capture → op.captureRequest = n →
      Leaves (.captureCancellation w) s ((u.setChannel w { c with slot := none }).givePending w)) ∧
    ((∀ op, c.slot = some op → op.phase ≠ .waiting ∨ op.kind ≠ .capture ∨ op.captureRequest ≠ n) →
      Leaves (.captureCancellation w) s u)) ∧
  (∀ (s : State) (w : Platter) (m : CaptureRefusal) (rest : List CaptureRefusal),
    s.transit.captureRefusals = m :: rest → m.platter = w →
    let u := { s with transit := { s.transit with captureRefusals := rest } }
    (∀ before e after, s.txn.inFlight = before ++ e :: after → e.platter = w → e.request = m.request →
      (∀ y ∈ before, y.platter ≠ w ∨ y.request ≠ m.request) →
      Leaves (.captureRefusalTaken w) s
        ({ u with txn := { s.txn with inFlight := before ++ after } }.reply e.requester m.result .empty)) ∧
    ((∀ y ∈ s.txn.inFlight, y.platter ≠ w ∨ y.request ≠ m.request) → Leaves (.captureRefusalTaken w) s u))) ∧
  (∀ (s : State) (w : Platter) (n : Nat) (rest : List (Platter × Nat)), s.transit.consumptions = (w, n) :: rest →
    let u := { s with transit := { s.transit with consumptions := rest } }
    let c := s.channel w
    (∀ g, c.openCapture = some (n, g) → Leaves (.captureConsumed w) s ((u.setChannel w { c with
      interlock := true, interlockRef := g, openCapture := none
      consumedSinceTare := if c.tareKind = .none then c.consumedSinceTare else true }).reportCheck w)) ∧
    ((∀ g, c.openCapture ≠ some (n, g)) → Leaves (.captureConsumed w) s u))

/-- CAL HOLD is answered at once to its owner, refused HELD while the platter is held or spoken for, granted at once
on an empty slot with the effects of a grant, and otherwise left pending (R38, R58, R59). CAL RELEASE is for the owner
and an empty slot: the platter leaves HELD for a fresh zero, or for UNCALIBRATED with its alert (R60). -/
def Obligations.CalibrationHold : Prop :=
  (∀ (s : State) (p : Port) (t : Tag) (w : Platter),
    let i := Instr.calHold p t w
    Waiting s p t i →
    let c := s.channel w
    if c.holdOwner = some p then Answers i p t s .ok .empty s
    else if c.holdOwner ≠ none ∨ c.pendingGrant ≠ none ∨ c.state = .held then Refuses i p t s .held
    else if c.slot = none then
      Answers i p t s .ok .empty ((s.setChannel w { c with
        state := .held, holdOwner := some p, tare := 0, tareKind := .none, consumedSinceTare := false
        interlock := false, openCapture := none }).reportCheck w)
    else Defers i p t s (s.setChannel w { c with pendingGrant := some ⟨p, t, requestCode i⟩ })) ∧
  (∀ (s : State) (p : Port) (t : Tag) (w : Platter),
    let i := Instr.calRelease p t w
    Waiting s p t i →
    let c := s.channel w
    let d := { c with holdOwner := none, silence := if c.silence = none then some 500 else c.silence }
    if c.holdOwner ≠ some p then Refuses i p t s .held
    else if c.slot ≠ none then Refuses i p t s .platterBusy
    else if c.record.valid then
      Answers i p t s .ok .empty
        ((s.setChannel w { d with state := .zeroing, zi := none, zp := 0, zeroAlert := false }).reportCheck w)
    else
      Answers i p t s .ok .empty ((((s.setChannel w { d with state := .uncalibrated }).notify .office
        (.platterAlert w .uncalibrated .uncalibrated)).notify (.station c.working.home)
        (.platterAlert w .uncalibrated .uncalibrated)).reportCheck w))

/-- The end of a store write: on success the record is replaced whole and its counter rises by one, up to its cap; new
settings make Zi absent and Zp 0 and bring the working fields of the same request into effect; on failure all stands.
The slot is emptied and the request answered OK or STORE_FAULT (R32, R46, R67, R68). A platter whose hold owner is
gone then leaves HELD, its record as it stands deciding between a fresh zero and UNCALIBRATED with its alert (R61).
The fall of an active SEAL ends every waiting CAL ZERO and CAL SPAN, each refused SEALED to its requester, and nothing
else; its rise changes the level alone (R62). That the platters act in the order W1 to W4 is the model's choice (log
entry 36), as is that a fall reported while SEAL is low leaves all as it is (log entry 2). -/
def Obligations.StoreWritesAndSeal : Prop :=
  (∀ (s : State) (w : Platter) (op : OpEntry) (record : StoreRecord) (f : Option PlatterFields) (ok : Bool),
    let c := s.channel w
    c.slot = some op → op.phase = .writing record f →
    let result : Result := if ok then .ok else .storeFault
    let after := { record with
      counter := if c.record.counter < 65535 then c.record.counter + 1 else c.record.counter }
    let written : Channel :=
      if ok = false then c
      else
        match f with
        | none => { c with record := after }
        | some fields => { c with record := after, zi := none, zp := 0 }.withWorking fields
    let ended := (s.setChannel w written).endOperation w op result .empty
    let d := ended.channel w
    let freed := { d with holdOwner := none, silence := if d.silence = none then some 500 else d.silence }
    Leaves (.storeWriteEnd w ok) s
      (if d.holdOwner ≠ none ∨ d.state ≠ .held then ended
      else if d.record.valid then
        (ended.setChannel w { freed with state := .zeroing, zi := none, zp := 0, zeroAlert := false }).reportCheck w
      else (((ended.setChannel w { freed with state := .uncalibrated }).notify .office
        (.platterAlert w .uncalibrated .uncalibrated)).notify (.station d.working.home)
        (.platterAlert w .uncalibrated .uncalibrated)).reportCheck w) ∧
    ∀ r, op.replyTo = some r → c.pendingGrant = none → (s.linkOf r.port).slots.any (Slot.waitsFor r) = true →
      s.transit.cancellations.any (Cancellation.names r) = false →
      ∃ t, exec (.storeWriteEnd w ok) s = .next t ∧ Replied t r result .empty ∧ (t.channel w).slot = none) ∧
  ((∀ s : State, Leaves .sealRises s { s with sealHigh := true }) ∧
  (∀ s : State, s.sealHigh = false → Leaves .sealFalls s s) ∧
  (∀ s : State, s.sealHigh = true →
    let ends := fun (u : State) (w : Platter) =>
      match (u.channel w).slot with
      | some op =>
        if op.phase = .waiting ∧ (op.kind = .calZero ∨ op.kind = .calSpan) then u.endOperation w op .sealed .empty else u
      | none => u
    Leaves .sealFalls s ([Platter.w1, .w2, .w3, .w4].foldl ends { s with sealHigh := false })) ∧
  (∀ s : State, s.sealHigh = true → (∀ w, (s.channel w).pendingGrant = none) → ∃ t, exec .sealFalls s = .next t ∧
    t.sealHigh = false ∧
    (∀ w op r, (s.channel w).slot = some op → op.phase = .waiting → (op.kind = .calZero ∨ op.kind = .calSpan) →
      op.replyTo = some r → (s.linkOf r.port).slots.any (Slot.waitsFor r) = true →
      s.transit.cancellations.any (Cancellation.names r) = false → Replied t r .sealed .empty) ∧
    (∀ w, let c := s.channel w
      t.channel w =
        if ∃ op, c.slot = some op ∧ op.phase = .waiting ∧ (op.kind = .calZero ∨ op.kind = .calSpan) then
          { c with slot := none } else c) ∧
    (∀ p, (t.linkOf p).state = (s.linkOf p).state ∧ (t.linkOf p).outbox = (s.linkOf p).outbox ∧
      (t.linkOf p).slots.map (fun x => (x.tag, x.request)) = (s.linkOf p).slots.map (fun x => (x.tag, x.request)) ∧
      ∀ r ∈ (t.linkOf p).replies, r ∈ (s.linkOf p).replies ∨ (r.fromSlot = true ∧ r.reply.result = .sealed)) ∧
    t.plus = s.plus ∧ t.txn = s.txn ∧ t.queue = s.queue ∧ t.outlets = s.outlets ∧ t.totals = s.totals ∧
    t.clock = s.clock ∧ t.transit = s.transit))

/-- CONFIGURE PLATTER: the first failing test refuses it; working fields alone take effect at once, clamped, with a
new N emptying the window and both histories, a smaller M shortening the histories, and a new home station starting
its reports afresh (`Channel.withWorking`); a metrology field begins a store write of the resulting settings, marked
not valid, whose reply waits (R46, R49, R68). READ CALIBRATION replies the record in use, the write, the seal, the
owner and the grant, and changes nothing (R69). -/
def Obligations.ConfigurePlatter : Prop :=
  (∀ (s : State) (p : Port) (t : Tag) (w : Platter) (f : PlatterFields),
    let i := Instr.configurePlatter p t w f
    Waiting s p t i →
    let c := s.channel w
    let metrology : Prop := f.max1 ≠ none ∨ f.e1 ≠ none ∨ f.max2 ≠ none ∨ f.e2 ≠ none
    let m : Metrology := ⟨f.max1.getD c.record.met.max1, f.e1.getD c.record.met.e1, f.max2.getD c.record.met.max2,
      f.e2.getD c.record.met.e2⟩
    let legal : Prop := m.e1 ∈ [1, 2, 5, 10, 20] ∧ m.e2 ∈ [1, 2, 5, 10, 20] ∧ m.max1 % m.e1 = 0 ∧ m.e1 ≤ m.max1 ∧
      m.max2 % m.e2 = 0 ∧ m.e2 ≤ m.max2 ∧ m.max1 / m.e1 ≤ 3000 ∧ m.max2 / m.e2 ≤ 3000 ∧
      ((m.max1 = m.max2 ∧ m.e2 = m.e1) ∨ (m.max1 < m.max2 ∧ m.e1 < m.e2))
    if c.holdOwner ≠ some p then Refuses i p t s .held
    else if metrology ∧ c.slot ≠ none then Refuses i p t s .platterBusy
    else if metrology ∧ s.sealHigh = false then Refuses i p t s .sealed
    else if ¬legal then Refuses i p t s .badValue
    else if (f.n ≠ none ∧ f.n ∉ [some 4, some 8, some 16, some 32]) ∨ f.home = some .office then
      Refuses i p t s .badValue
    else if metrology then
      Defers i p t s (s.setChannel w { c with slot := some ⟨.configure, p, t, some ⟨p, t, requestCode i⟩, 0, 0,
        .writing { c.record with met := m, valid := false } (some f), none, .notReady⟩ })
    else Answers i p t s .ok .empty (s.setChannel w (c.withWorking f))) ∧
  (∀ (s : State) (p : Port) (t : Tag) (w : Platter), Waiting s p t (.readCalibration p t w) →
    let c := s.channel w
    ∃ b, (b = true ↔ ∃ op record f, c.slot = some op ∧ op.phase = .writing record f) ∧
      Answers (.readCalibration p t w) p t s .ok
        (.calibration ⟨c.record, b, s.sealHigh, c.holdOwner, c.pendingGrant.map (·.port)⟩) s)

/-! ### PLU table and stock -/

/-- PLU READ, open to every port, replies the whole record of a number, or of the lowest number above the one named; a
number out of range is refused BAD_VALUE and one without a record NO_SUCH (R72). -/
def Obligations.PluReads : Prop :=
  (∀ (p : Port) (t : Tag) (n : Nat), accessOf (requestCode (.pluRead p t n)).toNat = some .any ∧
    accessOf (requestCode (.pluReadNext p t n)).toNat = some .any) ∧
  (∀ (s : State) (p : Port) (t : Tag) (n : Nat), Waiting s p t (.pluRead p t n) →
    s.plus.Pairwise (fun x y => x.number < y.number) →
    (n < 1 ∨ 9999 < n → Refuses (.pluRead p t n) p t s .badValue) ∧
    (1 ≤ n → n ≤ 9999 → (∀ r ∈ s.plus, r.number ≠ n) → Refuses (.pluRead p t n) p t s .noSuch) ∧
    (1 ≤ n → n ≤ 9999 → ∀ r ∈ s.plus, r.number = n → Answers (.pluRead p t n) p t s .ok (.pluRecord r) s)) ∧
  (∀ (s : State) (p : Port) (t : Tag) (n : Nat), Waiting s p t (.pluReadNext p t n) →
    s.plus.Pairwise (fun x y => x.number < y.number) →
    (9999 < n → Refuses (.pluReadNext p t n) p t s .badValue) ∧
    (n ≤ 9999 → (∀ r ∈ s.plus, r.number ≤ n) → Refuses (.pluReadNext p t n) p t s .noSuch) ∧
    (n ≤ 9999 → ∀ r ∈ s.plus, n < r.number → (∀ y ∈ s.plus, n < y.number → r.number ≤ y.number) →
      Answers (.pluReadNext p t n) p t s .ok (.pluRecord r) s))

/-- PLU WRITE with every field in its range creates an ACTIVE record without open lines or stock, in a table with
room, or replaces the descriptive fields of the record there and nothing else of it; a change of kind is refused
IN_USE while lines are open or stock is kept (R70, R73, R74). That a promotion's first and last dates are real
calendar dates, as well as in R70's range, is the model's choice (log entry 41). -/
def Obligations.PluWrite : Prop :=
  ∀ (s : State) (p : Port) (t : Tag) (n : Nat) (f : PluFields),
    let i := Instr.pluWrite p t n f
    Waiting s p t i →
    let text := fun x : Text => 1 ≤ x.length ∧ x.length ≤ 24
    let ranges : Prop := 1 ≤ n ∧ n ≤ 9999 ∧ text f.name ∧ (∀ x, f.second = some x → text x) ∧ f.unitPrice ≤ 999999 ∧
      (∀ pr, f.promotion = some pr →
        pr.price ≤ 999999 ∧ pr.first.real ∧ pr.last.real ∧ pr.first.key ≤ pr.last.key) ∧
      1 ≤ f.department ∧ f.department ≤ 16 ∧
      (∀ g, f.presetTare = some g → 1 ≤ g ∧ g ≤ 60000 ∧ f.kind = .byWeight) ∧ (∀ d, f.shelfLife = some d → d ≤ 365)
    let leaves := fun (r : PluRecord) (replaced : Bool) =>
      ∃ table, Answers i p t s .ok (.pluWritten replaced) { s with plus := table } ∧
        findPlu n table = some r ∧ ∀ m, m ≠ n → findPlu m table = findPlu m s.plus
    (¬ranges → Refuses i p t s .badValue) ∧
    (ranges →
      match findPlu n s.plus with
      | none => if s.plus.length < 1000 then leaves ⟨n, f, true, 0, none⟩ false else Refuses i p t s .tableFull
      | some r =>
        if f.kind ≠ r.fields.kind ∧ (r.openLines ≠ 0 ∨ r.stock ≠ none) then Refuses i p t s .inUse
        else leaves { r with fields := f } true)

/-- PLU DELETE takes the record with its stock out of the table, unless lines name it (R75). PLU WITHDRAW and PLU
RESTORE set the record's status and change no other field (R76). -/
def Obligations.PluStatus : Prop :=
  ∀ (s : State) (p : Port) (t : Tag) (n : Nat),
    let named := fun (i : Instr) (act : PluRecord → Prop) =>
      if n < 1 ∨ 9999 < n then Refuses i p t s .badValue
      else
        match findPlu n s.plus with
        | none => Refuses i p t s .noSuch
        | some r => act r
    let becomes := fun (i : Instr) (x : Option PluRecord) =>
      ∃ table, Answers i p t s .ok .empty { s with plus := table } ∧ findPlu n table = x ∧
        ∀ m, m ≠ n → findPlu m table = findPlu m s.plus
    (let i := Instr.pluDelete p t n
     Waiting s p t i → named i fun r => if r.openLines = 0 then becomes i none else Refuses i p t s .inUse) ∧
    (let i := Instr.pluWithdraw p t n
     Waiting s p t i → named i fun r => becomes i (some { r with active := false })) ∧
    (let i := Instr.pluRestore p t n
     Waiting s p t i → named i fun r => becomes i (some { r with active := true }))

/-- STOCK LOAD with a value sets the account: remaining is the quantity, sold is 0, held is kept, loaded is their sum,
the watch level as asked; at or below the level STOCK_LOW goes to the office and the low-notified flag is set (R78,
R84). STOCK LOAD NONE removes an account that holds nothing (R79). -/
def Obligations.StockLoads : Prop :=
  (∀ (s : State) (p : Port) (t : Tag) (n q : Nat) (level : WatchLevel),
    let i := Instr.stockLoad p t n q level
    Waiting s p t i →
    let given := match level with
      | .given x => some x
      | .absent | .keep => none
    if n < 1 ∨ 9999 < n ∨ 99999999 < q ∨ given.any (fun x => 99999999 < x) then Refuses i p t s .badValue
    else
      match findPlu n s.plus with
      | none => Refuses i p t s .noSuch
      | some r =>
        if r.stock = none ∧ r.openLines ≠ 0 then Refuses i p t s .inUse
        else
          let held := (r.stock.map (·.held)).getD 0
          let watch := match level with
            | .absent => none
            | .given x => some x
            | .keep => r.stock.bind (·.watch)
          let low := watch.any fun x => q ≤ x
          let a : Stock := ⟨q + held, q, held, 0, watch, low⟩
          ∃ table, findPlu n table = some { r with stock := some a } ∧
            (∀ m, m ≠ n → findPlu m table = findPlu m s.plus) ∧
            let u := { s with plus := table }
            Answers i p t s .ok (.stock a)
              (if low then u.notify .office (.stockLow r.number q held (watch.getD 0)) else u)) ∧
  (∀ (s : State) (p : Port) (t : Tag) (n : Nat),
    let i := Instr.stockLoadNone p t n
    Waiting s p t i →
    if n < 1 ∨ 9999 < n then Refuses i p t s .badValue
    else
      match findPlu n s.plus with
      | none => Refuses i p t s .noSuch
      | some r =>
        match r.stock with
        | none => Answers i p t s .ok .empty s
        | some a =>
          if a.held ≠ 0 then Refuses i p t s .inUse
          else ∃ table, Answers i p t s .ok .empty { s with plus := table } ∧
            findPlu n table = some { r with stock := none } ∧ ∀ m, m ≠ n → findPlu m table = findPlu m s.plus)

/-! ### Pricing -/

/-- A price request by weight settles the tare, tests the net weight, chooses the price and rounds the amount, in that
order: a PLU tare applies to a capture without one, rounded to e1 and within e1 to Max1; a net below zero, below 20 e1
or above Max2 is refused; a promotion counts between its dates; the amount is rounded to a whole unit, then to the
step, a half going up each time, and above 99,999 is refused (R88 to R92, R94). A date advances day by day over the
ends of months, of February in leap years and of years, and stays at 2099-12-31 (R94). -/
def Obligations.PricingByWeight : Prop :=
  (∀ (d : Date) (n : Nat),
    let e := Date.advance n d
    let f := Date.advance (n + 1) d
    let days : Nat :=
      if e.month = 2 then (if e.year % 4 = 0 then 29 else 28) else if e.month ∈ [4, 6, 9, 11] then 30 else 31
    Date.advance 0 d = d ∧ (d.real = true → e.real = true) ∧ (e = ⟨2099, 12, 31⟩ → f = e) ∧
    (e ≠ ⟨2099, 12, 31⟩ → (e.day < days → f = ⟨e.year, e.month, e.day + 1⟩) ∧
      (e.day = days → f = if e.month < 12 then ⟨e.year, e.month + 1, 1⟩ else ⟨e.year + 1, 1, 1⟩))) ∧
  ∀ (set : PricingSettings) (business : Option Date) (today : Date) (f : PluFields) (m : CaptureRecord),
    f.kind = .byWeight →
    let price := priceByWeight set business today f m
    let weighed := fun (tare : Option (Nat × TareSource)) (fine net : Int) (division : Nat) =>
      (net < 0 → price = .error .negative) ∧
      (0 ≤ net → net < 20 * m.met.e1 → price = .error .belowMin) ∧
      (0 ≤ net → 20 * m.met.e1 ≤ net → 1000 * m.met.max2 < fine → price = .error .overload) ∧
      (0 ≤ net → 20 * m.met.e1 ≤ net → fine ≤ 1000 * m.met.max2 →
        let inForce : Prop := ∃ pr d, f.promotion = some pr ∧ business = some d ∧ pr.first.key ≤ d.key ∧ d.key ≤ pr.last.key
        ∃ unit raw steps : Nat,
          (inForce → ∀ pr, f.promotion = some pr → unit = pr.price) ∧ (¬inForce → unit = f.unitPrice) ∧
          2 * (net.toNat * unit) < 2000 * raw + 1000 ∧ 2000 * raw ≤ 2 * (net.toNat * unit) + 1000 ∧
          (0 < set.step → 2 * raw < 2 * (steps * set.step) + set.step ∧ 2 * (steps * set.step) ≤ 2 * raw + set.step) ∧
          (99999 < steps * set.step → price = .error .priceLimit) ∧
          (steps * set.step ≤ 99999 → ∃ flag, (flag = true ↔ inForce) ∧
            price = .ok ⟨.byWeight, net.toNat, some division, tare, unit, flag, steps * set.step, today,
              f.shelfLife.map fun days => Date.advance days today⟩))
    match m.tareKind, f.presetTare with
    | .none, some g => 0 < m.met.e1 → ∃ k : Nat,
      2 * g < 2 * (k * m.met.e1) + m.met.e1 ∧ 2 * (k * m.met.e1) ≤ 2 * g + m.met.e1 ∧
      (k = 0 ∨ m.met.max1 < k * m.met.e1 → price = .error .tareLimit) ∧
      (k ≠ 0 → k * m.met.e1 ≤ m.met.max1 →
        let fine := m.grossFine - 1000 * (k * m.met.e1 : Nat)
        weighed (some (k * m.met.e1, .plu)) fine (m.met.roundWeight fine) (m.met.divisionFor fine))
    | .none, none => weighed none m.netFine m.net m.division
    | _, _ => weighed (some (m.tare, .platter)) m.netFine m.net m.division

/-! ### Clerks and transactions -/

/-- CLERK WRITE sets a clerk's name and flag; a clerk with a transaction in hand is not disabled (R103, R104).
CONFIGURE STATION sets every present field in one event, or refuses with no field changed (R87, R113). READ CLERK
replies the record and the clerk's PARKED transactions in the list's order, and changes nothing (R128). Which requests
set the clerk's last station, READ CLERK not among them, is the model's reading (log entry 27). -/
def Obligations.ClerksAndStations : Prop :=
  (∀ (s : State) (p : Port) (t : Tag) (n : Nat) (name : Text) (on : Bool),
    let i := Instr.clerkWrite p t n name on
    Waiting s p t i →
    (n < 1 ∨ 16 < n ∨ 12 < name.length → Refuses i p t s .badValue) ∧
    (name.length ≤ 12 → ∀ c : ClerkNo, n = c.val + 1 →
      if on = false ∧ ((s.clerk c).openTxn ≠ none ∨ ∃ x ∈ s.txn.held, x.clerk = c ∧ x.parkedAt ≠ none) then
        Refuses i p t s .inUse
      else Answers i p t s .ok .empty (s.setClerk c ⟨name, on, (s.clerk c).openTxn, some p⟩))) ∧
  (∀ (s : State) (p : Port) (t : Tag) (q : Port) (f : StationFields),
    let i := Instr.configureStation p t q f
    Waiting s p t i →
    match q with
    | .office => Refuses i p t s .badValue
    | .station st =>
      if p ≠ .office ∧ p ≠ q then Refuses i p t s .denied
      else if (f.prefixDigit ≠ none ∨ f.step ≠ none) ∧ p ≠ .office then Refuses i p t s .denied
      else if f.prefixDigit.any (fun d => 9 < d) ∨ f.step.any (fun n => n ∉ [1, 5, 10]) then
        Refuses i p t s .badValue
      else if f.callSet.any (fun set => 16 ≤ set.toNat) then Refuses i p t s .badValue
      else
        let x := s.txn.routing.get st
        let r : OutletRouting :=
          ⟨f.primary.getD x.primary, f.fallback.getD x.fallback, f.labelEach.getD x.labelEach⟩
        let set := f.callSet.getD (s.queue.callSets.get st)
        Answers i p t s .ok .empty { s with
          txn := { s.txn with routing := s.txn.routing.set st r }
          queue := { s.queue with callSets := s.queue.callSets.set st set }
          pricing := ⟨f.prefixDigit.getD s.pricing.prefixDigit, f.step.getD s.pricing.step⟩ }) ∧
  (∀ (s : State) (p : Port) (t : Tag) (n : Nat), Waiting s p t (.readClerk p t n) →
    (n < 1 ∨ 16 < n → Refuses (.readClerk p t n) p t s .badValue) ∧
    ∀ c : ClerkNo, n = c.val + 1 → ∃ parked : List Nat,
      parked = (s.txn.parked.filterMap fun k => (s.findTxn k).bind fun x => if x.clerk = c then some x.number else none) ∧
      Answers (.readClerk p t n) p t s .ok (.clerk n (s.clerk c) parked) s)

/-- PRICE ITEM at arrival: its five tests in order, then the channel's; the request takes the next capture request
number, enters the in-flight list with its remembered target and day, and a CAPTURE of that number enters the slot;
its reply waits (R49, R80, R109; that a PLU number out of its range is answered NO_SUCH is the model's choice, log
entry 52). While the list still holds an entry of the platter, whose capture or refusal is on its way, the request
waits to be taken, so that the list holds one entry per platter (R109; that it waits is the model's choice, log entry
51). -/
def Obligations.PriceItemArrives : Prop :=
  ∀ (s : State) (p : Port) (t : Tag) (w : Platter) (n clerk : Nat) (label : LabelChoice),
    let i := Instr.priceItem p t w n clerk label
    Waiting s p t i →
    let ch := s.channel w
    if s.totals.day.opened = none then Refuses i p t s .dayClosed
    else if clerk < 1 ∨ 16 < clerk then Refuses i p t s .badValue
    else ∀ c : ClerkNo, clerk = c.val + 1 →
      if (s.clerk c).enabled = false then Refuses i p t s .noSuch
      else
        match findPlu n s.plus with
        | none => Refuses i p t s .noSuch
        | some r =>
          if r.active = false then Refuses i p t s .withdrawn
          else if r.fields.kind ≠ .byWeight then Refuses i p t s .badValue
          else if p ≠ .station ch.working.home then Refuses i p t s .denied
          else
            let k := s.txn.nextRequest
            let next := if k < 4294967295 then k + 1 else 1
            let u := { s with txn := { s.txn with nextRequest := next } }
            if ch.holdOwner ≠ none ∨ ch.pendingGrant ≠ none ∨ ch.state = .held then Answers i p t s .held .empty u
            else if ch.slot ≠ none then Answers i p t s .platterBusy .empty u
            else if ∃ e ∈ s.txn.inFlight, e.platter = w then exec i s = .next s
            else
              let e : InFlight :=
                ⟨⟨p, t, requestCode i⟩, k, w, n, c, label, (s.clerk c).openTxn, s.totals.day.number⟩
              let v := { s with txn := { s.txn with nextRequest := next, inFlight := s.txn.inFlight ++ [e] } }
              Defers i p t s (v.setChannel w { ch with
                slot := some ⟨.capture, p, t, none, k, 0, .waiting, some ch.working.captureTimeout, .notReady⟩ })

/-- A capture record that reaches the transaction table ends its PRICE ITEM: the eight tests in order, a failing one
being the deferred reply and nothing else changed; with all passed the line is taken, the capture's consumption is
reported, STOCK_LOW, the approval, the ticket queue and the label follow (`ItemTaken`; a label's lines:
`ReprintsReadingsAndJobs`), and the reply names the line (R80, R81, R84, R110 to R112, R119); an item that opens a
transaction takes the first number from the next one on that is in no use (R107, R108). A record of no PRICE ITEM in
flight is dropped. -/
def Obligations.CapturesArePriced : Prop :=
  ∀ (s : State) (w : Platter) (m : CaptureRecord) (rest : List CaptureRecord), s.TableLaw →
    s.transit.captures = m :: rest → m.platter = w →
    let v := { s with transit := { s.transit with captures := rest } }
    ((∀ e ∈ s.txn.inFlight, e.platter ≠ w ∨ e.request ≠ m.request) → Leaves (.captureTaken w) s v) ∧
    ∀ before e after, s.txn.inFlight = before ++ e :: after → e.platter = w → e.request = m.request →
      (∀ y ∈ before, y.platter ≠ w ∨ y.request ≠ m.request) →
      let u := { v with txn := { s.txn with inFlight := before ++ after } }
      let refused := fun code : Result => Leaves (.captureTaken w) s (u.reply e.requester code .empty)
      let lines := match s.openOf e.clerk with
        | some x => (x.lines.length, x.subtotal)
        | none => (0, 0)
      if s.totals.day.opened = none ∨ s.totals.day.number ≠ e.day then refused .dayClosed
      else if (s.clerk e.clerk).enabled = false then refused .noSuch
      else
        match findPlu e.plu s.plus with
        | none => refused .noSuch
        | some r =>
          if r.active = false then refused .withdrawn
          else if r.fields.kind ≠ .byWeight then refused .badValue
          else
            match priceByWeight s.pricing (s.totals.day.opened.map (·.date)) s.clock.now.date r.fields m with
            | .error code => refused code
            | .ok item =>
              if (s.clerk e.clerk).openTxn ≠ e.target then refused .txnGone
              else if 40 ≤ lines.1 then refused .txnFull
              else if 9999999 < lines.2 + item.amount then refused .priceLimit
              else if r.stock.any (fun a => a.remaining < item.quantity) then refused .stock
              else ∃ t x l status, exec (.captureTaken w) s = .next t ∧
                ItemTaken u t e.requester.port e.clerk e.plu r.fields item (some (w, m.number)) e.label x l status ∧
                t.transit.consumptions = s.transit.consumptions ++ [(w, m.number)] ∧ t.txn.inFlight = before ++ after ∧
                ((s.linkOf e.requester.port).slots.any (Slot.waitsFor e.requester) = true →
                  s.transit.cancellations.any (Cancellation.names e.requester) = false →
                  Replied t e.requester .ok (.lineAdded x.number l.index item.amount x.subtotal x.approval status))

/-- ADD COUNT ITEM: its eight tests in order, each refusal changing nothing; with all passed the line is taken,
STOCK_LOW, the approval, the ticket queue and the label follow (`ItemTaken`), and the reply names it (R80, R81, R84,
R93, R111, R112, R114, R119); an item that opens a transaction takes the first number from the next one on that is in
no use (R107, R108); that a PLU number out of its range is answered NO_SUCH is the model's choice (log entry 52). -/
def Obligations.CountItemsAreAdded : Prop :=
  ∀ (s : State) (p : Port) (tag : Tag) (n q clerk : Nat) (label : LabelChoice),
    let i := Instr.addCountItem p tag n q clerk label
    Waiting s p tag i → s.TableLaw →
    if s.totals.day.opened = none then Refuses i p tag s .dayClosed
    else if clerk < 1 ∨ 16 < clerk then Refuses i p tag s .badValue
    else ∀ c : ClerkNo, clerk = c.val + 1 →
      let lines := match s.openOf c with
        | some x => (x.lines.length, x.subtotal)
        | none => (0, 0)
      if (s.clerk c).enabled = false then Refuses i p tag s .noSuch
      else
        match findPlu n s.plus with
        | none => Refuses i p tag s .noSuch
        | some r =>
          if r.active = false then Refuses i p tag s .withdrawn
          else if r.fields.kind ≠ .byCount then Refuses i p tag s .badValue
          else if q < 1 ∨ 99 < q then Refuses i p tag s .badValue
          else
            let price := unitPriceFor r.fields (s.totals.day.opened.map (·.date))
            let amount := stepRound s.pricing.step (q * price.1)
            if 99999 < amount then Refuses i p tag s .priceLimit
            else if 40 ≤ lines.1 then Refuses i p tag s .txnFull
            else if 9999999 < lines.2 + amount then Refuses i p tag s .priceLimit
            else if r.stock.any (fun a => a.remaining < q) then Refuses i p tag s .stock
            else ∃ t x l status, exec i s = .next t ∧
              ItemTaken s t p c n r.fields ⟨.byCount, q, none, none, price.1, price.2, amount, s.clock.now.date,
                r.fields.shelfLife.map fun days => Date.advance days s.clock.now.date⟩ none label x l status ∧
              t.transit.consumptions = s.transit.consumptions ∧ t.txn.inFlight = s.txn.inFlight ∧
              Replied t ⟨p, tag, requestCode i⟩ .ok
                (.lineAdded x.number l.index amount x.subtotal x.approval status)

/-- VOID LINE sets the line's voided flag and takes its amount and itself off the transaction; its stock returns, one
line void is posted (in fields: `VoidTransaction`), and its label's job is cancelled (in fields: `CancelJob`; R82,
R116, R178). The last station of the transaction and of the clerk becomes the requesting port (R103, R105; which
requests do so is the model's reading, log entry 27). That a line index out of its range is answered NO_SUCH is the
model's choice (log entry 53). -/
def Obligations.VoidLine : Prop :=
  ∀ (s : State) (p : Port) (t : Tag) (clerk index : Nat),
    let i := Instr.voidLine p t clerk index
    Waiting s p t i → s.TableLaw →
    (clerk < 1 ∨ 16 < clerk → Refuses i p t s .badValue) ∧
    ∀ c : ClerkNo, clerk = c.val + 1 →
      match s.openOf c with
      | none => Refuses i p t s .noSuch
      | some x =>
        ((∀ l ∈ x.lines, l.index = index → l.voided = true) → Refuses i p t s .noSuch) ∧
        ∀ before l after, x.lines = before ++ l :: after → l.index = index → l.voided = false →
          ∃ table, RecordChanged s.plus table l.plu (fun r => { r with
              openLines := r.openLines - 1
              stock := r.stock.map fun a => { a with
                remaining := a.remaining + l.quantity
                held := a.held - l.quantity
                lowNotified := a.lowNotified && a.watch.all fun level => a.remaining + l.quantity ≤ level } }) ∧
            let y := { x with
              lines := before ++ { l with voided := true } :: after
              subtotal := x.subtotal - l.amount
              itemCount := x.itemCount - 1
              lastStation := p }
            let u := { (s.setTxn y).noteStation c p with plus := table, totals := s.totals.postLineVoid c }
            Answers i p t s .ok (.lineVoided (x.subtotal - l.amount) (x.itemCount - 1))
              (match l.label with
                | none => u
                | some (o, id) => u.cancelOrder o id)

/-- PARK sets the clerk's OPEN transaction aside at the tail of the parked list, with the time; RESUME brings a PARKED
transaction of the clerk back, by number or the oldest, to a clerk with none OPEN. Each tells the ticket queue of a
bound one (R117, R118, R127). The last station of the transaction and of the clerk becomes the requesting port (R103,
R105; which requests do so is the model's reading, log entry 27). That PARK answers NO_SUCH before TABLE_FULL, and
RESUME a number out of its range NO_SUCH, are the model's choices (log entries 37 and 53). -/
def Obligations.ParkAndResume : Prop :=
  (∀ (s : State) (p : Port) (t : Tag) (clerk : Nat),
    let i := Instr.park p t clerk
    Waiting s p t i →
    (clerk < 1 ∨ 16 < clerk → Refuses i p t s .badValue) ∧
    ∀ c : ClerkNo, clerk = c.val + 1 →
      match s.openOf c with
      | none => Refuses i p t s .noSuch
      | some x =>
        if 8 ≤ s.txn.parked.length then Refuses i p t s .tableFull
        else x.clerk = c → ∃ held, Answers i p t s .ok (.parked x.number)
          { s.setClerk c { s.clerk c with openTxn := none, lastStation := some p } with
            txn := { (s.setClerk c { s.clerk c with openTxn := none, lastStation := some p }).txn with
              held := held, parked := s.txn.parked ++ [x.number] }
            transit := { s.transit with ticketReports := s.transit.ticketReports ++
              (x.ticket.map fun k => (k, TicketReport.bound .parked)).toList } } ∧
          held.find? (fun y => y.number = x.number) = some { x with parkedAt := some s.clock.now, lastStation := p } ∧
          ∀ n, n ≠ x.number → held.find? (fun y => y.number = n) = s.findTxn n) ∧
  (∀ (s : State) (p : Port) (t : Tag) (clerk : Nat) (target : ResumeTarget),
    let i := Instr.resume p t clerk target
    Waiting s p t i →
    (clerk < 1 ∨ 16 < clerk → Refuses i p t s .badValue) ∧
    ∀ c : ClerkNo, clerk = c.val + 1 →
      let found : Option Txn := match target with
        | .number n => (s.findTxn n).bind fun x => if x.parkedAt ≠ none ∧ x.clerk = c then some x else none
        | .oldest => (s.txn.parked.filterMap s.findTxn).find? fun x => x.clerk = c
      match found, s.openOf c with
      | none, _ => Refuses i p t s .noSuch
      | some x, some y =>
        Refuses i p t s (if y.ticket ≠ none ∧ x.ticket ≠ none then .inService else .openTxn)
      | some x, none => ∃ held, Answers i p t s .ok (.resumed x.number x.subtotal x.approval)
          { s.setClerk c { s.clerk c with openTxn := some x.number, lastStation := some p } with
            txn := { (s.setClerk c { s.clerk c with openTxn := some x.number, lastStation := some p }).txn with
              held := held, parked := s.txn.parked.filter (· ≠ x.number) }
            transit := { s.transit with ticketReports := s.transit.ticketReports ++
              (x.ticket.map fun k => (k, TicketReport.bound (.resumed (decide (x.lines = []))))).toList } } ∧
          held.find? (fun y => y.number = x.number) = some { x with parkedAt := none, lastStation := p } ∧
          ∀ n, n ≠ x.number → held.find? (fun y => y.number = n) = s.findTxn n)

/-- APPROVE, of the group APPROVE, grants the approval a held transaction requires and changes nothing else; a number
out of range and a transaction that requires none are refused BAD_VALUE, and a number of no held transaction NO_SUCH
(R120). -/
def Obligations.ApproveGrants : Prop :=
  ∀ (s : State) (p : Port) (t : Tag) (n : Nat),
    let i := Instr.approve p t n
    accessOf (requestCode i).toNat = some (.group .approve) ∧
    (Waiting s p t i → s.SalesLaw →
    (n < 1 ∨ 9999 < n → Refuses i p t s .badValue) ∧
    (1 ≤ n → n ≤ 9999 → (∀ x ∈ s.txn.held, x.number ≠ n) → Refuses i p t s .noSuch) ∧
    (1 ≤ n → n ≤ 9999 → ∀ before x after, s.txn.held = before ++ x :: after → x.number = n →
      if x.approval = .required then
        Answers i p t s .ok .empty
          { s with txn := { s.txn with held := before ++ { x with approval := .granted } :: after } }
      else Refuses i p t s .badValue))

/-- CLOSE TRANSACTION with its tests passed posts the sale, sells the stock of every unvoided line, tells the ticket
queue of a bound one, enters the closed list and frees the clerk, all in the one event (R121 to R123, R177). Its
refusals leave the transaction as it was. Posting a line adds one item and its amount to its department, its clerk and
the grand record, its weight to the grand record, and its count, weight and amount to its PLU's entry, made where
there is none unless the table holds 1000; each field stops at its cap and sets its record's flag, and a PLU without
room sets the grand flag. Then the clerk and the grand record count one transaction, and the clerk's watches are
looked at (R175 to R177, R181, R186). The day record counts a posting, and its flag is set where the count reaches
999,999 (R171; the model's reading of R171 beside R176, log entry 20). -/
def Obligations.CloseTransaction : Prop :=
  let up := fun cap n k : Nat => min cap (n + k)
  let passes := fun cap n k : Nat => decide (cap < n + k)
  (∀ (a : Accumulators) (c : ClerkNo) (l : Line) (j : Fin 16), l.department = j.val + 1 →
    let b := a.addLine c l
    let weight := if l.kind = .byWeight then l.quantity else 0
    let count := if l.kind = .byWeight then 1 else l.quantity
    let entry := fun e : PluTotal => { e with
      count := up 999999 e.count count
      weight := up 999999999 e.weight weight
      amount := up 999999999 e.amount l.amount
      saturated := e.saturated || passes 999999 e.count count || passes 999999999 e.weight weight ||
        passes 999999999 e.amount l.amount }
    let found := fun (n : Nat) (table : List PluTotal) => table.find? fun e => e.plu = n
    let full := (found l.plu a.plus).isNone && decide (1000 ≤ a.plus.length)
    b.stations = a.stations ∧
    (∀ i : Fin 16, let d := a.departments[i]
      b.departments[i] = if i = j then ⟨up 999999 d.items 1, up 999999999 d.amount l.amount,
        d.saturated || passes 999999 d.items 1 || passes 999999999 d.amount l.amount⟩ else d) ∧
    (∀ i : Fin 16, let k := a.clerks[i]
      b.clerks[i] = if i = c then { k with
        items := up 999999 k.items 1
        amount := up 999999999 k.amount l.amount
        saturated := k.saturated || passes 999999 k.items 1 || passes 999999999 k.amount l.amount } else k) ∧
    b.grand = { a.grand with
      items := up 999999 a.grand.items 1
      weight := up 999999999 a.grand.weight weight
      amount := up 999999999 a.grand.amount l.amount
      saturated := a.grand.saturated || passes 999999 a.grand.items 1 || passes 999999999 a.grand.weight weight ||
        passes 999999999 a.grand.amount l.amount || full } ∧
    (full = true → b.plus = a.plus) ∧
    (full = false → found l.plu b.plus = some (entry ((found l.plu a.plus).getD ⟨l.plu, 0, 0, 0, false⟩))) ∧
    ∀ n, n ≠ l.plu → found n b.plus = found n a.plus) ∧
  (∀ (a : Accumulators) (c : ClerkNo), a.addLines c [] = a ∧
    (∀ l rest, a.addLines c (l :: rest) = (a.addLine c l).addLines c rest) ∧
    let k := a.clerks[c]
    a.countTransaction c = { a with
      clerks := a.clerks.set c { k with
        transactions := up 999999 k.transactions 1, saturated := k.saturated || passes 999999 k.transactions 1 }
      grand := { a.grand with
        transactions := up 999999 a.grand.transactions 1
        saturated := a.grand.saturated || passes 999999 a.grand.transactions 1 } }) ∧
  ∀ (s : State) (p : Port) (tag : Tag) (clerk : Nat) (label : Bool),
    let i := Instr.closeTransaction p tag clerk label
    Waiting s p tag i → s.TableLaw → s.StockLaw →
    (clerk < 1 ∨ 16 < clerk → Refuses i p tag s .badValue) ∧
    ∀ c : ClerkNo, clerk = c.val + 1 →
      match s.openOf c with
      | none => Refuses i p tag s .noSuch
      | some x =>
        let sold := x.lines.filter fun l => l.voided = false
        let job := totalLabel s.pricing false x.number c (s.clerk c).name x.ticket x.subtotal x.lines s.now p
        let accepts := fun o : OutletId => ((s.outletOf o).offer job).isSome
        if x.approval = .required then Refuses i p tag s .approval
        else if sold = [] then Refuses i p tag s .hasNoLines
        else if label = true ∧ (s.labelOutlets p).any accepts = false then Refuses i p tag s .noOutlet
        else ∃ t status, exec i s = .next t ∧
          Replied t ⟨p, tag, requestCode i⟩ .ok (.closed x.number x.subtotal x.itemCount status) ∧
          (label = false → status = .notAsked ∧ t.outlets = s.outlets) ∧
          (label = true → ∃ o id y, status = .queued o id ∧ (s.labelOutlets p).find? accepts = some o ∧
            (s.outletOf o).offer job = some (y, id) ∧ t.outlets = s.outlets.set o y) ∧
          t.txn.held = s.txn.held.filter (fun y => y.number ≠ x.number) ∧
          t.txn.closed = lastEntries 8 (s.txn.closed ++
            [⟨x.number, c, (s.clerk c).name, x.ticket, x.subtotal, x.itemCount, sold, s.clock.now, p⟩]) ∧
          t.clerk c = { s.clerk c with openTxn := none, lastStation := some p } ∧ (∀ k, k ≠ c → t.clerk k = s.clerk k) ∧
          t.transit = { s.transit with ticketReports := s.transit.ticketReports ++
            (x.ticket.map fun k => (k, TicketReport.outcome .sale)).toList } ∧
          t.totals.day = { s.totals.day with
            postings := if s.totals.day.postings < 999999 then s.totals.day.postings + 1 else s.totals.day.postings
            saturated := s.totals.day.saturated || decide (999999 ≤ s.totals.day.postings + 1) } ∧
          t.totals.acc = (s.totals.acc.addLines c sold).countTransaction c ∧
          t.totals.watches = ({ s with totals := { s.totals with
            acc := (s.totals.acc.addLines c sold).countTransaction c } }.clerkWatches c).totals.watches ∧
          t.totals.snapshot = s.totals.snapshot ∧
          (∀ r ∈ s.plus, ∃ r' ∈ t.plus, r'.number = r.number ∧ r'.fields = r.fields ∧ r'.active = r.active ∧
            let mine := sold.filter fun l => l.plu = r.number
            r'.openLines = r.openLines - mine.length ∧
            r'.stock = r.stock.map fun a => { a with
              held := a.held - (mine.map (·.quantity)).sum
              sold := a.sold + (mine.map (·.quantity)).sum }) ∧
          t.weigh = s.weigh ∧ t.queue = s.queue ∧ t.clock = s.clock

/-- REPRINT TOTAL offers a copy of a closed transaction's total label to the requester's primary outlet, then to its
fallback, and changes nothing else (R100, R112, R124). READ TRANSACTION shows a held transaction, or failing one the
closed entry, with up to three lines from the first index on, and changes nothing (R128). That neither sets a clerk's
last station is the model's reading (log entry 27), and that the line index is judged first its choice (log entry 37).
A copy and every other job have their kind, copy flag, origin and lines, each cut to 32 characters: an item label
(R98), a total label or a copy (R99, R100), a ticket job (R101) and a display job (R102), with figures as R97 writes
them, in the ASCII codes (log entry 42), and the label code of R95 and R96, for every argument in its range. -/
def Obligations.ReprintsReadingsAndJobs : Prop :=
  (∀ (set : PricingSettings) (plu : Nat) (f : PluFields) (item : PricedItem) (c : ClerkNo) (name : Text) (p : Port),
    set.prefixDigit ≤ 9 → plu ≤ 9999 → item.quantity < 1000000000 → item.unitPrice ≤ 999999 → item.amount ≤ 99999 →
    item.packed.real = true → (∀ d, item.sellBy = some d → d.real = true) →
    let job := itemLabel set plu f item c name p
    ∃ code, LabelCode set.prefixDigit plu item.amount code ∧
      job.kind = .item ∧ job.copy = false ∧ job.origin = some p ∧
      job.lines = ([f.name] ++ f.second.toList ++
        [if item.kind = .byWeight then asText "NET " ++ figure item.quantity ++ asText " g"
          else figure item.quantity ++ asText " x",
         (if item.promotion then asText "PROMO " else []) ++ moneyFigure item.unitPrice ++
          asText (if item.kind = .byWeight then " /kg" else " /ea"),
         asText "PRICE " ++ moneyFigure item.amount, asText "PACKED " ++ dateFigure item.packed] ++
        (item.sellBy.map fun d => asText "USE BY " ++ dateFigure d).toList ++
        [asText "CLK " ++ figureOf 2 (c.val + 1) ++ asText " " ++ name ++ asText " " ++ portFigure p, code]).map
          (List.take 32)) ∧
  (∀ (set : PricingSettings) (copy : Bool) (number : Nat) (c : ClerkNo) (name : Text) (ticket : Option TicketId)
      (subtotal : Nat) (lines : List Line) (m : DateTime) (p : Port),
    set.prefixDigit ≤ 9 → number ≤ 9999 → (∀ k, ticket = some k → k.number ≤ 99) → subtotal ≤ 9999999 →
    lines.length ≤ 40 → (∀ l ∈ lines, l.amount ≤ 99999) → m.date.real = true → m.time.real = true →
    let job := totalLabel set copy number c name ticket subtotal lines m p
    let sold := lines.filter fun l => l.voided = false
    ∃ code, LabelCode set.prefixDigit 0 subtotal code ∧
      job.kind = .total ∧ job.copy = copy ∧ job.origin = some p ∧
      job.lines = ([asText (if copy then "SALE COPY" else "SALE")] ++
        (ticket.map fun k => asText "TICKET " ++ ticketFigure k).toList ++
        [asText "CLK " ++ figureOf 2 (c.val + 1) ++ asText " " ++ name ++ asText " TXN " ++ figureOf 4 number,
         momentFigure m] ++
        (sold.map fun l => l.name.take 12 ++ List.replicate (12 - l.name.length) 0x20#8 ++ asText " " ++
          List.replicate (9 - (moneyFigure l.amount).length) 0x20#8 ++ moneyFigure l.amount) ++
        [asText "ITEMS " ++ figure sold.length, asText "TOTAL " ++ moneyFigure subtotal] ++
        (if subtotal ≤ 99999 then [code] else [])).map (List.take 32)) ∧
  (∀ (k : TicketId) (ahead : Nat) (m : DateTime),
    k.number ≤ 99 → ahead < 1000000000 → m.date.real = true → m.time.real = true →
    let job := ticketJob k ahead m
    job.kind = .ticket ∧ job.copy = false ∧ job.origin = none ∧
    job.lines = [ticketFigure k, asText "AHEAD " ++ figure ahead, momentFigure m]) ∧
  (∀ (recent : List (TicketId × Port)) (p : Port), (∀ e ∈ recent, e.1.number ≤ 99) →
    let job := displayJob recent p
    job.kind = .display ∧ job.copy = false ∧ job.origin = some p ∧
    job.lines = recent.map fun e => ticketFigure e.1 ++ asText " > " ++ portFigure e.2) ∧
  (∀ (s : State) (p : Port) (t : Tag) (n : Nat),
    let i := Instr.reprintTotal p t n
    Waiting s p t i →
    if n < 1 ∨ 9999 < n then Refuses i p t s .badValue
    else
      match s.txn.closed.find? fun e => e.number = n with
      | none => Refuses i p t s .noSuch
      | some e =>
        let job := totalLabel s.pricing true e.number e.clerk e.clerkName e.ticket e.subtotal e.lines e.closedAt p
        match (s.labelOutlets p).find? fun o => ((s.outletOf o).offer job).isSome with
        | none => Refuses i p t s .noOutlet
        | some o => ∀ x id, (s.outletOf o).offer job = some (x, id) →
            Answers i p t s .ok (.reprinted o id) (s.setOutlet o x)) ∧
  (∀ (s : State) (p : Port) (t : Tag) (name : TxnName) (first : Nat),
    let i := Instr.readTransaction p t name first
    Waiting s p t i →
    let page := fun ls : List Line => (ls.filter fun l => first ≤ l.index).take 3
    let shows := fun x : Txn => Answers i p t s .ok (.heldTxn { x with lines := page x.lines } x.lines.length) s
    if first < 1 ∨ 40 < first then Refuses i p t s .badValue
    else
      match name with
      | .byClerk k =>
        (k < 1 ∨ 16 < k → Refuses i p t s .badValue) ∧
        ∀ c : ClerkNo, k = c.val + 1 →
          match s.openOf c with
          | none => Refuses i p t s .noSuch
          | some x => shows x
      | .byNumber n =>
        if n < 1 ∨ 9999 < n then Refuses i p t s .badValue
        else
          match s.findTxn n, s.txn.closed.find? fun e => e.number = n with
          | some x, _ => shows x
          | none, some e => Answers i p t s .ok (.closedTxn { e with lines := page e.lines } e.lines.length) s
          | none, none => Refuses i p t s .noSuch)

/-- VOID TRANSACTION, by clerk or by number, returns the stock of every unvoided line, cancels their item label jobs,
posts one void with the subtotal, tells the ticket queue of a bound one and removes the transaction; other
transactions and clerks stand, but for a label reference shared with a cancelled job (R82, R103, R125, R178). A void
posted counts one, and a transaction void its subtotal, in the clerk's and the grand record, each field stopping at
its cap and setting its record's flag; a forced void counts one in the day record too (R176, R178). The day record's
flag is set where one of its counts reaches 999,999 (R171; the model's reading of R171 beside R176, log entry 20). -/
def Obligations.VoidTransaction : Prop :=
  let up := fun cap n k : Nat => min cap (n + k)
  let passes := fun cap n k : Nat => decide (cap < n + k)
  let posted := fun d : DayRecord => { d with
    postings := if d.postings < 999999 then d.postings + 1 else d.postings
    saturated := d.saturated || decide (999999 ≤ d.postings + 1) }
  (∀ (a : Accumulators) (c : ClerkNo) (n : Nat),
    let k := a.clerks[c]
    let g := a.grand
    a.lineVoid c = { a with
      clerks := a.clerks.set c { k with
        lineVoids := up 999999 k.lineVoids 1, saturated := k.saturated || passes 999999 k.lineVoids 1 }
      grand := { g with
        lineVoids := up 999999 g.lineVoids 1, saturated := g.saturated || passes 999999 g.lineVoids 1 } } ∧
    a.txnVoid c n = { a with
      clerks := a.clerks.set c { k with
        voids := up 999999 k.voids 1
        voidAmount := up 999999999 k.voidAmount n
        saturated := k.saturated || passes 999999 k.voids 1 || passes 999999999 k.voidAmount n }
      grand := { g with
        voids := up 999999 g.voids 1
        voidAmount := up 999999999 g.voidAmount n
        saturated := g.saturated || passes 999999 g.voids 1 || passes 999999999 g.voidAmount n } }) ∧
  (∀ (x : Totals) (c : ClerkNo) (n : Nat),
    let d := posted x.day
    x.postLineVoid c = { x with acc := x.acc.lineVoid c, day := d } ∧
    x.postForcedVoid c n = { x with
      acc := x.acc.txnVoid c n
      day := { d with
        forcedVoids := if d.forcedVoids < 999999 then d.forcedVoids + 1 else d.forcedVoids
        saturated := d.saturated || decide (999999 ≤ d.forcedVoids + 1) } }) ∧
  ∀ (s : State) (p : Port) (tag : Tag) (name : TxnName),
    let i := Instr.voidTransaction p tag name
    Waiting s p tag i → s.TableLaw → s.StockLaw →
    let found : Except Result Txn := match name with
      | .byClerk k =>
        if h : 1 ≤ k ∧ k ≤ 16 then
          match s.openOf ⟨k - 1, by omega⟩ with
          | some x => .ok x
          | none => .error .noSuch
        else .error .badValue
      | .byNumber n =>
        if n < 1 ∨ 9999 < n then .error .badValue
        else
          match s.findTxn n with
          | some x => .ok x
          | none => .error .noSuch
    match found with
    | .error code => Refuses i p tag s code
    | .ok x => ∃ t, exec i s = .next t ∧ Replied t ⟨p, tag, requestCode i⟩ .ok (.voided x.number x.subtotal) ∧
      t.txn.held.map (·.number) = (s.txn.held.map (·.number)).filter (· ≠ x.number) ∧
      t.txn.parked = s.txn.parked.filter (· ≠ x.number) ∧
      t.clerk x.clerk = { s.clerk x.clerk with
        openTxn := if x.parkedAt = none then none else (s.clerk x.clerk).openTxn
        lastStation := match name with
          | .byClerk _ => some p
          | .byNumber _ => (s.clerk x.clerk).lastStation } ∧
      (∀ c, c ≠ x.clerk → t.clerk c = s.clerk c) ∧
      (let mine := x.lines.filter fun l => l.voided = false
       let apart := fun ls : List Line => ∀ l ∈ ls, l.label = none ∨ ∀ m ∈ mine, m.label ≠ l.label
       (∀ n y, n ≠ x.number → s.findTxn n = some y → apart y.lines → t.findTxn n = some y) ∧
       ((∀ e ∈ s.txn.closed, apart e.lines) → t.txn.closed = s.txn.closed) ∧
       t.outlets = (mine.foldl (fun (u : State) (l : Line) => match l.label with
         | none => u
         | some (o, id) => u.cancelOrder o id) s).outlets) ∧
      t.txn.nextNumber = s.txn.nextNumber ∧ t.txn.inFlight = s.txn.inFlight ∧ t.txn.routing = s.txn.routing ∧
      t.totals.acc = s.totals.acc.txnVoid x.clerk x.subtotal ∧ t.totals.day = posted s.totals.day ∧
      t.transit.ticketReports = s.transit.ticketReports ++
        (x.ticket.map fun k => (k, TicketReport.outcome .noSale)).toList ∧
      (∀ r ∈ s.plus, ∃ r' ∈ t.plus, r'.number = r.number ∧ r'.fields = r.fields ∧ r'.active = r.active ∧
        let mine := (x.lines.filter fun l => l.voided = false).filter fun l => l.plu = r.number
        r'.openLines = r.openLines - mine.length ∧
        ∀ a, r.stock = some a → ∃ a', r'.stock = some a' ∧
          a'.remaining = a.remaining + (mine.map (·.quantity)).sum ∧ a'.held = a.held - (mine.map (·.quantity)).sum ∧
          a'.loaded = a.loaded ∧ a'.sold = a.sold) ∧
      t.weigh = s.weigh ∧ t.queue = s.queue ∧ t.clock = s.clock ∧ t.totals.watches = s.totals.watches

/-! ### Service tickets -/

/-- CONFIGURE CLASS takes its entries whole, call timeout and hold-off clamped, or refuses BAD_VALUE with no field
changed: a class named twice, a rank or wait limit out of range, equal resulting ranks, or a line in two records
(R131). READ QUEUE replies the four classes, the missed, recent and CALLED tickets, the counter and the port's call
set, and changes nothing but the model's count of readings (R150, log entry 5). That the CALLED tickets stand in the
order of their confirmed calls is the model's choice (log entry 39); a timer is shown as stopped just where it is. -/
def Obligations.ClassesAndQueueReading : Prop :=
  (∀ (s : State) (p : Port) (t : Tag) (es : List ClassEntry),
    let i := Instr.configureClass p t es
    Waiting s p t i →
    let after := fun (c : ClassRecord) (e : ClassEntry) => { c with
      enabled := e.enabled.getD c.enabled
      rank := e.rank.getD c.rank
      waitLimit := e.waitLimit.getD c.waitLimit
      callTimeout := (e.callTimeout.map fun n => max 10 (min n 300)).getD c.callTimeout
      line := e.line.getD c.line
      edge := e.edge.getD c.edge
      holdOff := (e.holdOff.map fun n => max 200 (min n 2000)).getD c.holdOff }
    (¬(es.map (·.cls)).Nodup → Refuses i p t s .badValue) ∧
    ((es.map (·.cls)).Nodup →
      (∃ e ∈ es, (∃ r, e.rank = some r ∧ (r < 1 ∨ 4 < r)) ∨ ∃ n, e.waitLimit = some n ∧ 120 < n) →
      Refuses i p t s .badValue) ∧
    ((es.map (·.cls)).Nodup → (∀ e ∈ es, (∀ r, e.rank = some r → 1 ≤ r ∧ r ≤ 4) ∧ ∀ n, e.waitLimit = some n → n ≤ 120) →
      ∃ m : PerClass ClassRecord,
        (∀ e ∈ es, m.get e.cls = after (s.classOf e.cls) e) ∧ (∀ k, k ∉ es.map (·.cls) → m.get k = s.classOf k) ∧
        let fine : Prop := ∀ j k, j ≠ k → (m.get j).rank ≠ (m.get k).rank ∧
          ((m.get j).line = none ∨ (m.get j).line ≠ (m.get k).line)
        (fine → Answers i p t s .ok .empty { s with queue := { s.queue with classes := m } }) ∧
        (¬fine → Refuses i p t s .badValue))) ∧
  (∀ (s : State) (p : Port) (t : Tag), Waiting s p t (.readQueue p t) →
    ∃ v, Answers (.readQueue p t) p t s .ok (.queue v) { s with timeReadings := s.timeReadings + s.queue.called.length } ∧
      (∀ k, let c := s.classOf k
        (v.classes.get k).enabled = c.enabled ∧ (v.classes.get k).rank = c.rank ∧ (v.classes.get k).next = c.next ∧
        (v.classes.get k).waitLimit = c.waitLimit ∧ (v.classes.get k).callTimeout = c.callTimeout ∧
        (v.classes.get k).waiting = c.waiting.length ∧
        (v.classes.get k).head = c.waiting.head?.map fun x => ⟨x.id.number, x.issuedAt, x.seq, x.reinstated.isSome,
          c.waitLimit ≠ 0 && 60 * c.waitLimit ≤ s.clock.daySeconds - x.issuedAt⟩) ∧
      v.missed = s.queue.missed.map (fun x => (x.id, x.issuedAt)) ∧ v.recent = s.queue.recent ∧
      v.called.map (fun x => (x.ticket, x.txn, x.station, x.recalls, x.bound, x.left.isSome)) =
        s.queue.called.map (fun x => (x.ticket.id, x.txn, x.station, x.recalls, x.bound, x.timer.isSome)) ∧
      (∀ x ∈ v.called, ∀ n, x.left = some n → ∃ y ∈ s.queue.called, y.ticket.id = x.ticket ∧ ∃ m, y.timer = some m ∧ n ≤ m) ∧
      v.issueCounter = s.queue.issueCounter ∧
      v.callSet = match p with
        | .office => 0b1111
        | .station st => s.queue.callSets.get st)

/-- ISSUE TICKET takes the first free number of the class from its next number on, with the issue sequence and the day
seconds; the ticket joins the tail, is posted, its class's count is handed to the watches, and QUEUE_CHANGE is sent; a
closed day, a disabled class, no free number and an ended counter are refused (R133 to R135, R148, R179). The tests of
an issue and an issue that passed them are the same for every way of issuing (R134). -/
def Obligations.IssueTicket : Prop :=
  (∀ (s : State) (k : TicketClass), 1 ≤ (s.classOf k).next → (s.classOf k).next ≤ 99 →
    let c := s.classOf k
    let number := fun d : Nat => (c.next - 1 + d) % 99 + 1
    (s.totals.day.opened = none → s.issueTests k = .error .dayClosed) ∧
    (s.totals.day.opened ≠ none → c.enabled = false → s.issueTests k = .error .noSuch) ∧
    (s.totals.day.opened ≠ none → c.enabled = true →
      ((∀ d, d < 99 → s.queue.holds ⟨k, number d⟩ = true) → s.issueTests k = .error .tableFull) ∧
      ∀ d, d < 99 → s.queue.holds ⟨k, number d⟩ = false → (∀ j, j < d → s.queue.holds ⟨k, number j⟩ = true) →
        s.issueTests k = if 4294967295 ≤ s.queue.issueCounter then .error .tableFull else .ok (number d)) ∧
    ∀ n, s.issue k n = (({ s with
      queue := { s.queue with
        classes := s.queue.classes.set k { c with
          waiting := c.waiting ++ [(⟨⟨k, n⟩, s.queue.issueCounter, s.clock.daySeconds, none, none⟩ : Ticket)]
          next := if n < 99 then n + 1 else 1 }
        issueCounter := s.queue.issueCounter + 1 }
      totals := s.totals.postTicket k .issued }).queueWatches k (c.waiting.length + 1)).queueChange k .issue) ∧
  ∀ (s : State) (p : Port) (t : Tag) (k : TicketClass),
    let i := Instr.issueTicket p t k
    Waiting s p t i → 1 ≤ (s.classOf k).next → (s.classOf k).next ≤ 99 →
    let c := s.classOf k
    let number := fun d : Nat => (c.next - 1 + d) % 99 + 1
    if s.totals.day.opened = none then Refuses i p t s .dayClosed
    else if c.enabled = false then Refuses i p t s .noSuch
    else
      ((∀ d, d < 99 → s.queue.holds ⟨k, number d⟩ = true) → Refuses i p t s .tableFull) ∧
      ∀ d, d < 99 → s.queue.holds ⟨k, number d⟩ = false → (∀ j, j < d → s.queue.holds ⟨k, number j⟩ = true) →
        if 4294967295 ≤ s.queue.issueCounter then Refuses i p t s .tableFull
        else
          let x : Ticket := ⟨⟨k, number d⟩, s.queue.issueCounter, s.clock.daySeconds, none, none⟩
          let u := { s with
            queue := { s.queue with
              classes := s.queue.classes.set k { c with
                waiting := c.waiting ++ [x], next := if number d < 99 then number d + 1 else 1 }
              issueCounter := s.queue.issueCounter + 1 }
            totals := s.totals.postTicket k .issued }
          Answers i p t s .ok (.issued ⟨k, number d⟩ s.queue.issueCounter c.waiting.length)
            ((u.queueWatches k (c.waiting.length + 1)).queueChange k .issue)

/-- A change of a dispenser line updates its level. It is a press where a class governs the line with an edge
selection that includes the change and no hold-off runs: the hold-off starts, and the ticket is issued once a TICKET
outlet, the first in order, has taken its job, or one dispenser refusal is posted. The hold-off's expiry stops it and
looks at nothing (R134, R136, R137, R179). A refusal posted adds one, up to 999,999, to the day record's refusals and
postings, and sets its flag where either reaches it (R171, R179; the model's reading of R171 beside R176, log entry
20). A report of the level already seen is no change and leaves all as it is (log entry 2). The tests and the issue
are those of `IssueTicket`. -/
def Obligations.DispenserLines : Prop :=
  (∀ x : Totals, x.postDispenserRefusal = { x with day := { x.day with
    refusals := if x.day.refusals < 999999 then x.day.refusals + 1 else x.day.refusals
    postings := if x.day.postings < 999999 then x.day.postings + 1 else x.day.postings
    saturated := x.day.saturated || decide (999999 ≤ x.day.refusals + 1) || decide (999999 ≤ x.day.postings + 1) } }) ∧
  (∀ (s : State) (d : DispenserLine) (high : Bool), (s.queue.lines.get d).level ≠ high →
    let i := Instr.dispenserLineChange d high
    let old := s.queue.lines.get d
    let ignored := Leaves i s (s.setLine d { old with level := high })
    ((∀ k, (s.classOf k).line ≠ some d) → ignored) ∧
    ∀ k, (s.classOf k).line = some d → (∀ j, j ≠ k → (s.classOf j).line ≠ some d) →
      let c := s.classOf k
      if old.holdOff ≠ none ∨ c.edge = .off ∨ (c.edge = .rising ∧ high = false) ∨ (c.edge = .falling ∧ high = true) then
        ignored
      else
        let u := s.setLine d ⟨high, some c.holdOff⟩
        let refused := Leaves i s { u with totals := s.totals.postDispenserRefusal }
        match s.issueTests k with
        | .error _ => refused
        | .ok n =>
          let job := ticketJob ⟨k, n⟩ c.waiting.length s.clock.now
          match [OutletId.p1, .p2, .p3, .p4].find? fun o =>
              (s.outletOf o).kind = .ticket && ((s.outletOf o).offer job).isSome with
          | none => refused
          | some o => ∀ x id, (s.outletOf o).offer job = some (x, id) → Leaves i s ((u.setOutlet o x).issue k n)) ∧
  (∀ (s : State) (d : DispenserLine) (high : Bool), (s.queue.lines.get d).level = high →
    Leaves (.dispenserLineChange d high) s s) ∧
  (∀ (s : State) (d : DispenserLine), Leaves (.holdOffExpiry d) s
    (s.setLine d ⟨(s.queue.lines.get d).level, none⟩))

/-- CALL NEXT, its tests passed, takes a ticket off its list: among the heads of the enabled classes in the port's
call set, the overdue one issued first, or with none overdue the one of the highest rank; the open-bound order then
goes out and the reply waits (R139, R140, R147). -/
def Obligations.CallNext : Prop :=
  ∀ (s : State) (p : Port) (t : Tag) (clerk : Nat),
    let i := Instr.callNext p t clerk
    Waiting s p t i →
    (clerk < 1 ∨ 16 < clerk → Refuses i p t s .badValue) ∧
    ∀ c : ClerkNo, clerk = c.val + 1 →
      let set : CallSet := match p with
        | .office => 0b1111
        | .station st => s.queue.callSets.get st
      let eligible := fun (k : TicketClass) (x : Ticket) =>
        (s.classOf k).enabled = true ∧ set.getLsbD (k.code - 1) = true ∧ (s.classOf k).waiting.head? = some x
      let overdue := fun (k : TicketClass) (x : Ticket) =>
        (s.classOf k).waitLimit ≠ 0 ∧ 60 * (s.classOf k).waitLimit ≤ s.clock.daySeconds - x.issuedAt
      if s.totals.day.opened = none then Refuses i p t s .dayClosed
      else if (s.clerk c).enabled = false then Refuses i p t s .noSuch
      else if (s.clerk c).openTxn ≠ none then Refuses i p t s .openTxn
      else
        ((∀ k x, ¬eligible k x) → Refuses i p t s .queueEmpty) ∧
        ((∃ k x, eligible k x) → ∃ k x, eligible k x ∧
          ((∃ j y, eligible j y ∧ overdue j y) →
            overdue k x ∧ ∀ j y, eligible j y → overdue j y → x.seq ≤ y.seq) ∧
          ((∀ j y, eligible j y → ¬overdue j y) →
            ∀ j y, eligible j y → (s.classOf k).rank ≤ (s.classOf j).rank) ∧
          (x.id.cls = k →
            Defers i p t s { s with queue := { s.queue with
              classes := s.queue.classes.set k { s.classOf k with
                waiting := (s.classOf k).waiting.filter fun y => y.id ≠ x.id }
              calls := s.queue.calls ++ [⟨x, c, p, ⟨p, t, requestCode i⟩⟩] } }))

/-- The open-bound order of a call: with the clerk still enabled and without an OPEN transaction, a bound transaction
opens under the first number from the next one on that is in no use (R107), the ticket becomes CALLED with its timer
started, the recent calls take it at their front, each DISPLAY outlet is offered the display job (its lines:
`ReprintsReadingsAndJobs`), the class's waiting count goes to the watches and QUEUE_CHANGE to the stations that call
the class, and the call is answered with its number (R102, R108, R127, R141, R146, R148). The clerk's last station
becomes the calling port (R103, log entry 27). Otherwise the ticket goes back to its list, at the place its issue
sequence or its turn of reinstatement gives (R138, R139; the model's reading, log entry 19), and the call is refused.
-/
def Obligations.OpenBound : Prop :=
  ∀ (s : State) (x : Call) (rest : List Call), s.queue.calls = x :: rest →
    let k := x.ticket.id
    let c := s.classOf k.cls
    let u := { s with queue := { s.queue with calls := rest } }
    let returned := fun code : Result => ∃ before after, c.waiting = before ++ after ∧
      (∀ y ∈ before, x.ticket.precedes y = false) ∧ (∀ y ∈ after.head?, x.ticket.precedes y = true) ∧
      Leaves (.openBound k) s ({ u with queue := { u.queue with
        classes := s.queue.classes.set k.cls { c with waiting := before ++ x.ticket :: after } } }.reply x.replyTo code .empty)
    if (s.clerk x.clerk).enabled = false then returned .noSuch
    else if (s.clerk x.clerk).openTxn ≠ none then returned .openTxn
    else
      let n := s.txn.takesNumber
      ∃ t, exec (.openBound k) s = .next t ∧
        t.findTxn n = some ⟨n, x.clerk, some k, .none, [], 0, 0, s.clock.now, none, x.port⟩ ∧
        (s.TableLaw → s.txn.Takes n) ∧
        (∀ m, m ≠ n → t.findTxn m = s.findTxn m) ∧ t.txn.nextNumber = (if n < 9999 then n + 1 else 1) ∧
        t.clerk x.clerk = { s.clerk x.clerk with openTxn := some n, lastStation := some x.port } ∧
        t.queue.called = s.queue.called ++ [⟨{ x.ticket with reinstated := none, calledAt := some s.clock.daySeconds }, 0, n,
          x.port, .openEmpty, some c.callTimeout⟩] ∧
        t.queue.recent = ((k, x.port) :: s.queue.recent.filter fun e => e.1 ≠ k).take 4 ∧
        t.queue.classes = s.queue.classes ∧ t.queue.missed = s.queue.missed ∧ t.queue.calls = rest ∧
        (∀ o, t.outletOf o =
          if (s.outletOf o).kind = .display then
            (((s.outletOf o).offer (displayJob t.queue.recent x.port)).map (·.1)).getD (s.outletOf o)
          else s.outletOf o) ∧
        t.totals.watches = (s.queueWatches k.cls c.waiting.length).totals.watches ∧
        (∀ st, (s.queue.callSets.get st).getLsbD (k.cls.code - 1) = true → s.hears (.station st) .queueChange →
          .queueChange k.cls .call c.waiting.length (c.waiting.head?.map (·.id.number)) ∈ (t.linkOf (.station st)).outbox) ∧
        ((s.linkOf x.replyTo.port).slots.any (Slot.waitsFor x.replyTo) = true →
          s.transit.cancellations.any (Cancellation.names x.replyTo) = false →
          Replied t x.replyTo .ok (.called k n 0)) ∧
        t.weigh = s.weigh ∧ t.plus = s.plus ∧ t.totals.acc = s.totals.acc ∧ t.totals.day = s.totals.day ∧ t.transit = s.transit

/-- A call timer's expiry recalls the ticket, up to three times, with its timer started again, the recent calls and
the display job offered to every DISPLAY outlet and CALL_EXPIRED sent to the calling station; after three recalls it
sends the discard order and stops the timer (R102, R143, R146). RECALL does the same for the requesting port, the
timer starting only over an empty open transaction, and is refused LIMIT after three (R145). -/
def Obligations.Recalls : Prop :=
  (∀ (s : State) (k : TicketId) (x : CalledTicket), s.findCalled k = some x → x.timer ≠ none →
    let y := { x with recalls := x.recalls + 1, timer := some (s.classOf k.cls).callTimeout }
    if x.recalls < 3 then
      Leaves (.callTimerExpiry k) s
        (((s.setCalled y).showCall k x.station).notify x.station (.callExpired k x.txn .recall (x.recalls + 1)))
    else Leaves (.callTimerExpiry k) s { s.setCalled { x with timer := none } with
      transit := { s.transit with discards := s.transit.discards ++ [⟨k, x.txn, true, none⟩] } }) ∧
  (∀ (s : State) (p : Port) (t : Tag) (clerk : Nat),
    let i := Instr.recall p t clerk
    Waiting s p t i →
    (clerk < 1 ∨ 16 < clerk → Refuses i p t s .badValue) ∧
    ∀ c : ClerkNo, clerk = c.val + 1 →
      match s.openOf c with
      | none => Refuses i p t s .noSuch
      | some y =>
        match y.ticket.bind s.findCalled with
        | none => Refuses i p t s .noSuch
        | some x =>
          if 3 ≤ x.recalls then Refuses i p t s .limit
          else
            let z := { x with
              recalls := x.recalls + 1
              station := p
              timer := if x.bound = .openEmpty then some (s.classOf x.ticket.id.cls).callTimeout else x.timer }
            Answers i p t s .ok (.recalled x.ticket.id (x.recalls + 1)) ((s.setCalled z).showCall x.ticket.id p)) ∧
  ∀ (s : State) (k : TicketId) (p : Port),
    let u := s.showCall k p
    u.queue = { s.queue with recent := ((k, p) :: s.queue.recent.filter fun e => e.1 ≠ k).take 4 } ∧
    (∀ o, u.outletOf o =
      if (s.outletOf o).kind = .display then
        (((s.outletOf o).offer (displayJob u.queue.recent p)).map (·.1)).getD (s.outletOf o)
      else s.outletOf o) ∧
    { u with queue := s.queue, outlets := s.outlets } = s

/-- SKIP of a clerk's called ticket with no line sends the discard order and waits for its answer (R145). The discard
takes the open, empty, bound transaction away, and the ticket joins the missed list, the oldest of a full list
becoming ABANDONED; an order that finds lines or no such transaction is refused and changes nothing (R127, R143 to
R145). REINSTATE brings a missed ticket back to its list, after the tickets already reinstated and before all others,
hands the count to the watches, sends QUEUE_CHANGE and replies its place (R138, R145). That the reinstated flag is
kept as a turn of reinstatement is the model's choice (log entry 22). -/
def Obligations.SkipsAndReinstates : Prop :=
  ((∀ (s : State) (p : Port) (t : Tag) (clerk : Nat),
    let i := Instr.skip p t clerk
    Waiting s p t i →
    (clerk < 1 ∨ 16 < clerk → Refuses i p t s .badValue) ∧
    ∀ c : ClerkNo, clerk = c.val + 1 →
      match s.openOf c with
      | none => Refuses i p t s .noSuch
      | some y =>
        match y.ticket.bind s.findCalled with
        | none => Refuses i p t s .noSuch
        | some x =>
          if y.lines ≠ [] then Refuses i p t s .hasLines
          else Defers i p t s { s with transit := { s.transit with
            discards := s.transit.discards ++ [⟨x.ticket.id, y.number, false, some ⟨p, t, requestCode i⟩⟩] } }) ∧
  ∀ (s : State) (m : DiscardOrder) (rest : List DiscardOrder), s.transit.discards = m :: rest →
    let v := { s with transit := { s.transit with discards := rest } }
    match s.findTxn m.txn with
    | none => Leaves (.discard m.ticket) s (v.replyTo m.replyTo .noSuch .empty)
    | some y =>
      if y.parkedAt ≠ none ∨ y.ticket ≠ some m.ticket then
        Leaves (.discard m.ticket) s (v.replyTo m.replyTo .noSuch .empty)
      else if y.lines ≠ [] then Leaves (.discard m.ticket) s (v.replyTo m.replyTo .hasLines .empty)
      else ∀ x, s.findCalled m.ticket = some x → (s.clerk y.clerk).openTxn = some y.number →
        let full := s.queue.missed.drop (s.queue.missed.length - 7)
        let u := { v.setClerk y.clerk { s.clerk y.clerk with openTxn := none } with
          txn := { (v.setClerk y.clerk { s.clerk y.clerk with openTxn := none }).txn with
            held := s.txn.held.filter fun z => z.number ≠ y.number
            parked := s.txn.parked.filter fun n => n ≠ y.number }
          queue := { s.queue with
            called := s.queue.called.filter fun z => z.ticket.id ≠ m.ticket
            missed := full ++ [x.ticket] }
          totals := ((s.queue.missed.take (s.queue.missed.length - 7)).foldl
            (fun (a : Totals) (z : Ticket) => a.postTicket z.id.cls .abandoned) s.totals).postTicket x.ticket.id.cls .missed }
        s.queue.missed.length ≤ 8 → Leaves (.discard m.ticket) s
          (if m.automatic then u.notify x.station (.callExpired m.ticket x.txn .skip x.recalls)
            else u.replyTo m.replyTo .ok (.skipped m.ticket))) ∧
  (∀ (s : State) (p : Port) (t : Tag) (k : TicketId),
    let i := Instr.reinstate p t k
    Waiting s p t i → s.TicketLaw →
    if k.number < 1 ∨ 99 < k.number then Refuses i p t s .badValue
    else
      ((∀ x ∈ s.queue.missed, x.id ≠ k) → Refuses i p t s .noSuch) ∧
      ∀ before x after, s.queue.missed = before ++ x :: after → x.id = k →
        let c := s.classOf k.cls
        let head := c.waiting.filter fun y => y.reinstated.isSome
        let tail := c.waiting.filter fun y => y.reinstated.isNone
        let u := { s with queue := { s.queue with
          classes := s.queue.classes.set k.cls { c with
            waiting := head ++ { x with reinstated := some s.queue.reinstateTurn } :: tail }
          missed := before ++ after
          reinstateTurn := s.queue.reinstateTurn + 1 } }
        Answers i p t s .ok (.reinstated k (head.length + 1))
          ((u.queueWatches k.cls (c.waiting.length + 1)).queueChange k.cls .reinstate))

/-- A report of a bound transaction still in hand sets the CALLED ticket's bound state and stops its timer, which a
resume of an empty one starts again (R142; that it is heard for the ticket's present call is the model's choice, log
entry 45). A report of one that has gone takes the ticket out of the queue's keeping and posts it served, with its
wait, or abandoned (R148, R179). A ticket change posted counts one in its class's field, with the wait beside a
service and the no-sale count beside a service without a sale, each field stopping at its cap and setting the grand
flag, and counts one posting (R176, R179), the day record's flag set where that count reaches 999,999 (R171; the
model's reading of R171 beside R176, log entry 20). -/
def Obligations.TicketReports : Prop :=
  (∀ (x : Totals) (k : TicketClass),
    let up := fun cap n m : Nat => min cap (n + m)
    let passes := fun cap n m : Nat => decide (cap < n + m)
    let g := x.acc.grand
    let y := g.classes.get k
    let leaves := fun (change : TicketChange) (grand : GrandRecord) => x.postTicket k change = { x with
      acc := { x.acc with grand := grand }
      day := { x.day with
        postings := if x.day.postings < 999999 then x.day.postings + 1 else x.day.postings
        saturated := x.day.saturated || decide (999999 ≤ x.day.postings + 1) } }
    let served := fun wait : Nat => { g with
      classes := g.classes.set k { y with served := up 999999 y.served 1 }
      waitSum := up 999999999 g.waitSum wait
      waitCount := up 999999 g.waitCount 1
      saturated := g.saturated || passes 999999 y.served 1 || passes 999999999 g.waitSum wait || passes 999999 g.waitCount 1 }
    leaves .issued { g with
      classes := g.classes.set k { y with issued := up 999999 y.issued 1 }
      saturated := g.saturated || passes 999999 y.issued 1 } ∧
    leaves .missed { g with
      classes := g.classes.set k { y with missed := up 999999 y.missed 1 }
      saturated := g.saturated || passes 999999 y.missed 1 } ∧
    leaves .abandoned { g with
      classes := g.classes.set k { y with abandoned := up 999999 y.abandoned 1 }
      saturated := g.saturated || passes 999999 y.abandoned 1 } ∧
    ∀ wait, leaves (.sale wait) (served wait) ∧
      leaves (.noSale wait) { served wait with
        noSale := up 999999 g.noSale 1
        saturated := (served wait).saturated || passes 999999 g.noSale 1 }) ∧
  (∀ (s : State) (k : TicketId) (r : BoundReport) (rest : List (TicketId × TicketReport)) (x : CalledTicket),
    s.transit.ticketReports = (k, .bound r) :: rest → s.findCalled k = some x →
    let u := { s with transit := { s.transit with ticketReports := rest } }
    Leaves (.boundTxnReport k) s (u.setCalled (match r with
      | .firstLine => { x with bound := .openWithLines, timer := none }
      | .parked => { x with bound := .parked, timer := none }
      | .resumed true => { x with bound := .openEmpty, timer := some (s.classOf k.cls).callTimeout }
      | .resumed false => { x with bound := .openWithLines, timer := none }))) ∧
  (∀ (s : State) (k : TicketId) (o : TicketOutcome) (rest : List (TicketId × TicketReport)) (x : CalledTicket),
    s.transit.ticketReports = (k, .outcome o) :: rest → s.findCalled k = some x →
    let wait := x.ticket.calledAt.getD x.ticket.issuedAt - x.ticket.issuedAt
    Leaves (.ticketOutcomeReport k) s { s with
      transit := { s.transit with ticketReports := rest }
      queue := { s.queue with called := s.queue.called.filter fun y => y.ticket.id ≠ k }
      totals := s.totals.postTicket k.cls (match o with
        | .sale => .sale wait
        | .noSale => .noSale wait
        | .abandoned => .abandoned) })

/-! ### Outlets -/

/-- The line flow: with two or more places free in PRINTING, the head job's next lines join the line queue until it
holds four, each with its markers; with none in transfer the first goes to the device; outside PRINTING nothing moves
and nothing is sent (R157, R158, R161). "Line taken" frees the line in transfer and counts it, and ends the job where
a cancel waits: the next job follows, or the emptied queue takes PRINTING to READY (R158, R160, R168). "Job done" for
a head job wholly taken removes it, tells its port in mode EACH and the totals unit of a label, clears the reference
of the line an item label was printed for, and lets the next job follow (R106, R159, R160, R180, R191). -/
def Obligations.LineFlow : Prop :=
  (∀ (x : Outlet) (j : QueuedJob) (rest : List QueuedJob), x.jobs = j :: rest → x.state = .printing →
    x.lineQueue.length ≤ 4 → j.moved ≤ j.job.lines.length →
    let n := if x.lineQueue.length ≤ 2 then min (4 - x.lineQueue.length) (j.job.lines.length - j.moved) else 0
    let y := x.pump
    y.jobs = { j with moved := j.moved + n } :: rest ∧ y.lineQueue.length = x.lineQueue.length + n ∧
    (∀ k, k < x.lineQueue.length → y.lineQueue[k]? = x.lineQueue[k]?) ∧
    (∀ k, k < n → y.lineQueue[x.lineQueue.length + k]? = (j.job.lines[j.moved + k]?).map fun text =>
      ⟨text, decide (j.moved + k = 0), decide (j.moved + k + 1 = j.job.lines.length)⟩) ∧
    (x.transfer = true → y.transfer = true ∧ y.sent = x.sent) ∧
    (x.transfer = false → ∀ l, y.lineQueue.head? = some l → y.transfer = true ∧ y.sent = .line l :: x.sent) ∧
    y.state = x.state ∧ y.holdTimer = x.holdTimer ∧ y.labelCount = x.labelCount) ∧
  (∀ x : Outlet, x.state ≠ .printing ∨ (x.jobs = [] ∧ x.lineQueue = []) → x.pump = x) ∧
  (∀ (s : State) (o : OutletId), (s.outletOf o).transfer = false → Leaves (.lineTaken o) s s) ∧
  (∀ (s : State) (o : OutletId) (j : QueuedJob) (rest : List QueuedJob), (s.outletOf o).jobs = j :: rest →
    (s.outletOf o).transfer = true → j.cancelWaiting = false →
    Leaves (.lineTaken o) s (s.setOutlet o { s.outletOf o with
      lineQueue := (s.outletOf o).lineQueue.drop 1
      transfer := false
      jobs := { j with taken := j.taken + 1, started := true } :: rest }.pump)) ∧
  (∀ (s : State) (o : OutletId) (j : QueuedJob) (rest : List QueuedJob), (s.outletOf o).jobs = j :: rest →
    (s.outletOf o).transfer = true → j.cancelWaiting = true → ∃ t, exec (.lineTaken o) s = .next t ∧
      (t.outletOf o).jobs.map (·.id) = rest.map (·.id) ∧
      (t.outletOf o).labelCount =
        (if j.job.kind = .item ∨ j.job.kind = .total then (s.outletOf o).labelCount - 1 else (s.outletOf o).labelCount) ∧
      ((s.outletOf o).state ≠ .offline → DeviceSignal.abortJob ∈ (t.outletOf o).sent) ∧
      (let x := s.outletOf o
       let y : Outlet := { x with
         lineQueue := [], transfer := false, jobs := rest
         labelCount := if j.job.kind = .item ∨ j.job.kind = .total then x.labelCount - 1 else x.labelCount
         sent := if x.state = .offline then x.sent else .abortJob :: x.sent }
       (rest = [] → t.outletOf o =
         { y with completed := 0, state := if x.state = .printing then .ready else x.state }) ∧
       (rest ≠ [] → t.outletOf o = y.pump) ∧
       (rest = [] → x.mode = .drain → s.hears .office .outletDrained →
         .outletDrained o x.completed ∈ (t.linkOf .office).outbox)) ∧
      t.txn = (if j.job.kind = .item then s.labelGone o j.id else s).txn ∧
      (∀ q, q ≠ o → t.outletOf q = s.outletOf q) ∧ t.totals = s.totals ∧ t.transit = s.transit ∧ t.queue = s.queue ∧
      (s.transit.cancellations = [] → ∀ r ∈ j.cancels, (∀ r' ∈ j.cancels, r' ≠ r → r'.port ≠ r.port ∨ r'.tag ≠ r.tag) →
        (s.linkOf r.port).slots.any (Slot.waitsFor r) = true → Replied t r .cancelled .empty)) ∧
  (∀ (s : State) (o : OutletId) (j : QueuedJob) (rest : List QueuedJob), (s.outletOf o).jobs = j :: rest →
    let x := s.outletOf o
    (j.taken ≠ j.job.lines.length ∨ (x.state ≠ .printing ∧ x.state ≠ .held) → Leaves (.deviceJobDone o) s s) ∧
    (j.taken = j.job.lines.length → x.state = .printing ∨ x.state = .held →
      ∃ t, exec (.deviceJobDone o) s = .next t ∧
        (t.outletOf o).jobs.map (·.id) = rest.map (·.id) ∧
        (rest = [] → (t.outletOf o).state = (if x.state = .printing then .ready else .held) ∧
          (t.outletOf o).completed = 0) ∧
        (rest ≠ [] → (t.outletOf o).state = x.state ∧ (t.outletOf o).completed = x.completed + 1) ∧
        (t.outletOf o).labelCount =
          (if j.job.kind = .item ∨ j.job.kind = .total then x.labelCount - 1 else x.labelCount) ∧
        t.txn = (if j.job.kind = .item then s.labelGone o j.id else s).txn ∧
        (∀ q, q ≠ o → t.outletOf q = s.outletOf q) ∧ t.totals = s.totals ∧ t.queue = s.queue ∧ t.weigh = s.weigh ∧
        t.transit = { s.transit with totals := s.transit.totals ++
          (match j.job.origin with
            | some (.station st) => if j.job.kind = .item ∨ j.job.kind = .total then [.labelPrinted st] else []
            | some .office | none => []) } ∧
        (x.mode = .each → ∀ p, j.job.origin = some p → (s.linkOf p).state = .up →
          (s.linkOf p).threshold ≤ s.link.priorities.jobDone →
          .jobDone o j.id j.job.kind j.job.copy ∈ (t.linkOf p).outbox) ∧
        (x.mode = .drain → rest = [] → (s.linkOf .office).state = .up →
          (s.linkOf .office).threshold ≤ s.link.priorities.outletDrained →
          .outletDrained o (x.completed + 1) ∈ (t.linkOf .office).outbox)))

/-- An asserted HOLD line takes READY and PRINTING into HELD with the hold timer at the limit, prescale × count × 100
ms; its release in HELD stops the timer and resumes (R152, R156, R161). The timer's expiry enters STALLED, abandons
the lines, returns the head job for reprint, counts the stall and sends OUTLET_STATE (R162, R166). With a cancel
waiting on the head job the stall completes it: the job leaves in place of being returned, "abort job" goes to the
device, an item label's line forgets it, the label count falls, and every waiting cancel is answered CANCELLED (R106,
R167, R168, R191; that OUTLET_STATE follows and shows the queue without the job is the model's reading, log entry 30).
RESUME OUTLET ends a stall and replies the new state, and changes nothing in another state (R163). -/
def Obligations.HoldAndStall : Prop :=
  (∀ (s : State) (o : OutletId),
    let x := s.outletOf o
    let limit := x.prescale * x.limitCount * 100
    let resumed := fun y : Outlet =>
      if y.paperOut then { y with state := .noPaper }
      else if y.hold then { y with state := .held, holdTimer := some limit }
      else if y.jobs = [] then { y with state := .ready }
      else { y with state := .printing }.pump
    Leaves (.holdAsserted o) s (s.setOutlet o
      (if x.state = .ready ∨ x.state = .printing then { x with hold := true, state := .held, holdTimer := some limit }
        else { x with hold := true })) ∧
    Leaves (.holdReleased o) s (s.setOutlet o
      (if x.state = .held then resumed { x with hold := false, holdTimer := none } else { x with hold := false })) ∧
    ∀ (p : Port) (t : Tag),
      let i := Instr.resumeOutlet p t o
      Waiting s p t i →
      if x.state = .stalled then
        Answers i p t s .ok (.outletState (resumed { x with holdTimer := none }).state)
          ((s.setOutlet o (resumed { x with holdTimer := none })).tellOutletState o .stalled)
      else Answers i p t s .ok (.outletState x.state) s) ∧
  (∀ (s : State) (o : OutletId), (s.outletOf o).holdTimer ≠ none →
    let x := s.outletOf o
    let y := { x with
      state := .stalled, holdTimer := none, lineQueue := [], transfer := false
      stalls := if x.stalls < 65535 then x.stalls + 1 else x.stalls }
    (x.jobs = [] → Leaves (.holdTimerExpiry o) s ((s.setOutlet o y).tellOutletState o x.state)) ∧
    (∀ j rest, x.jobs = j :: rest → j.cancelWaiting = false →
      Leaves (.holdTimerExpiry o) s ((s.setOutlet o { y with
        jobs := { j with moved := 0, taken := 0, passes := j.passes + 1 } :: rest }).tellOutletState o x.state)) ∧
    (∀ j rest, x.jobs = j :: rest → j.cancelWaiting = true → ∃ t, exec (.holdTimerExpiry o) s = .next t ∧
      (t.outletOf o).jobs = rest ∧ (t.outletOf o).state = .stalled ∧ (t.outletOf o).holdTimer = none ∧
      (t.outletOf o).stalls = y.stalls ∧ (t.outletOf o).lineQueue = [] ∧
      (t.outletOf o).sent = .abortJob :: x.sent ∧ (t.outletOf o).transfer = false ∧
      (t.outletOf o).labelCount = (if j.job.kind = .item ∨ j.job.kind = .total then x.labelCount - 1 else x.labelCount) ∧
      t.txn = (if j.job.kind = .item then s.labelGone o j.id else s).txn ∧ t.totals = s.totals ∧ t.queue = s.queue ∧
      (∀ q, q ≠ o → t.outletOf q = s.outletOf q) ∧ t.transit = s.transit ∧
      (s.transit.cancellations = [] → ∀ r ∈ j.cancels, (∀ r' ∈ j.cancels, r' ≠ r → r'.port ≠ r.port ∨ r'.tag ≠ r.tag) →
        (s.linkOf r.port).slots.any (Slot.waitsFor r) = true → Replied t r .cancelled .empty) ∧
      (s.hears .office .outletState →
        .outletState o x.state .stalled rest.length (rest.head?.map fun k => (k.id, k.passes)) y.stalls ∈
          (t.linkOf .office).outbox))) ∧
  ∀ (s : State) (o : OutletId) (before : OutletState),
    let x := s.outletOf o
    s.tellOutletState o before = s.notifyAll
      (.office :: (([.s1, .s2, .s3, .s4, .s5, .s6] : List Station).filter fun st =>
        (s.txn.routing.get st).primary = some o || (s.txn.routing.get st).fallback = some o).map .station)
      (.outletState o before x.state x.jobs.length (x.jobs.head?.map fun j => (j.id, j.passes)) x.stalls)

/-- Paper out sets its flag and in READY, PRINTING and HELD abandons the lines, returns the head job for reprint and
enters NO_PAPER; paper ready clears it and in NO_PAPER resumes; both are ignored in OFFLINE (R164). A falling present
line does the same into OFFLINE, and a rising one takes the HOLD level, clears the paper flag and resumes (R165); a
rise in another state leaves all as it is (log entry 2). A cancel waiting on the head job completes at paper out and
at the fall: the job leaves in place of being returned, "abort job" goes to the device unless the outlet is now
OFFLINE, an item label's line forgets it, and every waiting cancel is answered CANCELLED (R106, R165, R167, R168; that
this comes before OUTLET_STATE is the model's reading, log entry 30). Each such change sends OUTLET_STATE (R166). -/
def Obligations.PaperAndPresence : Prop :=
  ∀ (s : State) (o : OutletId),
    let x := s.outletOf o
    let resumed := fun y : Outlet =>
      if y.paperOut then { y with state := .noPaper }
      else if y.hold then { y with state := .held, holdTimer := some (x.prescale * x.limitCount * 100) }
      else if y.jobs = [] then { y with state := .ready }
      else { y with state := .printing }.pump
    let dropped := { x with lineQueue := [], transfer := false, holdTimer := none }
    let uncancelled : Prop := ∀ j ∈ x.jobs.head?, j.cancelWaiting = false
    let returned := match x.jobs with
      | [] => []
      | j :: rest => { j with moved := 0, taken := 0, passes := j.passes + 1 } :: rest
    (x.state = .offline → Leaves (.paperOut o) s s ∧ Leaves (.paperReady o) s s ∧ Leaves (.outletPresentFalls o) s s ∧
      ∀ hold, Leaves (.outletPresentRises o hold) s ((s.setOutlet o
        (resumed { x with present := true, hold := hold, paperOut := false })).tellOutletState o .offline)) ∧
    (x.state ≠ .offline →
      (x.state = .stalled ∨ x.state = .noPaper → Leaves (.paperOut o) s (s.setOutlet o { x with paperOut := true })) ∧
      (x.state ≠ .stalled → x.state ≠ .noPaper → uncancelled → Leaves (.paperOut o) s
        ((s.setOutlet o { dropped with paperOut := true, state := .noPaper, jobs := returned }).tellOutletState o x.state)) ∧
      (x.state = .noPaper → Leaves (.paperReady o) s
        ((s.setOutlet o (resumed { x with paperOut := false })).tellOutletState o .noPaper)) ∧
      (x.state ≠ .noPaper → Leaves (.paperReady o) s (s.setOutlet o { x with paperOut := false })) ∧
      (uncancelled → Leaves (.outletPresentFalls o) s
        ((s.setOutlet o { dropped with present := false, state := .offline, jobs := returned }).tellOutletState o x.state)) ∧
      (∀ j rest, x.jobs = j :: rest → j.cancelWaiting = true →
        let ends := fun (i : Instr) (after : OutletState) (sent : List DeviceSignal) (paper present : Bool) =>
          ∃ t, exec i s = .next t ∧
            (let y := t.outletOf o
             y.jobs = rest ∧ y.state = after ∧ y.holdTimer = none ∧ y.lineQueue = [] ∧ y.transfer = false ∧ y.sent = sent ∧
             y.paperOut = paper ∧ y.present = present ∧
             y.labelCount = if j.job.kind = .item ∨ j.job.kind = .total then x.labelCount - 1 else x.labelCount) ∧
            t.txn = (if j.job.kind = .item then s.labelGone o j.id else s).txn ∧
            (∀ q, q ≠ o → t.outletOf q = s.outletOf q) ∧ t.totals = s.totals ∧ t.queue = s.queue ∧ t.transit = s.transit ∧
            (s.transit.cancellations = [] → ∀ r ∈ j.cancels,
              (∀ r' ∈ j.cancels, r' ≠ r → r'.port ≠ r.port ∨ r'.tag ≠ r.tag) →
              (s.linkOf r.port).slots.any (Slot.waitsFor r) = true → Replied t r .cancelled .empty) ∧
            (s.hears .office .outletState →
              .outletState o x.state after rest.length (rest.head?.map fun k => (k.id, k.passes)) x.stalls ∈
                (t.linkOf .office).outbox)
        (x.state ≠ .stalled → x.state ≠ .noPaper → ends (.paperOut o) .noPaper (.abortJob :: x.sent) true x.present) ∧
        ends (.outletPresentFalls o) .offline x.sent x.paperOut false) ∧
      ∀ hold, Leaves (.outletPresentRises o hold) s s)

/-- CANCEL JOB of no job in the queue is refused NO_SUCH (R167; that a job id out of its range is refused so too is
the model's choice, log entry 49). A job behind the head, or a head job not begun, leaves the queue with OK; a begun
one without a line in transfer is ended with "abort job" and CANCELLED; with a line in transfer the cancel waits on
the job and its reply with it (R167, R168). The line an ITEM job was printed for forgets the job that has left (R106).
The transaction table's cancel order does the same without a reply, for an ITEM job of that id alone (R167). -/
def Obligations.CancelJob : Prop :=
  (∀ (s : State) (p : Port) (tag : Tag) (o : OutletId) (id : Nat),
    let i := Instr.cancelJob p tag o id
    Waiting s p tag i → (s.outletOf o).Lawful →
    let x := s.outletOf o
    let label := fun j : QueuedJob => if j.job.kind = .item ∨ j.job.kind = .total then x.labelCount - 1 else x.labelCount
    ((∀ j ∈ x.jobs, j.id ≠ id) → Refuses i p tag s .noSuch) ∧
    (∀ head before j after, x.jobs = head :: (before ++ j :: after) → j.id = id →
      let u := s.setOutlet o { x with jobs := head :: (before ++ after), labelCount := label j }
      Answers i p tag s .ok .empty (if j.job.kind = .item then u.labelGone o id else u)) ∧
    (∀ j rest, x.jobs = j :: rest → j.id = id → x.transfer = true →
      Defers i p tag s (s.setOutlet o { x with jobs :=
        { j with cancelWaiting := true, cancels := j.cancels ++ [⟨p, tag, requestCode i⟩] } :: rest })) ∧
    (∀ j rest, x.jobs = j :: rest → j.id = id → x.transfer = false →
      let result : Result := if j.started then .cancelled else .ok
      ∃ t, exec i s = .next t ∧ Replied t ⟨p, tag, requestCode i⟩ result .empty ∧
        (t.outletOf o).jobs.map (·.id) = rest.map (·.id) ∧ (t.outletOf o).labelCount = label j ∧
        (rest = [] → (t.outletOf o).state = (if x.state = .printing then .ready else x.state) ∧
          (t.outletOf o).lineQueue = []) ∧
        (j.started = true → x.state ≠ .offline → DeviceSignal.abortJob ∈ (t.outletOf o).sent) ∧
        t.txn = (if j.job.kind = .item then s.labelGone o id else s).txn ∧
        (∀ q, q ≠ o → t.outletOf q = s.outletOf q) ∧ t.totals = s.totals ∧ t.transit = s.transit ∧ t.queue = s.queue)) ∧
  ∀ (s : State) (o : OutletId) (id : Nat), (s.outletOf o).Lawful →
    let x := s.outletOf o
    let u := s.cancelOrder o id
    ((∀ j ∈ x.jobs, j.id ≠ id ∨ j.job.kind ≠ .item) → u = s) ∧
    (∀ head before j after, x.jobs = head :: (before ++ j :: after) → j.id = id → j.job.kind = .item →
      u = (s.setOutlet o { x with jobs := head :: (before ++ after), labelCount := x.labelCount - 1 }).labelGone o id) ∧
    ∀ j rest, x.jobs = j :: rest → j.id = id → j.job.kind = .item →
      (x.transfer = true → u = s.setOutlet o { x with jobs := { j with cancelWaiting := true } :: rest }) ∧
      (x.transfer = false →
        (u.outletOf o).jobs.map (·.id) = rest.map (·.id) ∧ (u.outletOf o).labelCount = x.labelCount - 1 ∧
        (rest = [] → (u.outletOf o).state = (if x.state = .printing then .ready else x.state) ∧
          (u.outletOf o).lineQueue = []) ∧
        (j.started = true → x.state ≠ .offline → DeviceSignal.abortJob ∈ (u.outletOf o).sent) ∧
        (j.started = false → rest = [] → (u.outletOf o).sent = x.sent) ∧
        u.txn = (s.labelGone o id).txn ∧ (∀ q, q ≠ o → u.outletOf q = s.outletOf q) ∧
        (∀ q, (u.linkOf q).slots = (s.linkOf q).slots ∧ (u.linkOf q).replies = (s.linkOf q).replies) ∧
        u.totals = s.totals ∧ u.transit = s.transit ∧ u.queue = s.queue)

/-- CONFIGURE OUTLET sets every present field, the limit count clamped, unless the prescale is no power of two up to
128 or another kind meets a job queue that is not empty (R153). READ OUTLET replies the settings, the state, the
lines, the jobs and the counts, and changes nothing but the model's count of readings (R169, log entry 5). An offered
job is refused where the outlet's kind does not take it, off READY, PRINTING and HELD, and by a full queue; otherwise
it joins the tail with the first id from the next one on that no job holds, and an outlet in READY begins to print it.
A DISPLAY job offered to a full queue joins too, and the oldest job not begun leaves (R152, R154, R155, R191); that a
job is not begun with no line moved in its current pass and none taken in any is the model's reading (log entry 50).
-/
def Obligations.OutletSettings : Prop :=
  (∀ (x : Outlet) (job : Job),
    let takes : Prop := (x.kind = .label ∧ (job.kind = .item ∨ job.kind = .total)) ∨
      (x.kind = .ticket ∧ job.kind = .ticket) ∨ (x.kind = .display ∧ job.kind = .display)
    let attends : Prop := x.state = .ready ∨ x.state = .printing ∨ x.state = .held
    let next := fun n : Nat => if n < 65535 then n + 1 else 1
    let joins := fun kept : List QueuedJob => ∃ y d,
      let id := next^[d] x.nextId
      let z := { x with
        jobs := kept ++ [⟨id, job, 0, 0, false, 0, false, []⟩]
        nextId := next id
        labelCount := if job.kind = .item ∨ job.kind = .total then x.labelCount + 1 else x.labelCount }
      x.offer job = some (y, id) ∧ (∀ j ∈ kept, j.id ≠ id) ∧ (∀ e, e < d → ∃ j ∈ kept, j.id = next^[e] x.nextId) ∧
      y = if x.state = .ready then { z with state := .printing }.pump else z
    (¬takes ∨ ¬attends ∨ (8 ≤ x.jobs.length ∧ job.kind ≠ .display) → x.offer job = none) ∧
    (takes → attends → x.jobs.length < 8 → joins x.jobs) ∧
    ∀ before old after, takes → attends → job.kind = .display → x.jobs = before ++ old :: after → x.jobs.length = 8 →
      old.moved = 0 → old.started = false → (∀ j ∈ before, j.moved ≠ 0 ∨ j.started = true) → joins (before ++ after)) ∧
  (∀ (s : State) (p : Port) (t : Tag) (o : OutletId) (f : OutletFields),
    let i := Instr.configureOutlet p t o f
    Waiting s p t i →
    let x := s.outletOf o
    if f.prescale.any (fun n => n ∉ [1, 2, 4, 8, 16, 32, 64, 128]) then Refuses i p t s .badValue
    else if f.kind.any (fun k => k ≠ x.kind) ∧ x.jobs ≠ [] then Refuses i p t s .inUse
    else Answers i p t s .ok .empty (s.setOutlet o { x with
      kind := f.kind.getD x.kind
      prescale := f.prescale.getD x.prescale
      limitCount := (f.limitCount.map fun n => max 1 (min n 16)).getD x.limitCount
      mode := f.mode.getD x.mode })) ∧
  (∀ (s : State) (p : Port) (t : Tag) (o : OutletId), Waiting s p t (.readOutlet p t o) →
    ∃ v, Answers (.readOutlet p t o) p t s .ok (.outlet v) { s with timeReadings := s.timeReadings + 1 } ∧
      let x := s.outletOf o
      v.kind = x.kind ∧ v.prescale = x.prescale ∧ v.limitCount = x.limitCount ∧
      v.limitMs = x.prescale * x.limitCount * 100 ∧ v.mode = x.mode ∧ v.state = x.state ∧ v.present = x.present ∧
      v.hold = x.hold ∧ v.paperOut = x.paperOut ∧ (v.left = none ↔ x.holdTimer = none) ∧
      (∀ n m, v.left = some n → x.holdTimer = some m → n ≤ m) ∧
      v.jobs = x.jobs.map (fun j => ⟨j.id, j.job.kind, j.job.copy, j.job.origin, j.job.lines.length, j.taken, j.passes,
        j.cancelWaiting⟩) ∧
      v.lineQueue = x.lineQueue.length ∧ v.transfer = x.transfer ∧ v.stalls = x.stalls ∧ v.nextId = x.nextId)

/-! ### Business day, totals and watches -/

/-- OPEN DAY: its three tests in order; the opening then numbers and dates the day, restarts the day seconds, the
transaction numbers, the tickets' numbers, the issue counter and the recent calls, and tells all seven ports (R172).
-/
def Obligations.OpenDay : Prop :=
  ∀ (s : State) (p : Port) (t : Tag) (date : Date),
    let i := Instr.openDay p t date
    Waiting s p t i →
    if s.totals.day.opened ≠ none then Refuses i p t s .dayOpen
    else if s.clock.unset = true then Refuses i p t s .clockUnset
    else if date.real = false then Refuses i p t s .badValue
    else
      let n := if s.totals.day.number = 0 then 1 else s.totals.day.number
      let q := s.queue
      let u := { s with
        totals := { s.totals with day := { s.totals.day with number := n, opened := some ⟨date, s.clock.now⟩ } }
        clock := { s.clock with daySeconds := 0 }
        txn := { s.txn with nextNumber := 1 }
        queue := { q with
          classes := ⟨{ q.classes.a with next := 1 }, { q.classes.b with next := 1 }, { q.classes.c with next := 1 },
            { q.classes.d with next := 1 }⟩
          issueCounter := 1
          recent := [] } }
      Answers i p t s .ok (.dayOpened n date) (u.notifyAll
        [.station .s1, .station .s2, .station .s3, .station .s4, .station .s5, .station .s6, .office]
        (.dayState true n date .opened 0))

/-- CLOSE DAY waits while a call or a skip is in progress (R173, R192; that it then stays in its slot is the model's
choice, log entry 8), and is refused on a closed day, or in mode NORMAL with a transaction held. It leaves no
transaction held and no clerk with one, no stock held, no ticket waiting, called or missed, the closed list empty, the
accumulators and counts at 0, every watch but the OFF ones armed, and the next day's number; every port hears of it
(R126, R149, R173, R174, R183, R184). The snapshot holds the day record and the accumulators as they stood, after the
reports on their way to the ticket queue (in fields: `Starts`), with one forced void of its subtotal and its ticket's
abandonment posted for each transaction held, in mode FORCE, and an abandonment for each waiting and missed ticket (in
fields: `VoidTransaction`, `TicketReports`; the order among the classes is log entry 38). That the reports on their
way to the ticket queue are taken before the close begins is the model's reading (log entry 34). -/
def Obligations.CloseDay : Prop :=
  ∀ (s : State) (p : Port) (t : Tag) (mode : CloseMode),
    let i := Instr.closeDay p t mode
    (s.queue.calls ≠ [] ∨ s.transit.discards ≠ [] → exec i s = .next s) ∧
    (Waiting s p t i → s.queue.calls = [] → s.transit.discards = [] → s.TableLaw → s.StockLaw →
      match s.totals.day.opened with
      | none => Refuses i p t s .dayClosed
      | some d =>
        if mode = .normal ∧ s.txn.held ≠ [] then Refuses i p t s .openTxn
        else ∃ u snap, exec i s = .next u ∧
          Replied u ⟨p, t, requestCode i⟩ .ok (.dayClosed s.totals.day.number snap.day.forcedVoids) ∧
          u.txn.held = [] ∧ u.txn.parked = [] ∧ u.txn.closed = [] ∧ u.txn.inFlight = s.txn.inFlight ∧
          (∀ c, u.clerk c = { s.clerk c with openTxn := none }) ∧
          (∀ r ∈ u.plus, r.openLines = 0 ∧ ∀ a, r.stock = some a → a.held = 0) ∧
          (∀ k, u.classOf k = { s.classOf k with waiting := [] }) ∧ u.queue.missed = [] ∧
          ((∀ y ∈ s.queue.called, (∃ x ∈ s.txn.held, x.ticket = some y.ticket.id) ∨
              ∃ o, (y.ticket.id, TicketReport.outcome o) ∈ s.transit.ticketReports) → u.queue.called = []) ∧
          u.totals.day = ⟨none, if 9999 ≤ s.totals.day.number then 1 else s.totals.day.number + 1, 0, 0, 0, 0, false⟩ ∧
          u.totals.acc = .zero ∧ u.totals.snapshot = some snap ∧
          (∀ j : Fin 4, u.totals.watches[j] = { s.totals.watches[j] with
            armed := s.totals.watches[j].armed || s.totals.watches[j].cond ≠ .off }) ∧
          (let forced := fun (x : Totals) (y : Txn) =>
            let z := x.postForcedVoid y.clerk y.subtotal
            match y.ticket with
            | some k => z.postTicket k.cls .abandoned
            | none => z
           let ended := (s.classOf .a).waiting ++ (s.classOf .b).waiting ++ (s.classOf .c).waiting ++ (s.classOf .d).waiting ++
            s.queue.missed
           let settled := s.settleTickets.totals
           let voided := if mode = .force then s.txn.held.foldl forced settled else settled
           let standing := ended.foldl (fun (x : Totals) y => x.postTicket y.id.cls .abandoned) voided
           mode = .normal ∨ s.BoundLaw → snap.acc = standing.acc ∧ snap.day = standing.day) ∧
          (mode = .normal → snap.acc.clerks = s.totals.acc.clerks) ∧
          snap.mode = mode ∧ snap.closedAt = s.clock.now ∧ snap.day.opened = some d ∧
          snap.day.number = s.totals.day.number ∧ snap.day.labelsLost = s.totals.day.labelsLost ∧
          snap.day.refusals = s.totals.day.refusals ∧
          (mode = .normal → snap.day.forcedVoids = s.totals.day.forcedVoids) ∧
          (mode = .force → s.totals.day.forcedVoids + s.txn.held.length ≤ 999999 →
            snap.day.forcedVoids = s.totals.day.forcedVoids + s.txn.held.length) ∧
          snap.acc.departments = s.totals.acc.departments ∧ snap.acc.stations = s.totals.acc.stations ∧
          snap.acc.plus = s.totals.acc.plus ∧
          (∀ q, (s.linkOf q).state = .up → (s.linkOf q).threshold ≤ s.link.priorities.dayState →
            .dayState false s.totals.day.number d.date (if mode = .normal then .closeNormal else .closeForce)
              snap.day.forcedVoids ∈ (u.linkOf q).outbox) ∧
          u.weigh = s.weigh ∧ u.clock = s.clock)

/-- A station's report adds one, up to the cap, to its field and to the posting count, and a label lost to the day
record's field and the posting count; a field that would pass its cap, or a day field that reaches it, sets the
record's flag (R171, R176, R180), and a report that is not on its way changes nothing (log entry 2). READ TOTALS
replies a section as it stands, READ CLOSED DAY one of the snapshot with the mode and the time of its close; neither
changes anything (R179, R182, R183). That a start key is judged before the snapshot is the model's choice (log entry
18). -/
def Obligations.TotalsReportsAndReadings : Prop :=
  (∀ (s : State) (r : TotalsReport), (r ∉ s.transit.totals → Leaves (.totalsReport r) s s) ∧
    ∀ before after, s.transit.totals = before ++ r :: after → r ∉ before →
      let up := fun n : Nat => if 999999 < n + 1 then 999999 else n + 1
      let full := fun n : Nat => decide (999999 < n + 1)
      let posted := fun d : DayRecord => { d with
        postings := if d.postings < 999999 then d.postings + 1 else d.postings
        saturated := d.saturated || decide (999999 ≤ d.postings + 1) }
      let leaves := fun x : Totals =>
        Leaves (.totalsReport r) s { s with transit := { s.transit with totals := before ++ after }, totals := x }
      let field := fun (st : Station) (x : StationRecord) => leaves { s.totals with
        day := posted s.totals.day
        acc := { s.totals.acc with stations := s.totals.acc.stations.set st x } }
      match r with
      | .captureCompleted st =>
        let x := s.totals.acc.stations.get st
        field st { x with captures := up x.captures, saturated := x.saturated || full x.captures }
      | .labelPrinted st =>
        let x := s.totals.acc.stations.get st
        field st { x with labels := up x.labels, saturated := x.saturated || full x.labels }
      | .refusal st =>
        let x := s.totals.acc.stations.get st
        field st { x with refusals := up x.refusals, saturated := x.saturated || full x.refusals }
      | .labelLost =>
        let d := s.totals.day
        leaves { s.totals with day := posted { d with
          labelsLost := if d.labelsLost < 999999 then d.labelsLost + 1 else d.labelsLost
          saturated := d.saturated || decide (999999 ≤ d.labelsLost + 1) } }) ∧
  ∀ (s : State) (p : Port) (t : Tag) (sec : Section) (key : Nat),
    let badKey : Prop := (sec = .clerk ∧ (key < 1 ∨ 16 < key)) ∨ (sec = .plu ∧ 9999 < key)
    let shown := fun (d : DayRecord) (a : Accumulators) (close : Option (CloseMode × DateTime)) (v : SectionView) =>
      match sec with
      | .day => v = .day d close
      | .grand => ∃ mean : Nat, v = .grand a.grand mean ∧ (a.grand.waitCount = 0 → mean = 0) ∧
        (a.grand.waitCount ≠ 0 → 2 * a.grand.waitSum < 2 * (mean * a.grand.waitCount) + a.grand.waitCount ∧
          2 * (mean * a.grand.waitCount) ≤ 2 * a.grand.waitSum + a.grand.waitCount)
      | .department => v = .department a.departments
      | .clerk => ∃ rows, v = .clerk rows (decide (key + 8 ≤ 16)) ∧ rows.length = min 8 (17 - key) ∧
        ∀ j, j < rows.length → ∃ c : ClerkNo, c.val + 1 = key + j ∧ rows[j]? = some (c, a.clerks[c])
      | .station => v = .station a.stations
      | .plu =>
        let rows := a.plus.filter fun e => key ≤ e.plu
        v = .plu (rows.take 16) (decide (16 < rows.length))
    (let i := Instr.readTotals p t sec key
     Waiting s p t i →
      (badKey → Refuses i p t s .badValue) ∧
      (¬badKey → ∃ v, shown s.totals.day s.totals.acc none v ∧
        Answers i p t s .ok (.totals s.totals.day.postings v) s)) ∧
    (let i := Instr.readClosedDay p t sec key
     Waiting s p t i →
      (badKey → Refuses i p t s .badValue) ∧
      (¬badKey →
        match s.totals.snapshot with
        | none => Refuses i p t s .noSuch
        | some n => ∃ v, shown n.day n.acc (some (n.mode, n.closedAt)) v ∧
          Answers i p t s .ok (.totals n.day.postings v) s))

/-- SET WATCH replaces the record of its number, armed unless OFF and with no fires, or refuses BAD_VALUE; READ WATCH
replies the four records and changes nothing (R184). That an OFF watch keeps the action NOTICE is the model's choice
(log entry 26). At a line the armed PLU_SALE watches of its PLU and the TXN_AMOUNT watches whose threshold the
subtotal crosses fire and stay armed, and the answer is whether one of them holds (R185). A class's new count fires an
armed QUEUE_LENGTH watch at its threshold, which then rests until a count below arms it; a close fires an armed
CLERK_AMOUNT watch above its threshold, which then rests (R186). Each fire sends the office WATCH_FIRED with the
watch, the value that fired it, the transaction of a line's fire (log entry 29) and the new fire count (R184). -/
def Obligations.Watches : Prop :=
  (∀ (s : State) (p : Port) (t : Tag) (number target threshold : Nat) (kind : WatchKind) (action : WatchAction),
    let i := Instr.setWatch p t number kind target threshold action
    Waiting s p t i →
    let refused := Refuses i p t s .badValue
    (number < 1 ∨ 4 < number → refused) ∧
    ∀ j : Fin 4, number = j.val + 1 →
      let becomes := fun w : Watch =>
        Answers i p t s .ok .empty { s with totals := { s.totals with watches := s.totals.watches.set j w } }
      match kind with
      | .off => becomes ⟨.off, .notice, false, 0⟩
      | .pluSale => if 1 ≤ target ∧ target ≤ 9999 then becomes ⟨.pluSale target, action, true, 0⟩ else refused
      | .txnAmount => if threshold ≤ 9999999 then becomes ⟨.txnAmount threshold, action, true, 0⟩ else refused
      | .clerkAmount =>
        (action = .hold ∨ target < 1 ∨ 16 < target ∨ 999999999 < threshold → refused) ∧
        (action = .notice → threshold ≤ 999999999 →
          ∀ c : ClerkNo, target = c.val + 1 → becomes ⟨.clerkAmount c threshold, .notice, true, 0⟩)
      | .queueLength =>
        (action = .hold ∨ target < 1 ∨ 4 < target ∨ threshold < 1 ∨ 99 < threshold → refused) ∧
        (action = .notice → 1 ≤ threshold → threshold ≤ 99 → ∀ k ∈ [(1, TicketClass.a), (2, .b), (3, .c), (4, .d)],
          target = k.1 → becomes ⟨.queueLength k.2 threshold, .notice, true, 0⟩)) ∧
  (∀ (s : State) (p : Port) (t : Tag), Waiting s p t (.readWatch p t) →
    Answers (.readWatch p t) p t s .ok (.watches s.totals.watches) s) ∧
  (∀ (s : State) (plu amount subtotal txn : Nat) (c : ClerkNo),
    let fires := fun w : Watch => w.firesAt plu amount subtotal
    let r := s.lineWatches plu amount subtotal txn c
    (∀ j : Fin 4,
      (fires s.totals.watches[j] → r.1.totals.watches[j] = { s.totals.watches[j] with
        fires := if s.totals.watches[j].fires < 65535 then s.totals.watches[j].fires + 1 else s.totals.watches[j].fires }) ∧
      (¬fires s.totals.watches[j] → r.1.totals.watches[j] = s.totals.watches[j]) ∧
      (fires s.totals.watches[j] → s.hears .office .watchFired →
        .watchFired (j.val + 1) s.totals.watches[j].cond
          (if s.totals.watches[j].cond = .pluSale plu then plu else subtotal) (some txn) r.1.totals.watches[j].fires ∈
          (r.1.linkOf .office).outbox)) ∧
    (r.2 = true ↔ ∃ j : Fin 4, fires s.totals.watches[j] ∧ s.totals.watches[j].action = .hold) ∧
    (r.2 = true → (s.linkOf .office).state = .up → (s.linkOf .office).threshold ≤ s.link.priorities.approvalNeeded →
      ∃ numbers, .approvalNeeded txn c subtotal numbers ∈ (r.1.linkOf .office).outbox ∧
        ∀ j : Fin 4, j.val + 1 ∈ numbers ↔ fires s.totals.watches[j] ∧ s.totals.watches[j].action = .hold) ∧
    r.1.totals.acc = s.totals.acc ∧ r.1.totals.day = s.totals.day ∧ r.1.txn = s.txn) ∧
  (∀ (s : State) (k : TicketClass) (count : Nat) (j : Fin 4),
    let w := s.totals.watches[j]
    let u := s.queueWatches k count
    (∀ threshold, w.cond = .queueLength k threshold →
      (w.armed = true → threshold ≤ count → u.totals.watches[j] = { w with
          armed := false, fires := if w.fires < 65535 then w.fires + 1 else w.fires } ∧
        (s.hears .office .watchFired → .watchFired (j.val + 1) w.cond count none u.totals.watches[j].fires ∈
          (u.linkOf .office).outbox)) ∧
      (w.armed = true → count < threshold → u.totals.watches[j] = w) ∧
      (w.armed = false → count < threshold → u.totals.watches[j] = { w with armed := true }) ∧
      (w.armed = false → threshold ≤ count → u.totals.watches[j] = w)) ∧
    ((∀ threshold, w.cond ≠ .queueLength k threshold) → u.totals.watches[j] = w)) ∧
  ∀ (s : State) (c : ClerkNo) (j : Fin 4),
    let w := s.totals.watches[j]
    let u := s.clerkWatches c
    let fires : Prop := w.armed = true ∧ ∃ threshold, w.cond = .clerkAmount c threshold ∧ threshold < s.totals.acc.clerks[c].amount
    (fires → u.totals.watches[j] = { w with
        armed := false, fires := if w.fires < 65535 then w.fires + 1 else w.fires } ∧
      (s.hears .office .watchFired →
        .watchFired (j.val + 1) w.cond s.totals.acc.clerks[c].amount none u.totals.watches[j].fires ∈
          (u.linkOf .office).outbox)) ∧
    (¬fires → u.totals.watches[j] = w)

/-! ### Clock, starts and RESTART -/

/-- The calendar clock's second, by months of 28 to 31 days with 29 in a February of a year divisible by 4, up to the
last second of 2099, where it stays (R94, R188). SET CLOCK sets it and clears the flag, or refuses BAD_VALUE; nothing
else changes (R189). The day-seconds counter goes up to 999,999 (R190). -/
def Obligations.Clocks : Prop :=
  (∀ s : State,
    let n := s.clock.now
    let becomes := fun x : DateTime => Leaves .clockSecond s { s with clock := { s.clock with now := x } }
    let last : Prop := n = ⟨⟨2099, 12, 31⟩, ⟨23, 59, 59⟩⟩
    let days : Nat :=
      if n.date.month = 2 then (if n.date.year % 4 = 0 then 29 else 28)
      else if n.date.month ∈ [4, 6, 9, 11] then 30
      else 31
    (last → becomes n) ∧
    (n.time.second < 59 → becomes ⟨n.date, ⟨n.time.hour, n.time.minute, n.time.second + 1⟩⟩) ∧
    (n.time.second = 59 → n.time.minute < 59 → becomes ⟨n.date, ⟨n.time.hour, n.time.minute + 1, 0⟩⟩) ∧
    (n.time.second = 59 → n.time.minute = 59 → n.time.hour < 23 → becomes ⟨n.date, ⟨n.time.hour + 1, 0, 0⟩⟩) ∧
    (n.time = ⟨23, 59, 59⟩ → ¬last →
      (n.date.day < days → becomes ⟨⟨n.date.year, n.date.month, n.date.day + 1⟩, ⟨0, 0, 0⟩⟩) ∧
      (n.date.day = days → n.date.month < 12 → becomes ⟨⟨n.date.year, n.date.month + 1, 1⟩, ⟨0, 0, 0⟩⟩) ∧
      (n.date.day = days → n.date.month = 12 → becomes ⟨⟨n.date.year + 1, 1, 1⟩, ⟨0, 0, 0⟩⟩))) ∧
  (∀ (s : State) (p : Port) (t : Tag) (d : Date) (h : Time),
    let i := Instr.setClock p t d h
    Waiting s p t i →
    let days : Nat :=
      if d.month = 2 then (if d.year % 4 = 0 then 29 else 28) else if d.month ∈ [4, 6, 9, 11] then 30 else 31
    if 2000 ≤ d.year ∧ d.year ≤ 2099 ∧ 1 ≤ d.month ∧ d.month ≤ 12 ∧ 1 ≤ d.day ∧ d.day ≤ days ∧ h.hour ≤ 23 ∧
        h.minute ≤ 59 ∧ h.second ≤ 59 then
      Answers i p t s .ok .empty { s with clock := { s.clock with now := ⟨d, h⟩, unset := false } }
    else Refuses i p t s .badValue) ∧
  ∀ s : State, Leaves .daySecondsAdvance s { s with clock := { s.clock with
    daySeconds := if s.clock.daySeconds < 999999 then s.clock.daySeconds + 1 else s.clock.daySeconds } }

/-- A cold start takes every retained item to its default and keeps the calibration store. A warm start settles what
is between blocks and keeps what is retained, empties the links, the outlets and the platters' windows, zeroes and
operations, and posts the labels lost (R18, R47, R129, R151, R170, R187, R191 to R193). Settled first (log entry 21),
each report on its way to the ticket queue is heard, oldest first, and each on its way to the totals unit is posted,
before the start values are given; and a call in progress is not made, its ticket back at its place in its waiting
list (R192; the model's reading, log entry 6). RESTART is answered at once and no frame is admitted after it; its
effects, a warm start, come once its reply is sent or abandoned and no call or skip is in progress (R194; log entry 2
for an event that comes before). -/
def Obligations.Starts : Prop :=
  let sampled := fun (lv : Levels) (t : State) =>
    t.sealHigh = lv.sealHigh ∧ t.transit = .empty ∧ t.queue.calls = [] ∧ t.txn.inFlight = [] ∧ t.txn.nextRequest = 1 ∧
    t.link.restart = .idle ∧
    (∀ p, let l := t.linkOf p
      l.state = (if lv.present.get p = true then .learn else .down) ∧ l.slots = [] ∧ l.buffer = [] ∧ l.rx = [] ∧
      l.replies = [] ∧ l.outbox = [] ∧ l.threshold = 1 ∧ l.good = 0 ∧ l.checkErrors = 0 ∧ l.overruns = 0) ∧
    (∀ d, t.queue.lines.get d = ⟨lv.dispenser.get d, none⟩) ∧
    (∀ w, let c := t.channel w
      c.window = [] ∧ c.history = [] ∧ c.calHistory = [] ∧ c.zi = none ∧ c.zp = 0 ∧ c.tareKind = .none ∧ c.tare = 0 ∧
      c.interlock = false ∧ c.slot = none ∧ c.holdOwner = none ∧ c.pendingGrant = none ∧ c.openCapture = none ∧
      c.nextCapture = 1 ∧ c.state = if c.record.valid then .zeroing else .uncalibrated) ∧
    ∀ o, let x := t.outletOf o
      x.jobs = [] ∧ x.lineQueue = [] ∧ x.labelCount = 0 ∧ x.nextId = 1 ∧ x.paperOut = false ∧
      x.present = lv.outletPresent.get o ∧ x.hold = lv.outletHold.get o ∧
      x.state = (if x.present then (if x.hold then .held else .ready) else .offline) ∧
      x.holdTimer = if x.present ∧ x.hold then some (x.prescale * x.limitCount * 100) else none
  let warmed := fun (s t : State) (kind : StartKind) (lv : Levels) =>
    sampled lv t ∧ t.pending = s.pending ∧ t.clock = { s.clock with lastStart := kind } ∧ t.plus = s.plus ∧
    t.pricing = s.pricing ∧ t.link.permissions = s.link.permissions ∧ t.link.priorities = s.link.priorities ∧
    (∀ p, (t.linkOf p).refusal = (s.linkOf p).refusal ∧ (t.linkOf p).refusalCount = (s.linkOf p).refusalCount) ∧
    (∀ w, (t.channel w).record = (s.channel w).record ∧ (t.channel w).working = (s.channel w).working) ∧
    t.txn.held = (s.txn.held.map fun x => { x with lines := x.lines.map fun l => { l with label := none } }) ∧
    t.txn.closed = (s.txn.closed.map fun x => { x with lines := x.lines.map fun l => { l with label := none } }) ∧
    t.txn.parked = s.txn.parked ∧ t.txn.nextNumber = s.txn.nextNumber ∧ t.txn.routing = s.txn.routing ∧
    (∀ c, t.clerk c = s.clerk c) ∧
    t.queue.missed = s.queue.missed ∧ t.queue.recent = s.queue.recent ∧ t.queue.issueCounter = s.queue.issueCounter ∧
    t.queue.callSets = s.queue.callSets ∧
    (s.queue.calls = [] → ∀ k, t.classOf k = s.classOf k) ∧
    (∀ k, { t.classOf k with waiting := (s.classOf k).waiting } = s.classOf k ∧
      (t.classOf k).waiting.Perm
        ((s.classOf k).waiting ++ (s.queue.calls.map (·.ticket)).filter fun x => x.id.cls = k)) ∧
    (∀ call, s.queue.calls = [call] → ∃ ahead behind, (s.classOf call.ticket.id.cls).waiting = ahead ++ behind ∧
      (∀ y ∈ ahead, call.ticket.precedes y = false) ∧ (∀ y ∈ behind.head?, call.ticket.precedes y = true) ∧
      (t.classOf call.ticket.id.cls).waiting = ahead ++ call.ticket :: behind) ∧
    (let full := fun x : CalledTicket => some (s.classOf x.ticket.id.cls).callTimeout
     t.queue.called =
      s.settleTickets.queue.called.map fun x => { x with timer := if x.bound = .openEmpty then full x else none }) ∧
    (let lost := s.outlets.p1.labelCount + s.outlets.p2.labelCount + s.outlets.p3.labelCount + s.outlets.p4.labelCount
     t.totals = (List.replicate lost TotalsReport.labelLost).foldl Totals.postReport
      (s.transit.totals.foldl Totals.postReport s.settleTickets.totals)) ∧
    (∀ o, let x := s.outletOf o
      let y := t.outletOf o
      y.kind = x.kind ∧ y.prescale = x.prescale ∧ y.limitCount = x.limitCount ∧ y.mode = x.mode ∧ y.stalls = x.stalls) ∧
    t.totals.snapshot = s.totals.snapshot ∧ t.totals.watches = s.totals.watches ∧
    t.totals.day.opened = s.totals.day.opened ∧ t.totals.day.number = s.totals.day.number ∧
    t.totals.acc.clerks = s.totals.acc.clerks ∧ t.totals.acc.departments = s.totals.acc.departments ∧
    (let lost := s.outlets.p1.labelCount + s.outlets.p2.labelCount + s.outlets.p3.labelCount + s.outlets.p4.labelCount
     TotalsReport.labelLost ∉ s.transit.totals → s.totals.day.labelsLost + lost ≤ 999999 →
      t.totals.day.labelsLost = s.totals.day.labelsLost + lost)
  (∀ (s : State) (lv : Levels), ∃ t, exec (.powerUp false lv) s = .next t ∧ sampled lv t ∧ t.pending = s.pending ∧
    t.clock = ⟨⟨⟨2000, 1, 1⟩, ⟨0, 0, 0⟩⟩, true, 0, .cold⟩ ∧ t.plus = [] ∧ t.pricing = ⟨0, 1⟩ ∧
    (∀ st, t.link.permissions.get st = 0b00001111) ∧ (∀ p, (t.linkOf p).refusal = none ∧ (t.linkOf p).refusalCount = 0) ∧
    (∀ w, (t.channel w).record = (s.channel w).record ∧ (t.channel w).working.n = 8 ∧ (t.channel w).working.m = 6) ∧
    t.txn.held = [] ∧ t.txn.parked = [] ∧ t.txn.closed = [] ∧ t.txn.nextNumber = 1 ∧
    (∀ c, t.clerk c = ⟨[], false, none, none⟩) ∧ (∀ k, (t.classOf k).waiting = [] ∧ (t.classOf k).next = 1) ∧
    t.queue.called = [] ∧ t.queue.missed = [] ∧ t.queue.recent = [] ∧ t.queue.issueCounter = 1 ∧
    t.totals.day = ⟨none, 0, 0, 0, 0, 0, false⟩ ∧ t.totals.acc = .zero ∧ t.totals.snapshot = none) ∧
  (∀ (s : State) (lv : Levels), ∃ t, exec (.powerUp true lv) s = .next t ∧ warmed s t .warm lv) ∧
  (∀ (s : State) (lv : Levels),
    (s.link.restart = .due → s.queue.calls = [] → s.transit.discards = [] →
      ∃ t, exec (.restartEffects lv) s = .next t ∧ warmed s t .restart lv) ∧
    (s.link.restart ≠ .due ∨ s.queue.calls ≠ [] ∨ s.transit.discards ≠ [] → Leaves (.restartEffects lv) s s)) ∧
  (∀ (s : State) (p : Port) (t : Tag), Waiting s p t (.restart p t) → s.link.restart = .idle →
    Answers (.restart p t) p t s .ok .empty { s with link := { s.link with restart := .replying t } }) ∧
  (∀ (s : State) (t : Tag), s.link.restart = .replying t →
    (∀ r, (s.linkOf .office).tx = some (.reply ⟨true, r⟩) → r.tag = t → r.code = 0x7F →
      ∃ u, exec (.transmitComplete .office) s = .next u ∧ u.link.restart = .due) ∧
    ((s.linkOf .office).state ≠ .down → ∃ u, exec (.linkReset .office) s = .next u ∧ u.link.restart = .due)) ∧
  (∀ (s : State) (p : Port) (bytes : List Byte), s.link.restart ≠ .idle →
    ∃ t, exec (.frameReceived p bytes) s = .next t ∧ (t.linkOf p).slots = (s.linkOf p).slots) ∧
  (∀ (s : State) (r : TotalsReport) (rest : List TotalsReport), s.transit.totals = r :: rest →
    Leaves (.totalsReport r) s
      { s with transit := { s.transit with totals := rest }, totals := s.totals.postReport r }) ∧
  (∀ s : State, s.transit.ticketReports = [] → s.settleTickets = s) ∧
  ∀ (s : State) (k : TicketId) (report : TicketReport) (rest : List (TicketId × TicketReport)),
    s.transit.ticketReports = (k, report) :: rest →
    let u := { s with transit := { s.transit with ticketReports := rest } }
    (s.findCalled k = none → s.settleTickets = u.settleTickets) ∧
    ∀ x, s.findCalled k = some x →
      let wait := x.ticket.calledAt.getD x.ticket.issuedAt - x.ticket.issuedAt
      s.settleTickets = (match report with
        | .bound .firstLine => u.setCalled { x with bound := .openWithLines, timer := none }
        | .bound .parked => u.setCalled { x with bound := .parked, timer := none }
        | .bound (.resumed true) =>
          u.setCalled { x with bound := .openEmpty, timer := some (s.classOf k.cls).callTimeout }
        | .bound (.resumed false) => u.setCalled { x with bound := .openWithLines, timer := none }
        | .outcome o => { u with
            queue := { s.queue with called := s.queue.called.filter fun y => y.ticket.id ≠ k }
            totals := s.totals.postTicket k.cls (match o with
              | .sale => .sale wait
              | .noSale => .noSale wait
              | .abandoned => .abandoned) }).settleTickets
end

