-- ==== Sys2Proof/Laws/State.lean ====
section
/-! SUPPORT. One lemma per field per update of the state, true by rfl, so that no later proof unfolds a record update. -/

namespace Sys2Proof.Machine

/-! ### `setLink` changes `link` alone -/

@[simp] theorem State.setLink_pending (s : State) (p : Port) (l : Link) : (s.setLink p l).pending = s.pending := rfl
@[simp] theorem State.setLink_weigh (s : State) (p : Port) (l : Link) : (s.setLink p l).weigh = s.weigh := rfl
@[simp] theorem State.setLink_sealHigh (s : State) (p : Port) (l : Link) : (s.setLink p l).sealHigh = s.sealHigh := rfl
@[simp] theorem State.setLink_plus (s : State) (p : Port) (l : Link) : (s.setLink p l).plus = s.plus := rfl
@[simp] theorem State.setLink_pricing (s : State) (p : Port) (l : Link) : (s.setLink p l).pricing = s.pricing := rfl
@[simp] theorem State.setLink_txn (s : State) (p : Port) (l : Link) : (s.setLink p l).txn = s.txn := rfl
@[simp] theorem State.setLink_queue (s : State) (p : Port) (l : Link) : (s.setLink p l).queue = s.queue := rfl
@[simp] theorem State.setLink_outlets (s : State) (p : Port) (l : Link) : (s.setLink p l).outlets = s.outlets := rfl
@[simp] theorem State.setLink_totals (s : State) (p : Port) (l : Link) : (s.setLink p l).totals = s.totals := rfl
@[simp] theorem State.setLink_clock (s : State) (p : Port) (l : Link) : (s.setLink p l).clock = s.clock := rfl
@[simp] theorem State.setLink_transit (s : State) (p : Port) (l : Link) : (s.setLink p l).transit = s.transit := rfl
@[simp] theorem State.setLink_timeReadings (s : State) (p : Port) (l : Link) : (s.setLink p l).timeReadings = s.timeReadings := rfl

/-! ### `mapLink` changes `link` alone -/

@[simp] theorem State.mapLink_pending (s : State) (p : Port) (f : Link → Link) : (s.mapLink p f).pending = s.pending := rfl
@[simp] theorem State.mapLink_weigh (s : State) (p : Port) (f : Link → Link) : (s.mapLink p f).weigh = s.weigh := rfl
@[simp] theorem State.mapLink_sealHigh (s : State) (p : Port) (f : Link → Link) : (s.mapLink p f).sealHigh = s.sealHigh := rfl
@[simp] theorem State.mapLink_plus (s : State) (p : Port) (f : Link → Link) : (s.mapLink p f).plus = s.plus := rfl
@[simp] theorem State.mapLink_pricing (s : State) (p : Port) (f : Link → Link) : (s.mapLink p f).pricing = s.pricing := rfl
@[simp] theorem State.mapLink_txn (s : State) (p : Port) (f : Link → Link) : (s.mapLink p f).txn = s.txn := rfl
@[simp] theorem State.mapLink_queue (s : State) (p : Port) (f : Link → Link) : (s.mapLink p f).queue = s.queue := rfl
@[simp] theorem State.mapLink_outlets (s : State) (p : Port) (f : Link → Link) : (s.mapLink p f).outlets = s.outlets := rfl
@[simp] theorem State.mapLink_totals (s : State) (p : Port) (f : Link → Link) : (s.mapLink p f).totals = s.totals := rfl
@[simp] theorem State.mapLink_clock (s : State) (p : Port) (f : Link → Link) : (s.mapLink p f).clock = s.clock := rfl
@[simp] theorem State.mapLink_transit (s : State) (p : Port) (f : Link → Link) : (s.mapLink p f).transit = s.transit := rfl
@[simp] theorem State.mapLink_timeReadings (s : State) (p : Port) (f : Link → Link) : (s.mapLink p f).timeReadings = s.timeReadings := rfl

/-! ### `notify` changes `link` alone -/

@[simp] theorem State.notify_pending (s : State) (p : Port) (n : Notice) : (s.notify p n).pending = s.pending := rfl
@[simp] theorem State.notify_weigh (s : State) (p : Port) (n : Notice) : (s.notify p n).weigh = s.weigh := rfl
@[simp] theorem State.notify_sealHigh (s : State) (p : Port) (n : Notice) : (s.notify p n).sealHigh = s.sealHigh := rfl
@[simp] theorem State.notify_plus (s : State) (p : Port) (n : Notice) : (s.notify p n).plus = s.plus := rfl
@[simp] theorem State.notify_pricing (s : State) (p : Port) (n : Notice) : (s.notify p n).pricing = s.pricing := rfl
@[simp] theorem State.notify_txn (s : State) (p : Port) (n : Notice) : (s.notify p n).txn = s.txn := rfl
@[simp] theorem State.notify_queue (s : State) (p : Port) (n : Notice) : (s.notify p n).queue = s.queue := rfl
@[simp] theorem State.notify_outlets (s : State) (p : Port) (n : Notice) : (s.notify p n).outlets = s.outlets := rfl
@[simp] theorem State.notify_totals (s : State) (p : Port) (n : Notice) : (s.notify p n).totals = s.totals := rfl
@[simp] theorem State.notify_clock (s : State) (p : Port) (n : Notice) : (s.notify p n).clock = s.clock := rfl
@[simp] theorem State.notify_transit (s : State) (p : Port) (n : Notice) : (s.notify p n).transit = s.transit := rfl
@[simp] theorem State.notify_timeReadings (s : State) (p : Port) (n : Notice) : (s.notify p n).timeReadings = s.timeReadings := rfl

/-! ### `taken` changes `link` alone -/

@[simp] theorem State.taken_pending (s : State) (p : Port) (t : Tag) (c : Instr) : (s.taken p t c).pending = s.pending := rfl
@[simp] theorem State.taken_weigh (s : State) (p : Port) (t : Tag) (c : Instr) : (s.taken p t c).weigh = s.weigh := rfl
@[simp] theorem State.taken_sealHigh (s : State) (p : Port) (t : Tag) (c : Instr) : (s.taken p t c).sealHigh = s.sealHigh := rfl
@[simp] theorem State.taken_plus (s : State) (p : Port) (t : Tag) (c : Instr) : (s.taken p t c).plus = s.plus := rfl
@[simp] theorem State.taken_pricing (s : State) (p : Port) (t : Tag) (c : Instr) : (s.taken p t c).pricing = s.pricing := rfl
@[simp] theorem State.taken_txn (s : State) (p : Port) (t : Tag) (c : Instr) : (s.taken p t c).txn = s.txn := rfl
@[simp] theorem State.taken_queue (s : State) (p : Port) (t : Tag) (c : Instr) : (s.taken p t c).queue = s.queue := rfl
@[simp] theorem State.taken_outlets (s : State) (p : Port) (t : Tag) (c : Instr) : (s.taken p t c).outlets = s.outlets := rfl
@[simp] theorem State.taken_totals (s : State) (p : Port) (t : Tag) (c : Instr) : (s.taken p t c).totals = s.totals := rfl
@[simp] theorem State.taken_clock (s : State) (p : Port) (t : Tag) (c : Instr) : (s.taken p t c).clock = s.clock := rfl
@[simp] theorem State.taken_transit (s : State) (p : Port) (t : Tag) (c : Instr) : (s.taken p t c).transit = s.transit := rfl
@[simp] theorem State.taken_timeReadings (s : State) (p : Port) (t : Tag) (c : Instr) : (s.taken p t c).timeReadings = s.timeReadings := rfl

/-! ### `transmitAll` changes `link` alone -/

@[simp] theorem State.transmitAll_pending (s : State) : (s.transmitAll).pending = s.pending := rfl
@[simp] theorem State.transmitAll_weigh (s : State) : (s.transmitAll).weigh = s.weigh := rfl
@[simp] theorem State.transmitAll_sealHigh (s : State) : (s.transmitAll).sealHigh = s.sealHigh := rfl
@[simp] theorem State.transmitAll_plus (s : State) : (s.transmitAll).plus = s.plus := rfl
@[simp] theorem State.transmitAll_pricing (s : State) : (s.transmitAll).pricing = s.pricing := rfl
@[simp] theorem State.transmitAll_txn (s : State) : (s.transmitAll).txn = s.txn := rfl
@[simp] theorem State.transmitAll_queue (s : State) : (s.transmitAll).queue = s.queue := rfl
@[simp] theorem State.transmitAll_outlets (s : State) : (s.transmitAll).outlets = s.outlets := rfl
@[simp] theorem State.transmitAll_totals (s : State) : (s.transmitAll).totals = s.totals := rfl
@[simp] theorem State.transmitAll_clock (s : State) : (s.transmitAll).clock = s.clock := rfl
@[simp] theorem State.transmitAll_transit (s : State) : (s.transmitAll).transit = s.transit := rfl
@[simp] theorem State.transmitAll_timeReadings (s : State) : (s.transmitAll).timeReadings = s.timeReadings := rfl

/-! ### `setChannel` changes `weigh` alone -/

@[simp] theorem State.setChannel_pending (s : State) (w : Platter) (c : Channel) : (s.setChannel w c).pending = s.pending := rfl
@[simp] theorem State.setChannel_link (s : State) (w : Platter) (c : Channel) : (s.setChannel w c).link = s.link := rfl
@[simp] theorem State.setChannel_sealHigh (s : State) (w : Platter) (c : Channel) : (s.setChannel w c).sealHigh = s.sealHigh := rfl
@[simp] theorem State.setChannel_plus (s : State) (w : Platter) (c : Channel) : (s.setChannel w c).plus = s.plus := rfl
@[simp] theorem State.setChannel_pricing (s : State) (w : Platter) (c : Channel) : (s.setChannel w c).pricing = s.pricing := rfl
@[simp] theorem State.setChannel_txn (s : State) (w : Platter) (c : Channel) : (s.setChannel w c).txn = s.txn := rfl
@[simp] theorem State.setChannel_queue (s : State) (w : Platter) (c : Channel) : (s.setChannel w c).queue = s.queue := rfl
@[simp] theorem State.setChannel_outlets (s : State) (w : Platter) (c : Channel) : (s.setChannel w c).outlets = s.outlets := rfl
@[simp] theorem State.setChannel_totals (s : State) (w : Platter) (c : Channel) : (s.setChannel w c).totals = s.totals := rfl
@[simp] theorem State.setChannel_clock (s : State) (w : Platter) (c : Channel) : (s.setChannel w c).clock = s.clock := rfl
@[simp] theorem State.setChannel_transit (s : State) (w : Platter) (c : Channel) : (s.setChannel w c).transit = s.transit := rfl
@[simp] theorem State.setChannel_timeReadings (s : State) (w : Platter) (c : Channel) : (s.setChannel w c).timeReadings = s.timeReadings := rfl

/-! ### `setPlu` changes `plus` alone -/

@[simp] theorem State.setPlu_pending (s : State) (r : PluRecord) : (s.setPlu r).pending = s.pending := rfl
@[simp] theorem State.setPlu_link (s : State) (r : PluRecord) : (s.setPlu r).link = s.link := rfl
@[simp] theorem State.setPlu_weigh (s : State) (r : PluRecord) : (s.setPlu r).weigh = s.weigh := rfl
@[simp] theorem State.setPlu_sealHigh (s : State) (r : PluRecord) : (s.setPlu r).sealHigh = s.sealHigh := rfl
@[simp] theorem State.setPlu_pricing (s : State) (r : PluRecord) : (s.setPlu r).pricing = s.pricing := rfl
@[simp] theorem State.setPlu_txn (s : State) (r : PluRecord) : (s.setPlu r).txn = s.txn := rfl
@[simp] theorem State.setPlu_queue (s : State) (r : PluRecord) : (s.setPlu r).queue = s.queue := rfl
@[simp] theorem State.setPlu_outlets (s : State) (r : PluRecord) : (s.setPlu r).outlets = s.outlets := rfl
@[simp] theorem State.setPlu_totals (s : State) (r : PluRecord) : (s.setPlu r).totals = s.totals := rfl
@[simp] theorem State.setPlu_clock (s : State) (r : PluRecord) : (s.setPlu r).clock = s.clock := rfl
@[simp] theorem State.setPlu_transit (s : State) (r : PluRecord) : (s.setPlu r).transit = s.transit := rfl
@[simp] theorem State.setPlu_timeReadings (s : State) (r : PluRecord) : (s.setPlu r).timeReadings = s.timeReadings := rfl

/-! ### `setTxn` changes `txn` alone -/

@[simp] theorem State.setTxn_pending (s : State) (x : Txn) : (s.setTxn x).pending = s.pending := rfl
@[simp] theorem State.setTxn_link (s : State) (x : Txn) : (s.setTxn x).link = s.link := rfl
@[simp] theorem State.setTxn_weigh (s : State) (x : Txn) : (s.setTxn x).weigh = s.weigh := rfl
@[simp] theorem State.setTxn_sealHigh (s : State) (x : Txn) : (s.setTxn x).sealHigh = s.sealHigh := rfl
@[simp] theorem State.setTxn_plus (s : State) (x : Txn) : (s.setTxn x).plus = s.plus := rfl
@[simp] theorem State.setTxn_pricing (s : State) (x : Txn) : (s.setTxn x).pricing = s.pricing := rfl
@[simp] theorem State.setTxn_queue (s : State) (x : Txn) : (s.setTxn x).queue = s.queue := rfl
@[simp] theorem State.setTxn_outlets (s : State) (x : Txn) : (s.setTxn x).outlets = s.outlets := rfl
@[simp] theorem State.setTxn_totals (s : State) (x : Txn) : (s.setTxn x).totals = s.totals := rfl
@[simp] theorem State.setTxn_clock (s : State) (x : Txn) : (s.setTxn x).clock = s.clock := rfl
@[simp] theorem State.setTxn_transit (s : State) (x : Txn) : (s.setTxn x).transit = s.transit := rfl
@[simp] theorem State.setTxn_timeReadings (s : State) (x : Txn) : (s.setTxn x).timeReadings = s.timeReadings := rfl

/-! ### `setClerk` changes `txn` alone -/

@[simp] theorem State.setClerk_pending (s : State) (c : ClerkNo) (k : Clerk) : (s.setClerk c k).pending = s.pending := rfl
@[simp] theorem State.setClerk_link (s : State) (c : ClerkNo) (k : Clerk) : (s.setClerk c k).link = s.link := rfl
@[simp] theorem State.setClerk_weigh (s : State) (c : ClerkNo) (k : Clerk) : (s.setClerk c k).weigh = s.weigh := rfl
@[simp] theorem State.setClerk_sealHigh (s : State) (c : ClerkNo) (k : Clerk) : (s.setClerk c k).sealHigh = s.sealHigh := rfl
@[simp] theorem State.setClerk_plus (s : State) (c : ClerkNo) (k : Clerk) : (s.setClerk c k).plus = s.plus := rfl
@[simp] theorem State.setClerk_pricing (s : State) (c : ClerkNo) (k : Clerk) : (s.setClerk c k).pricing = s.pricing := rfl
@[simp] theorem State.setClerk_queue (s : State) (c : ClerkNo) (k : Clerk) : (s.setClerk c k).queue = s.queue := rfl
@[simp] theorem State.setClerk_outlets (s : State) (c : ClerkNo) (k : Clerk) : (s.setClerk c k).outlets = s.outlets := rfl
@[simp] theorem State.setClerk_totals (s : State) (c : ClerkNo) (k : Clerk) : (s.setClerk c k).totals = s.totals := rfl
@[simp] theorem State.setClerk_clock (s : State) (c : ClerkNo) (k : Clerk) : (s.setClerk c k).clock = s.clock := rfl
@[simp] theorem State.setClerk_transit (s : State) (c : ClerkNo) (k : Clerk) : (s.setClerk c k).transit = s.transit := rfl
@[simp] theorem State.setClerk_timeReadings (s : State) (c : ClerkNo) (k : Clerk) : (s.setClerk c k).timeReadings = s.timeReadings := rfl

/-! ### `noteStation` changes `txn` alone -/

@[simp] theorem State.noteStation_pending (s : State) (c : ClerkNo) (p : Port) : (s.noteStation c p).pending = s.pending := rfl
@[simp] theorem State.noteStation_link (s : State) (c : ClerkNo) (p : Port) : (s.noteStation c p).link = s.link := rfl
@[simp] theorem State.noteStation_weigh (s : State) (c : ClerkNo) (p : Port) : (s.noteStation c p).weigh = s.weigh := rfl
@[simp] theorem State.noteStation_sealHigh (s : State) (c : ClerkNo) (p : Port) : (s.noteStation c p).sealHigh = s.sealHigh := rfl
@[simp] theorem State.noteStation_plus (s : State) (c : ClerkNo) (p : Port) : (s.noteStation c p).plus = s.plus := rfl
@[simp] theorem State.noteStation_pricing (s : State) (c : ClerkNo) (p : Port) : (s.noteStation c p).pricing = s.pricing := rfl
@[simp] theorem State.noteStation_queue (s : State) (c : ClerkNo) (p : Port) : (s.noteStation c p).queue = s.queue := rfl
@[simp] theorem State.noteStation_outlets (s : State) (c : ClerkNo) (p : Port) : (s.noteStation c p).outlets = s.outlets := rfl
@[simp] theorem State.noteStation_totals (s : State) (c : ClerkNo) (p : Port) : (s.noteStation c p).totals = s.totals := rfl
@[simp] theorem State.noteStation_clock (s : State) (c : ClerkNo) (p : Port) : (s.noteStation c p).clock = s.clock := rfl
@[simp] theorem State.noteStation_transit (s : State) (c : ClerkNo) (p : Port) : (s.noteStation c p).transit = s.transit := rfl
@[simp] theorem State.noteStation_timeReadings (s : State) (c : ClerkNo) (p : Port) : (s.noteStation c p).timeReadings = s.timeReadings := rfl

/-! ### `addClosed` changes `txn` alone -/

@[simp] theorem State.addClosed_pending (s : State) (e : ClosedEntry) : (s.addClosed e).pending = s.pending := rfl
@[simp] theorem State.addClosed_link (s : State) (e : ClosedEntry) : (s.addClosed e).link = s.link := rfl
@[simp] theorem State.addClosed_weigh (s : State) (e : ClosedEntry) : (s.addClosed e).weigh = s.weigh := rfl
@[simp] theorem State.addClosed_sealHigh (s : State) (e : ClosedEntry) : (s.addClosed e).sealHigh = s.sealHigh := rfl
@[simp] theorem State.addClosed_plus (s : State) (e : ClosedEntry) : (s.addClosed e).plus = s.plus := rfl
@[simp] theorem State.addClosed_pricing (s : State) (e : ClosedEntry) : (s.addClosed e).pricing = s.pricing := rfl
@[simp] theorem State.addClosed_queue (s : State) (e : ClosedEntry) : (s.addClosed e).queue = s.queue := rfl
@[simp] theorem State.addClosed_outlets (s : State) (e : ClosedEntry) : (s.addClosed e).outlets = s.outlets := rfl
@[simp] theorem State.addClosed_totals (s : State) (e : ClosedEntry) : (s.addClosed e).totals = s.totals := rfl
@[simp] theorem State.addClosed_clock (s : State) (e : ClosedEntry) : (s.addClosed e).clock = s.clock := rfl
@[simp] theorem State.addClosed_transit (s : State) (e : ClosedEntry) : (s.addClosed e).transit = s.transit := rfl
@[simp] theorem State.addClosed_timeReadings (s : State) (e : ClosedEntry) : (s.addClosed e).timeReadings = s.timeReadings := rfl

/-! ### `clearLabel` changes `txn` alone -/

@[simp] theorem State.clearLabel_pending (s : State) (o : OutletId) (job : Nat) : (s.clearLabel o job).pending = s.pending := rfl
@[simp] theorem State.clearLabel_link (s : State) (o : OutletId) (job : Nat) : (s.clearLabel o job).link = s.link := rfl
@[simp] theorem State.clearLabel_weigh (s : State) (o : OutletId) (job : Nat) : (s.clearLabel o job).weigh = s.weigh := rfl
@[simp] theorem State.clearLabel_sealHigh (s : State) (o : OutletId) (job : Nat) : (s.clearLabel o job).sealHigh = s.sealHigh := rfl
@[simp] theorem State.clearLabel_plus (s : State) (o : OutletId) (job : Nat) : (s.clearLabel o job).plus = s.plus := rfl
@[simp] theorem State.clearLabel_pricing (s : State) (o : OutletId) (job : Nat) : (s.clearLabel o job).pricing = s.pricing := rfl
@[simp] theorem State.clearLabel_queue (s : State) (o : OutletId) (job : Nat) : (s.clearLabel o job).queue = s.queue := rfl
@[simp] theorem State.clearLabel_outlets (s : State) (o : OutletId) (job : Nat) : (s.clearLabel o job).outlets = s.outlets := rfl
@[simp] theorem State.clearLabel_totals (s : State) (o : OutletId) (job : Nat) : (s.clearLabel o job).totals = s.totals := rfl
@[simp] theorem State.clearLabel_clock (s : State) (o : OutletId) (job : Nat) : (s.clearLabel o job).clock = s.clock := rfl
@[simp] theorem State.clearLabel_transit (s : State) (o : OutletId) (job : Nat) : (s.clearLabel o job).transit = s.transit := rfl
@[simp] theorem State.clearLabel_timeReadings (s : State) (o : OutletId) (job : Nat) : (s.clearLabel o job).timeReadings = s.timeReadings := rfl

/-! ### `mapQueue` changes `queue` alone -/

@[simp] theorem State.mapQueue_pending (s : State) (f : TicketQueue → TicketQueue) : (s.mapQueue f).pending = s.pending := rfl
@[simp] theorem State.mapQueue_link (s : State) (f : TicketQueue → TicketQueue) : (s.mapQueue f).link = s.link := rfl
@[simp] theorem State.mapQueue_weigh (s : State) (f : TicketQueue → TicketQueue) : (s.mapQueue f).weigh = s.weigh := rfl
@[simp] theorem State.mapQueue_sealHigh (s : State) (f : TicketQueue → TicketQueue) : (s.mapQueue f).sealHigh = s.sealHigh := rfl
@[simp] theorem State.mapQueue_plus (s : State) (f : TicketQueue → TicketQueue) : (s.mapQueue f).plus = s.plus := rfl
@[simp] theorem State.mapQueue_pricing (s : State) (f : TicketQueue → TicketQueue) : (s.mapQueue f).pricing = s.pricing := rfl
@[simp] theorem State.mapQueue_txn (s : State) (f : TicketQueue → TicketQueue) : (s.mapQueue f).txn = s.txn := rfl
@[simp] theorem State.mapQueue_outlets (s : State) (f : TicketQueue → TicketQueue) : (s.mapQueue f).outlets = s.outlets := rfl
@[simp] theorem State.mapQueue_totals (s : State) (f : TicketQueue → TicketQueue) : (s.mapQueue f).totals = s.totals := rfl
@[simp] theorem State.mapQueue_clock (s : State) (f : TicketQueue → TicketQueue) : (s.mapQueue f).clock = s.clock := rfl
@[simp] theorem State.mapQueue_transit (s : State) (f : TicketQueue → TicketQueue) : (s.mapQueue f).transit = s.transit := rfl
@[simp] theorem State.mapQueue_timeReadings (s : State) (f : TicketQueue → TicketQueue) : (s.mapQueue f).timeReadings = s.timeReadings := rfl

/-! ### `setClass` changes `queue` alone -/

@[simp] theorem State.setClass_pending (s : State) (k : TicketClass) (x : ClassRecord) : (s.setClass k x).pending = s.pending := rfl
@[simp] theorem State.setClass_link (s : State) (k : TicketClass) (x : ClassRecord) : (s.setClass k x).link = s.link := rfl
@[simp] theorem State.setClass_weigh (s : State) (k : TicketClass) (x : ClassRecord) : (s.setClass k x).weigh = s.weigh := rfl
@[simp] theorem State.setClass_sealHigh (s : State) (k : TicketClass) (x : ClassRecord) : (s.setClass k x).sealHigh = s.sealHigh := rfl
@[simp] theorem State.setClass_plus (s : State) (k : TicketClass) (x : ClassRecord) : (s.setClass k x).plus = s.plus := rfl
@[simp] theorem State.setClass_pricing (s : State) (k : TicketClass) (x : ClassRecord) : (s.setClass k x).pricing = s.pricing := rfl
@[simp] theorem State.setClass_txn (s : State) (k : TicketClass) (x : ClassRecord) : (s.setClass k x).txn = s.txn := rfl
@[simp] theorem State.setClass_outlets (s : State) (k : TicketClass) (x : ClassRecord) : (s.setClass k x).outlets = s.outlets := rfl
@[simp] theorem State.setClass_totals (s : State) (k : TicketClass) (x : ClassRecord) : (s.setClass k x).totals = s.totals := rfl
@[simp] theorem State.setClass_clock (s : State) (k : TicketClass) (x : ClassRecord) : (s.setClass k x).clock = s.clock := rfl
@[simp] theorem State.setClass_transit (s : State) (k : TicketClass) (x : ClassRecord) : (s.setClass k x).transit = s.transit := rfl
@[simp] theorem State.setClass_timeReadings (s : State) (k : TicketClass) (x : ClassRecord) : (s.setClass k x).timeReadings = s.timeReadings := rfl

/-! ### `setCalled` changes `queue` alone -/

@[simp] theorem State.setCalled_pending (s : State) (x : CalledTicket) : (s.setCalled x).pending = s.pending := rfl
@[simp] theorem State.setCalled_link (s : State) (x : CalledTicket) : (s.setCalled x).link = s.link := rfl
@[simp] theorem State.setCalled_weigh (s : State) (x : CalledTicket) : (s.setCalled x).weigh = s.weigh := rfl
@[simp] theorem State.setCalled_sealHigh (s : State) (x : CalledTicket) : (s.setCalled x).sealHigh = s.sealHigh := rfl
@[simp] theorem State.setCalled_plus (s : State) (x : CalledTicket) : (s.setCalled x).plus = s.plus := rfl
@[simp] theorem State.setCalled_pricing (s : State) (x : CalledTicket) : (s.setCalled x).pricing = s.pricing := rfl
@[simp] theorem State.setCalled_txn (s : State) (x : CalledTicket) : (s.setCalled x).txn = s.txn := rfl
@[simp] theorem State.setCalled_outlets (s : State) (x : CalledTicket) : (s.setCalled x).outlets = s.outlets := rfl
@[simp] theorem State.setCalled_totals (s : State) (x : CalledTicket) : (s.setCalled x).totals = s.totals := rfl
@[simp] theorem State.setCalled_clock (s : State) (x : CalledTicket) : (s.setCalled x).clock = s.clock := rfl
@[simp] theorem State.setCalled_transit (s : State) (x : CalledTicket) : (s.setCalled x).transit = s.transit := rfl
@[simp] theorem State.setCalled_timeReadings (s : State) (x : CalledTicket) : (s.setCalled x).timeReadings = s.timeReadings := rfl

/-! ### `dropCalled` changes `queue` alone -/

@[simp] theorem State.dropCalled_pending (s : State) (k : TicketId) : (s.dropCalled k).pending = s.pending := rfl
@[simp] theorem State.dropCalled_link (s : State) (k : TicketId) : (s.dropCalled k).link = s.link := rfl
@[simp] theorem State.dropCalled_weigh (s : State) (k : TicketId) : (s.dropCalled k).weigh = s.weigh := rfl
@[simp] theorem State.dropCalled_sealHigh (s : State) (k : TicketId) : (s.dropCalled k).sealHigh = s.sealHigh := rfl
@[simp] theorem State.dropCalled_plus (s : State) (k : TicketId) : (s.dropCalled k).plus = s.plus := rfl
@[simp] theorem State.dropCalled_pricing (s : State) (k : TicketId) : (s.dropCalled k).pricing = s.pricing := rfl
@[simp] theorem State.dropCalled_txn (s : State) (k : TicketId) : (s.dropCalled k).txn = s.txn := rfl
@[simp] theorem State.dropCalled_outlets (s : State) (k : TicketId) : (s.dropCalled k).outlets = s.outlets := rfl
@[simp] theorem State.dropCalled_totals (s : State) (k : TicketId) : (s.dropCalled k).totals = s.totals := rfl
@[simp] theorem State.dropCalled_clock (s : State) (k : TicketId) : (s.dropCalled k).clock = s.clock := rfl
@[simp] theorem State.dropCalled_transit (s : State) (k : TicketId) : (s.dropCalled k).transit = s.transit := rfl
@[simp] theorem State.dropCalled_timeReadings (s : State) (k : TicketId) : (s.dropCalled k).timeReadings = s.timeReadings := rfl

/-! ### `setLine` changes `queue` alone -/

@[simp] theorem State.setLine_pending (s : State) (d : DispenserLine) (x : DispenserState) : (s.setLine d x).pending = s.pending := rfl
@[simp] theorem State.setLine_link (s : State) (d : DispenserLine) (x : DispenserState) : (s.setLine d x).link = s.link := rfl
@[simp] theorem State.setLine_weigh (s : State) (d : DispenserLine) (x : DispenserState) : (s.setLine d x).weigh = s.weigh := rfl
@[simp] theorem State.setLine_sealHigh (s : State) (d : DispenserLine) (x : DispenserState) : (s.setLine d x).sealHigh = s.sealHigh := rfl
@[simp] theorem State.setLine_plus (s : State) (d : DispenserLine) (x : DispenserState) : (s.setLine d x).plus = s.plus := rfl
@[simp] theorem State.setLine_pricing (s : State) (d : DispenserLine) (x : DispenserState) : (s.setLine d x).pricing = s.pricing := rfl
@[simp] theorem State.setLine_txn (s : State) (d : DispenserLine) (x : DispenserState) : (s.setLine d x).txn = s.txn := rfl
@[simp] theorem State.setLine_outlets (s : State) (d : DispenserLine) (x : DispenserState) : (s.setLine d x).outlets = s.outlets := rfl
@[simp] theorem State.setLine_totals (s : State) (d : DispenserLine) (x : DispenserState) : (s.setLine d x).totals = s.totals := rfl
@[simp] theorem State.setLine_clock (s : State) (d : DispenserLine) (x : DispenserState) : (s.setLine d x).clock = s.clock := rfl
@[simp] theorem State.setLine_transit (s : State) (d : DispenserLine) (x : DispenserState) : (s.setLine d x).transit = s.transit := rfl
@[simp] theorem State.setLine_timeReadings (s : State) (d : DispenserLine) (x : DispenserState) : (s.setLine d x).timeReadings = s.timeReadings := rfl

/-! ### `setOutlet` changes `outlets` alone -/

@[simp] theorem State.setOutlet_pending (s : State) (o : OutletId) (x : Outlet) : (s.setOutlet o x).pending = s.pending := rfl
@[simp] theorem State.setOutlet_link (s : State) (o : OutletId) (x : Outlet) : (s.setOutlet o x).link = s.link := rfl
@[simp] theorem State.setOutlet_weigh (s : State) (o : OutletId) (x : Outlet) : (s.setOutlet o x).weigh = s.weigh := rfl
@[simp] theorem State.setOutlet_sealHigh (s : State) (o : OutletId) (x : Outlet) : (s.setOutlet o x).sealHigh = s.sealHigh := rfl
@[simp] theorem State.setOutlet_plus (s : State) (o : OutletId) (x : Outlet) : (s.setOutlet o x).plus = s.plus := rfl
@[simp] theorem State.setOutlet_pricing (s : State) (o : OutletId) (x : Outlet) : (s.setOutlet o x).pricing = s.pricing := rfl
@[simp] theorem State.setOutlet_txn (s : State) (o : OutletId) (x : Outlet) : (s.setOutlet o x).txn = s.txn := rfl
@[simp] theorem State.setOutlet_queue (s : State) (o : OutletId) (x : Outlet) : (s.setOutlet o x).queue = s.queue := rfl
@[simp] theorem State.setOutlet_totals (s : State) (o : OutletId) (x : Outlet) : (s.setOutlet o x).totals = s.totals := rfl
@[simp] theorem State.setOutlet_clock (s : State) (o : OutletId) (x : Outlet) : (s.setOutlet o x).clock = s.clock := rfl
@[simp] theorem State.setOutlet_transit (s : State) (o : OutletId) (x : Outlet) : (s.setOutlet o x).transit = s.transit := rfl
@[simp] theorem State.setOutlet_timeReadings (s : State) (o : OutletId) (x : Outlet) : (s.setOutlet o x).timeReadings = s.timeReadings := rfl

/-! ### `mapTotals` changes `totals` alone -/

@[simp] theorem State.mapTotals_pending (s : State) (f : Totals → Totals) : (s.mapTotals f).pending = s.pending := rfl
@[simp] theorem State.mapTotals_link (s : State) (f : Totals → Totals) : (s.mapTotals f).link = s.link := rfl
@[simp] theorem State.mapTotals_weigh (s : State) (f : Totals → Totals) : (s.mapTotals f).weigh = s.weigh := rfl
@[simp] theorem State.mapTotals_sealHigh (s : State) (f : Totals → Totals) : (s.mapTotals f).sealHigh = s.sealHigh := rfl
@[simp] theorem State.mapTotals_plus (s : State) (f : Totals → Totals) : (s.mapTotals f).plus = s.plus := rfl
@[simp] theorem State.mapTotals_pricing (s : State) (f : Totals → Totals) : (s.mapTotals f).pricing = s.pricing := rfl
@[simp] theorem State.mapTotals_txn (s : State) (f : Totals → Totals) : (s.mapTotals f).txn = s.txn := rfl
@[simp] theorem State.mapTotals_queue (s : State) (f : Totals → Totals) : (s.mapTotals f).queue = s.queue := rfl
@[simp] theorem State.mapTotals_outlets (s : State) (f : Totals → Totals) : (s.mapTotals f).outlets = s.outlets := rfl
@[simp] theorem State.mapTotals_clock (s : State) (f : Totals → Totals) : (s.mapTotals f).clock = s.clock := rfl
@[simp] theorem State.mapTotals_transit (s : State) (f : Totals → Totals) : (s.mapTotals f).transit = s.transit := rfl
@[simp] theorem State.mapTotals_timeReadings (s : State) (f : Totals → Totals) : (s.mapTotals f).timeReadings = s.timeReadings := rfl

/-! ### `withPending` changes `pending` alone -/

@[simp] theorem State.withPending_link (s : State) (cs : List Instr) : (s.withPending cs).link = s.link := rfl
@[simp] theorem State.withPending_weigh (s : State) (cs : List Instr) : (s.withPending cs).weigh = s.weigh := rfl
@[simp] theorem State.withPending_sealHigh (s : State) (cs : List Instr) : (s.withPending cs).sealHigh = s.sealHigh := rfl
@[simp] theorem State.withPending_plus (s : State) (cs : List Instr) : (s.withPending cs).plus = s.plus := rfl
@[simp] theorem State.withPending_pricing (s : State) (cs : List Instr) : (s.withPending cs).pricing = s.pricing := rfl
@[simp] theorem State.withPending_txn (s : State) (cs : List Instr) : (s.withPending cs).txn = s.txn := rfl
@[simp] theorem State.withPending_queue (s : State) (cs : List Instr) : (s.withPending cs).queue = s.queue := rfl
@[simp] theorem State.withPending_outlets (s : State) (cs : List Instr) : (s.withPending cs).outlets = s.outlets := rfl
@[simp] theorem State.withPending_totals (s : State) (cs : List Instr) : (s.withPending cs).totals = s.totals := rfl
@[simp] theorem State.withPending_clock (s : State) (cs : List Instr) : (s.withPending cs).clock = s.clock := rfl
@[simp] theorem State.withPending_transit (s : State) (cs : List Instr) : (s.withPending cs).transit = s.transit := rfl
@[simp] theorem State.withPending_timeReadings (s : State) (cs : List Instr) : (s.withPending cs).timeReadings = s.timeReadings := rfl

/-! ### The changed field -/

@[simp] theorem State.setLink_link (s : State) (p : Port) (l : Link) :
    (s.setLink p l).link = { s.link with links := s.link.links.set p l } := rfl
@[simp] theorem State.setChannel_weigh (s : State) (w : Platter) (c : Channel) :
    (s.setChannel w c).weigh = s.weigh.set w c := rfl
@[simp] theorem State.setOutlet_outlets (s : State) (o : OutletId) (x : Outlet) :
    (s.setOutlet o x).outlets = s.outlets.set o x := rfl
@[simp] theorem State.setPlu_plus (s : State) (r : PluRecord) :
    (s.setPlu r).plus = putPlu r s.plus := rfl
@[simp] theorem State.mapQueue_queue (s : State) (f : TicketQueue → TicketQueue) :
    (s.mapQueue f).queue = f s.queue := rfl
@[simp] theorem State.mapTotals_totals (s : State) (f : Totals → Totals) :
    (s.mapTotals f).totals = f s.totals := rfl
@[simp] theorem State.withPending_pending (s : State) (cs : List Instr) :
    (s.withPending cs).pending = cs := rfl
@[simp] theorem State.setTxn_held (s : State) (x : Txn) :
    (s.setTxn x).txn.held = putTxn x s.txn.held := rfl
@[simp] theorem State.setTxn_clerks (s : State) (x : Txn) :
    (s.setTxn x).txn.clerks = s.txn.clerks := rfl
@[simp] theorem State.setTxn_parked (s : State) (x : Txn) :
    (s.setTxn x).txn.parked = s.txn.parked := rfl
@[simp] theorem State.setTxn_closed (s : State) (x : Txn) :
    (s.setTxn x).txn.closed = s.txn.closed := rfl
@[simp] theorem State.setTxn_nextNumber (s : State) (x : Txn) :
    (s.setTxn x).txn.nextNumber = s.txn.nextNumber := rfl
@[simp] theorem State.setTxn_inFlight (s : State) (x : Txn) :
    (s.setTxn x).txn.inFlight = s.txn.inFlight := rfl
@[simp] theorem State.setTxn_nextRequest (s : State) (x : Txn) :
    (s.setTxn x).txn.nextRequest = s.txn.nextRequest := rfl
@[simp] theorem State.setTxn_routing (s : State) (x : Txn) :
    (s.setTxn x).txn.routing = s.txn.routing := rfl
@[simp] theorem State.setClerk_clerks (s : State) (c : ClerkNo) (k : Clerk) :
    (s.setClerk c k).txn.clerks = s.txn.clerks.set c k := rfl
@[simp] theorem State.setClerk_held (s : State) (c : ClerkNo) (k : Clerk) :
    (s.setClerk c k).txn.held = s.txn.held := rfl
@[simp] theorem State.setClerk_parked (s : State) (c : ClerkNo) (k : Clerk) :
    (s.setClerk c k).txn.parked = s.txn.parked := rfl
@[simp] theorem State.setClerk_closed (s : State) (c : ClerkNo) (k : Clerk) :
    (s.setClerk c k).txn.closed = s.txn.closed := rfl
@[simp] theorem State.setClerk_nextNumber (s : State) (c : ClerkNo) (k : Clerk) :
    (s.setClerk c k).txn.nextNumber = s.txn.nextNumber := rfl
@[simp] theorem State.setClerk_inFlight (s : State) (c : ClerkNo) (k : Clerk) :
    (s.setClerk c k).txn.inFlight = s.txn.inFlight := rfl
@[simp] theorem State.setClerk_nextRequest (s : State) (c : ClerkNo) (k : Clerk) :
    (s.setClerk c k).txn.nextRequest = s.txn.nextRequest := rfl
@[simp] theorem State.setClerk_routing (s : State) (c : ClerkNo) (k : Clerk) :
    (s.setClerk c k).txn.routing = s.txn.routing := rfl
@[simp] theorem State.mapLink_permissions (s : State) (p : Port) (f : Link → Link) :
    (s.mapLink p f).link.permissions = s.link.permissions := rfl
@[simp] theorem State.mapLink_priorities (s : State) (p : Port) (f : Link → Link) :
    (s.mapLink p f).link.priorities = s.link.priorities := rfl
@[simp] theorem State.mapLink_restart (s : State) (p : Port) (f : Link → Link) :
    (s.mapLink p f).link.restart = s.link.restart := rfl
@[simp] theorem State.transmitAll_permissions (s : State) :
    s.transmitAll.link.permissions = s.link.permissions := rfl
@[simp] theorem State.transmitAll_priorities (s : State) :
    s.transmitAll.link.priorities = s.link.priorities := rfl
@[simp] theorem State.transmitAll_restart (s : State) :
    s.transmitAll.link.restart = s.link.restart := rfl

/-! ### Parts read by name, of an update of another part -/

@[simp] theorem State.setLink_channel (s : State) (p' : Port) (l : Link) (w : Platter) :
    (s.setLink p' l).channel w = s.channel w := rfl
@[simp] theorem State.setLink_outletOf (s : State) (p' : Port) (l : Link) (o : OutletId) :
    (s.setLink p' l).outletOf o = s.outletOf o := rfl
@[simp] theorem State.setLink_now (s : State) (p' : Port) (l : Link) :
    (s.setLink p' l).now = s.now  := rfl
@[simp] theorem State.setLink_dayOpen (s : State) (p' : Port) (l : Link) :
    (s.setLink p' l).dayOpen = s.dayOpen  := rfl
@[simp] theorem State.setLink_clerk (s : State) (p' : Port) (l : Link) (k : ClerkNo) :
    (s.setLink p' l).clerk k = s.clerk k := rfl
@[simp] theorem State.setLink_findTxn (s : State) (p' : Port) (l : Link) (n : Nat) :
    (s.setLink p' l).findTxn n = s.findTxn n := rfl
@[simp] theorem State.setLink_openOf (s : State) (p' : Port) (l : Link) (k : ClerkNo) :
    (s.setLink p' l).openOf k = s.openOf k := rfl
@[simp] theorem State.setLink_classOf (s : State) (p' : Port) (l : Link) (k : TicketClass) :
    (s.setLink p' l).classOf k = s.classOf k := rfl
@[simp] theorem State.setLink_findCalled (s : State) (p' : Port) (l : Link) (k : TicketId) :
    (s.setLink p' l).findCalled k = s.findCalled k := rfl

@[simp] theorem State.mapLink_channel (s : State) (p' : Port) (f : Link → Link) (w : Platter) :
    (s.mapLink p' f).channel w = s.channel w := rfl
@[simp] theorem State.mapLink_outletOf (s : State) (p' : Port) (f : Link → Link) (o : OutletId) :
    (s.mapLink p' f).outletOf o = s.outletOf o := rfl
@[simp] theorem State.mapLink_now (s : State) (p' : Port) (f : Link → Link) :
    (s.mapLink p' f).now = s.now  := rfl
@[simp] theorem State.mapLink_dayOpen (s : State) (p' : Port) (f : Link → Link) :
    (s.mapLink p' f).dayOpen = s.dayOpen  := rfl
@[simp] theorem State.mapLink_clerk (s : State) (p' : Port) (f : Link → Link) (k : ClerkNo) :
    (s.mapLink p' f).clerk k = s.clerk k := rfl
@[simp] theorem State.mapLink_findTxn (s : State) (p' : Port) (f : Link → Link) (n : Nat) :
    (s.mapLink p' f).findTxn n = s.findTxn n := rfl
@[simp] theorem State.mapLink_openOf (s : State) (p' : Port) (f : Link → Link) (k : ClerkNo) :
    (s.mapLink p' f).openOf k = s.openOf k := rfl
@[simp] theorem State.mapLink_classOf (s : State) (p' : Port) (f : Link → Link) (k : TicketClass) :
    (s.mapLink p' f).classOf k = s.classOf k := rfl
@[simp] theorem State.mapLink_findCalled (s : State) (p' : Port) (f : Link → Link) (k : TicketId) :
    (s.mapLink p' f).findCalled k = s.findCalled k := rfl

@[simp] theorem State.notify_channel (s : State) (p' : Port) (n' : Notice) (w : Platter) :
    (s.notify p' n').channel w = s.channel w := rfl
@[simp] theorem State.notify_outletOf (s : State) (p' : Port) (n' : Notice) (o : OutletId) :
    (s.notify p' n').outletOf o = s.outletOf o := rfl
@[simp] theorem State.notify_now (s : State) (p' : Port) (n' : Notice) :
    (s.notify p' n').now = s.now  := rfl
@[simp] theorem State.notify_dayOpen (s : State) (p' : Port) (n' : Notice) :
    (s.notify p' n').dayOpen = s.dayOpen  := rfl
@[simp] theorem State.notify_clerk (s : State) (p' : Port) (n' : Notice) (k : ClerkNo) :
    (s.notify p' n').clerk k = s.clerk k := rfl
@[simp] theorem State.notify_findTxn (s : State) (p' : Port) (n' : Notice) (n : Nat) :
    (s.notify p' n').findTxn n = s.findTxn n := rfl
@[simp] theorem State.notify_openOf (s : State) (p' : Port) (n' : Notice) (k : ClerkNo) :
    (s.notify p' n').openOf k = s.openOf k := rfl
@[simp] theorem State.notify_classOf (s : State) (p' : Port) (n' : Notice) (k : TicketClass) :
    (s.notify p' n').classOf k = s.classOf k := rfl
@[simp] theorem State.notify_findCalled (s : State) (p' : Port) (n' : Notice) (k : TicketId) :
    (s.notify p' n').findCalled k = s.findCalled k := rfl

@[simp] theorem State.taken_channel (s : State) (p' : Port) (t : Tag) (c : Instr) (w : Platter) :
    (s.taken p' t c).channel w = s.channel w := rfl
@[simp] theorem State.taken_outletOf (s : State) (p' : Port) (t : Tag) (c : Instr) (o : OutletId) :
    (s.taken p' t c).outletOf o = s.outletOf o := rfl
@[simp] theorem State.taken_now (s : State) (p' : Port) (t : Tag) (c : Instr) :
    (s.taken p' t c).now = s.now  := rfl
@[simp] theorem State.taken_dayOpen (s : State) (p' : Port) (t : Tag) (c : Instr) :
    (s.taken p' t c).dayOpen = s.dayOpen  := rfl
@[simp] theorem State.taken_clerk (s : State) (p' : Port) (t : Tag) (c : Instr) (k : ClerkNo) :
    (s.taken p' t c).clerk k = s.clerk k := rfl
@[simp] theorem State.taken_findTxn (s : State) (p' : Port) (t : Tag) (c : Instr) (n : Nat) :
    (s.taken p' t c).findTxn n = s.findTxn n := rfl
@[simp] theorem State.taken_openOf (s : State) (p' : Port) (t : Tag) (c : Instr) (k : ClerkNo) :
    (s.taken p' t c).openOf k = s.openOf k := rfl
@[simp] theorem State.taken_classOf (s : State) (p' : Port) (t : Tag) (c : Instr) (k : TicketClass) :
    (s.taken p' t c).classOf k = s.classOf k := rfl
@[simp] theorem State.taken_findCalled (s : State) (p' : Port) (t : Tag) (c : Instr) (k : TicketId) :
    (s.taken p' t c).findCalled k = s.findCalled k := rfl

@[simp] theorem State.transmitAll_channel (s : State) (w : Platter) :
    (s.transmitAll).channel w = s.channel w := rfl
@[simp] theorem State.transmitAll_outletOf (s : State) (o : OutletId) :
    (s.transmitAll).outletOf o = s.outletOf o := rfl
@[simp] theorem State.transmitAll_now (s : State) :
    (s.transmitAll).now = s.now  := rfl
@[simp] theorem State.transmitAll_dayOpen (s : State) :
    (s.transmitAll).dayOpen = s.dayOpen  := rfl
@[simp] theorem State.transmitAll_clerk (s : State) (k : ClerkNo) :
    (s.transmitAll).clerk k = s.clerk k := rfl
@[simp] theorem State.transmitAll_findTxn (s : State) (n : Nat) :
    (s.transmitAll).findTxn n = s.findTxn n := rfl
@[simp] theorem State.transmitAll_openOf (s : State) (k : ClerkNo) :
    (s.transmitAll).openOf k = s.openOf k := rfl
@[simp] theorem State.transmitAll_classOf (s : State) (k : TicketClass) :
    (s.transmitAll).classOf k = s.classOf k := rfl
@[simp] theorem State.transmitAll_findCalled (s : State) (k : TicketId) :
    (s.transmitAll).findCalled k = s.findCalled k := rfl

@[simp] theorem State.setChannel_linkOf (s : State) (w' : Platter) (c : Channel) (p : Port) :
    (s.setChannel w' c).linkOf p = s.linkOf p := rfl
@[simp] theorem State.setChannel_outletOf (s : State) (w' : Platter) (c : Channel) (o : OutletId) :
    (s.setChannel w' c).outletOf o = s.outletOf o := rfl
@[simp] theorem State.setChannel_now (s : State) (w' : Platter) (c : Channel) :
    (s.setChannel w' c).now = s.now  := rfl
@[simp] theorem State.setChannel_dayOpen (s : State) (w' : Platter) (c : Channel) :
    (s.setChannel w' c).dayOpen = s.dayOpen  := rfl
@[simp] theorem State.setChannel_clerk (s : State) (w' : Platter) (c : Channel) (k : ClerkNo) :
    (s.setChannel w' c).clerk k = s.clerk k := rfl
@[simp] theorem State.setChannel_findTxn (s : State) (w' : Platter) (c : Channel) (n : Nat) :
    (s.setChannel w' c).findTxn n = s.findTxn n := rfl
@[simp] theorem State.setChannel_openOf (s : State) (w' : Platter) (c : Channel) (k : ClerkNo) :
    (s.setChannel w' c).openOf k = s.openOf k := rfl
@[simp] theorem State.setChannel_classOf (s : State) (w' : Platter) (c : Channel) (k : TicketClass) :
    (s.setChannel w' c).classOf k = s.classOf k := rfl
@[simp] theorem State.setChannel_findCalled (s : State) (w' : Platter) (c : Channel) (k : TicketId) :
    (s.setChannel w' c).findCalled k = s.findCalled k := rfl

@[simp] theorem State.setPlu_linkOf (s : State) (r : PluRecord) (p : Port) :
    (s.setPlu r).linkOf p = s.linkOf p := rfl
@[simp] theorem State.setPlu_channel (s : State) (r : PluRecord) (w : Platter) :
    (s.setPlu r).channel w = s.channel w := rfl
@[simp] theorem State.setPlu_outletOf (s : State) (r : PluRecord) (o : OutletId) :
    (s.setPlu r).outletOf o = s.outletOf o := rfl
@[simp] theorem State.setPlu_now (s : State) (r : PluRecord) :
    (s.setPlu r).now = s.now  := rfl
@[simp] theorem State.setPlu_dayOpen (s : State) (r : PluRecord) :
    (s.setPlu r).dayOpen = s.dayOpen  := rfl
@[simp] theorem State.setPlu_clerk (s : State) (r : PluRecord) (k : ClerkNo) :
    (s.setPlu r).clerk k = s.clerk k := rfl
@[simp] theorem State.setPlu_findTxn (s : State) (r : PluRecord) (n : Nat) :
    (s.setPlu r).findTxn n = s.findTxn n := rfl
@[simp] theorem State.setPlu_openOf (s : State) (r : PluRecord) (k : ClerkNo) :
    (s.setPlu r).openOf k = s.openOf k := rfl
@[simp] theorem State.setPlu_classOf (s : State) (r : PluRecord) (k : TicketClass) :
    (s.setPlu r).classOf k = s.classOf k := rfl
@[simp] theorem State.setPlu_findCalled (s : State) (r : PluRecord) (k : TicketId) :
    (s.setPlu r).findCalled k = s.findCalled k := rfl

@[simp] theorem State.setTxn_linkOf (s : State) (x : Txn) (p : Port) :
    (s.setTxn x).linkOf p = s.linkOf p := rfl
@[simp] theorem State.setTxn_channel (s : State) (x : Txn) (w : Platter) :
    (s.setTxn x).channel w = s.channel w := rfl
@[simp] theorem State.setTxn_outletOf (s : State) (x : Txn) (o : OutletId) :
    (s.setTxn x).outletOf o = s.outletOf o := rfl
@[simp] theorem State.setTxn_now (s : State) (x : Txn) :
    (s.setTxn x).now = s.now  := rfl
@[simp] theorem State.setTxn_dayOpen (s : State) (x : Txn) :
    (s.setTxn x).dayOpen = s.dayOpen  := rfl
@[simp] theorem State.setTxn_classOf (s : State) (x : Txn) (k : TicketClass) :
    (s.setTxn x).classOf k = s.classOf k := rfl
@[simp] theorem State.setTxn_findCalled (s : State) (x : Txn) (k : TicketId) :
    (s.setTxn x).findCalled k = s.findCalled k := rfl

@[simp] theorem State.setClerk_linkOf (s : State) (c' : ClerkNo) (k' : Clerk) (p : Port) :
    (s.setClerk c' k').linkOf p = s.linkOf p := rfl
@[simp] theorem State.setClerk_channel (s : State) (c' : ClerkNo) (k' : Clerk) (w : Platter) :
    (s.setClerk c' k').channel w = s.channel w := rfl
@[simp] theorem State.setClerk_outletOf (s : State) (c' : ClerkNo) (k' : Clerk) (o : OutletId) :
    (s.setClerk c' k').outletOf o = s.outletOf o := rfl
@[simp] theorem State.setClerk_now (s : State) (c' : ClerkNo) (k' : Clerk) :
    (s.setClerk c' k').now = s.now  := rfl
@[simp] theorem State.setClerk_dayOpen (s : State) (c' : ClerkNo) (k' : Clerk) :
    (s.setClerk c' k').dayOpen = s.dayOpen  := rfl
@[simp] theorem State.setClerk_classOf (s : State) (c' : ClerkNo) (k' : Clerk) (k : TicketClass) :
    (s.setClerk c' k').classOf k = s.classOf k := rfl
@[simp] theorem State.setClerk_findCalled (s : State) (c' : ClerkNo) (k' : Clerk) (k : TicketId) :
    (s.setClerk c' k').findCalled k = s.findCalled k := rfl

@[simp] theorem State.noteStation_linkOf (s : State) (c' : ClerkNo) (p' : Port) (p : Port) :
    (s.noteStation c' p').linkOf p = s.linkOf p := rfl
@[simp] theorem State.noteStation_channel (s : State) (c' : ClerkNo) (p' : Port) (w : Platter) :
    (s.noteStation c' p').channel w = s.channel w := rfl
@[simp] theorem State.noteStation_outletOf (s : State) (c' : ClerkNo) (p' : Port) (o : OutletId) :
    (s.noteStation c' p').outletOf o = s.outletOf o := rfl
@[simp] theorem State.noteStation_now (s : State) (c' : ClerkNo) (p' : Port) :
    (s.noteStation c' p').now = s.now  := rfl
@[simp] theorem State.noteStation_dayOpen (s : State) (c' : ClerkNo) (p' : Port) :
    (s.noteStation c' p').dayOpen = s.dayOpen  := rfl
@[simp] theorem State.noteStation_classOf (s : State) (c' : ClerkNo) (p' : Port) (k : TicketClass) :
    (s.noteStation c' p').classOf k = s.classOf k := rfl
@[simp] theorem State.noteStation_findCalled (s : State) (c' : ClerkNo) (p' : Port) (k : TicketId) :
    (s.noteStation c' p').findCalled k = s.findCalled k := rfl

@[simp] theorem State.addClosed_linkOf (s : State) (e : ClosedEntry) (p : Port) :
    (s.addClosed e).linkOf p = s.linkOf p := rfl
@[simp] theorem State.addClosed_channel (s : State) (e : ClosedEntry) (w : Platter) :
    (s.addClosed e).channel w = s.channel w := rfl
@[simp] theorem State.addClosed_outletOf (s : State) (e : ClosedEntry) (o : OutletId) :
    (s.addClosed e).outletOf o = s.outletOf o := rfl
@[simp] theorem State.addClosed_now (s : State) (e : ClosedEntry) :
    (s.addClosed e).now = s.now  := rfl
@[simp] theorem State.addClosed_dayOpen (s : State) (e : ClosedEntry) :
    (s.addClosed e).dayOpen = s.dayOpen  := rfl
@[simp] theorem State.addClosed_classOf (s : State) (e : ClosedEntry) (k : TicketClass) :
    (s.addClosed e).classOf k = s.classOf k := rfl
@[simp] theorem State.addClosed_findCalled (s : State) (e : ClosedEntry) (k : TicketId) :
    (s.addClosed e).findCalled k = s.findCalled k := rfl

@[simp] theorem State.clearLabel_linkOf (s : State) (o' : OutletId) (job : Nat) (p : Port) :
    (s.clearLabel o' job).linkOf p = s.linkOf p := rfl
@[simp] theorem State.clearLabel_channel (s : State) (o' : OutletId) (job : Nat) (w : Platter) :
    (s.clearLabel o' job).channel w = s.channel w := rfl
@[simp] theorem State.clearLabel_outletOf (s : State) (o' : OutletId) (job : Nat) (o : OutletId) :
    (s.clearLabel o' job).outletOf o = s.outletOf o := rfl
@[simp] theorem State.clearLabel_now (s : State) (o' : OutletId) (job : Nat) :
    (s.clearLabel o' job).now = s.now  := rfl
@[simp] theorem State.clearLabel_dayOpen (s : State) (o' : OutletId) (job : Nat) :
    (s.clearLabel o' job).dayOpen = s.dayOpen  := rfl
@[simp] theorem State.clearLabel_classOf (s : State) (o' : OutletId) (job : Nat) (k : TicketClass) :
    (s.clearLabel o' job).classOf k = s.classOf k := rfl
@[simp] theorem State.clearLabel_findCalled (s : State) (o' : OutletId) (job : Nat) (k : TicketId) :
    (s.clearLabel o' job).findCalled k = s.findCalled k := rfl

@[simp] theorem State.mapQueue_linkOf (s : State) (f : TicketQueue → TicketQueue) (p : Port) :
    (s.mapQueue f).linkOf p = s.linkOf p := rfl
@[simp] theorem State.mapQueue_channel (s : State) (f : TicketQueue → TicketQueue) (w : Platter) :
    (s.mapQueue f).channel w = s.channel w := rfl
@[simp] theorem State.mapQueue_outletOf (s : State) (f : TicketQueue → TicketQueue) (o : OutletId) :
    (s.mapQueue f).outletOf o = s.outletOf o := rfl
@[simp] theorem State.mapQueue_now (s : State) (f : TicketQueue → TicketQueue) :
    (s.mapQueue f).now = s.now  := rfl
@[simp] theorem State.mapQueue_dayOpen (s : State) (f : TicketQueue → TicketQueue) :
    (s.mapQueue f).dayOpen = s.dayOpen  := rfl
@[simp] theorem State.mapQueue_clerk (s : State) (f : TicketQueue → TicketQueue) (k : ClerkNo) :
    (s.mapQueue f).clerk k = s.clerk k := rfl
@[simp] theorem State.mapQueue_findTxn (s : State) (f : TicketQueue → TicketQueue) (n : Nat) :
    (s.mapQueue f).findTxn n = s.findTxn n := rfl
@[simp] theorem State.mapQueue_openOf (s : State) (f : TicketQueue → TicketQueue) (k : ClerkNo) :
    (s.mapQueue f).openOf k = s.openOf k := rfl

@[simp] theorem State.setClass_linkOf (s : State) (k' : TicketClass) (x : ClassRecord) (p : Port) :
    (s.setClass k' x).linkOf p = s.linkOf p := rfl
@[simp] theorem State.setClass_channel (s : State) (k' : TicketClass) (x : ClassRecord) (w : Platter) :
    (s.setClass k' x).channel w = s.channel w := rfl
@[simp] theorem State.setClass_outletOf (s : State) (k' : TicketClass) (x : ClassRecord) (o : OutletId) :
    (s.setClass k' x).outletOf o = s.outletOf o := rfl
@[simp] theorem State.setClass_now (s : State) (k' : TicketClass) (x : ClassRecord) :
    (s.setClass k' x).now = s.now  := rfl
@[simp] theorem State.setClass_dayOpen (s : State) (k' : TicketClass) (x : ClassRecord) :
    (s.setClass k' x).dayOpen = s.dayOpen  := rfl
@[simp] theorem State.setClass_clerk (s : State) (k' : TicketClass) (x : ClassRecord) (k : ClerkNo) :
    (s.setClass k' x).clerk k = s.clerk k := rfl
@[simp] theorem State.setClass_findTxn (s : State) (k' : TicketClass) (x : ClassRecord) (n : Nat) :
    (s.setClass k' x).findTxn n = s.findTxn n := rfl
@[simp] theorem State.setClass_openOf (s : State) (k' : TicketClass) (x : ClassRecord) (k : ClerkNo) :
    (s.setClass k' x).openOf k = s.openOf k := rfl

@[simp] theorem State.setCalled_linkOf (s : State) (x : CalledTicket) (p : Port) :
    (s.setCalled x).linkOf p = s.linkOf p := rfl
@[simp] theorem State.setCalled_channel (s : State) (x : CalledTicket) (w : Platter) :
    (s.setCalled x).channel w = s.channel w := rfl
@[simp] theorem State.setCalled_outletOf (s : State) (x : CalledTicket) (o : OutletId) :
    (s.setCalled x).outletOf o = s.outletOf o := rfl
@[simp] theorem State.setCalled_now (s : State) (x : CalledTicket) :
    (s.setCalled x).now = s.now  := rfl
@[simp] theorem State.setCalled_dayOpen (s : State) (x : CalledTicket) :
    (s.setCalled x).dayOpen = s.dayOpen  := rfl
@[simp] theorem State.setCalled_clerk (s : State) (x : CalledTicket) (k : ClerkNo) :
    (s.setCalled x).clerk k = s.clerk k := rfl
@[simp] theorem State.setCalled_findTxn (s : State) (x : CalledTicket) (n : Nat) :
    (s.setCalled x).findTxn n = s.findTxn n := rfl
@[simp] theorem State.setCalled_openOf (s : State) (x : CalledTicket) (k : ClerkNo) :
    (s.setCalled x).openOf k = s.openOf k := rfl

@[simp] theorem State.dropCalled_linkOf (s : State) (k' : TicketId) (p : Port) :
    (s.dropCalled k').linkOf p = s.linkOf p := rfl
@[simp] theorem State.dropCalled_channel (s : State) (k' : TicketId) (w : Platter) :
    (s.dropCalled k').channel w = s.channel w := rfl
@[simp] theorem State.dropCalled_outletOf (s : State) (k' : TicketId) (o : OutletId) :
    (s.dropCalled k').outletOf o = s.outletOf o := rfl
@[simp] theorem State.dropCalled_now (s : State) (k' : TicketId) :
    (s.dropCalled k').now = s.now  := rfl
@[simp] theorem State.dropCalled_dayOpen (s : State) (k' : TicketId) :
    (s.dropCalled k').dayOpen = s.dayOpen  := rfl
@[simp] theorem State.dropCalled_clerk (s : State) (k' : TicketId) (k : ClerkNo) :
    (s.dropCalled k').clerk k = s.clerk k := rfl
@[simp] theorem State.dropCalled_findTxn (s : State) (k' : TicketId) (n : Nat) :
    (s.dropCalled k').findTxn n = s.findTxn n := rfl
@[simp] theorem State.dropCalled_openOf (s : State) (k' : TicketId) (k : ClerkNo) :
    (s.dropCalled k').openOf k = s.openOf k := rfl

@[simp] theorem State.setLine_linkOf (s : State) (d : DispenserLine) (x : DispenserState) (p : Port) :
    (s.setLine d x).linkOf p = s.linkOf p := rfl
@[simp] theorem State.setLine_channel (s : State) (d : DispenserLine) (x : DispenserState) (w : Platter) :
    (s.setLine d x).channel w = s.channel w := rfl
@[simp] theorem State.setLine_outletOf (s : State) (d : DispenserLine) (x : DispenserState) (o : OutletId) :
    (s.setLine d x).outletOf o = s.outletOf o := rfl
@[simp] theorem State.setLine_now (s : State) (d : DispenserLine) (x : DispenserState) :
    (s.setLine d x).now = s.now  := rfl
@[simp] theorem State.setLine_dayOpen (s : State) (d : DispenserLine) (x : DispenserState) :
    (s.setLine d x).dayOpen = s.dayOpen  := rfl
@[simp] theorem State.setLine_clerk (s : State) (d : DispenserLine) (x : DispenserState) (k : ClerkNo) :
    (s.setLine d x).clerk k = s.clerk k := rfl
@[simp] theorem State.setLine_findTxn (s : State) (d : DispenserLine) (x : DispenserState) (n : Nat) :
    (s.setLine d x).findTxn n = s.findTxn n := rfl
@[simp] theorem State.setLine_openOf (s : State) (d : DispenserLine) (x : DispenserState) (k : ClerkNo) :
    (s.setLine d x).openOf k = s.openOf k := rfl

@[simp] theorem State.setOutlet_linkOf (s : State) (o' : OutletId) (x : Outlet) (p : Port) :
    (s.setOutlet o' x).linkOf p = s.linkOf p := rfl
@[simp] theorem State.setOutlet_channel (s : State) (o' : OutletId) (x : Outlet) (w : Platter) :
    (s.setOutlet o' x).channel w = s.channel w := rfl
@[simp] theorem State.setOutlet_now (s : State) (o' : OutletId) (x : Outlet) :
    (s.setOutlet o' x).now = s.now  := rfl
@[simp] theorem State.setOutlet_dayOpen (s : State) (o' : OutletId) (x : Outlet) :
    (s.setOutlet o' x).dayOpen = s.dayOpen  := rfl
@[simp] theorem State.setOutlet_clerk (s : State) (o' : OutletId) (x : Outlet) (k : ClerkNo) :
    (s.setOutlet o' x).clerk k = s.clerk k := rfl
@[simp] theorem State.setOutlet_findTxn (s : State) (o' : OutletId) (x : Outlet) (n : Nat) :
    (s.setOutlet o' x).findTxn n = s.findTxn n := rfl
@[simp] theorem State.setOutlet_openOf (s : State) (o' : OutletId) (x : Outlet) (k : ClerkNo) :
    (s.setOutlet o' x).openOf k = s.openOf k := rfl
@[simp] theorem State.setOutlet_classOf (s : State) (o' : OutletId) (x : Outlet) (k : TicketClass) :
    (s.setOutlet o' x).classOf k = s.classOf k := rfl
@[simp] theorem State.setOutlet_findCalled (s : State) (o' : OutletId) (x : Outlet) (k : TicketId) :
    (s.setOutlet o' x).findCalled k = s.findCalled k := rfl

@[simp] theorem State.mapTotals_linkOf (s : State) (f : Totals → Totals) (p : Port) :
    (s.mapTotals f).linkOf p = s.linkOf p := rfl
@[simp] theorem State.mapTotals_channel (s : State) (f : Totals → Totals) (w : Platter) :
    (s.mapTotals f).channel w = s.channel w := rfl
@[simp] theorem State.mapTotals_outletOf (s : State) (f : Totals → Totals) (o : OutletId) :
    (s.mapTotals f).outletOf o = s.outletOf o := rfl
@[simp] theorem State.mapTotals_now (s : State) (f : Totals → Totals) :
    (s.mapTotals f).now = s.now  := rfl
@[simp] theorem State.mapTotals_clerk (s : State) (f : Totals → Totals) (k : ClerkNo) :
    (s.mapTotals f).clerk k = s.clerk k := rfl
@[simp] theorem State.mapTotals_findTxn (s : State) (f : Totals → Totals) (n : Nat) :
    (s.mapTotals f).findTxn n = s.findTxn n := rfl
@[simp] theorem State.mapTotals_openOf (s : State) (f : Totals → Totals) (k : ClerkNo) :
    (s.mapTotals f).openOf k = s.openOf k := rfl
@[simp] theorem State.mapTotals_classOf (s : State) (f : Totals → Totals) (k : TicketClass) :
    (s.mapTotals f).classOf k = s.classOf k := rfl
@[simp] theorem State.mapTotals_findCalled (s : State) (f : Totals → Totals) (k : TicketId) :
    (s.mapTotals f).findCalled k = s.findCalled k := rfl

@[simp] theorem State.withPending_linkOf (s : State) (cs : List Instr) (p : Port) :
    (s.withPending cs).linkOf p = s.linkOf p := rfl
@[simp] theorem State.withPending_channel (s : State) (cs : List Instr) (w : Platter) :
    (s.withPending cs).channel w = s.channel w := rfl
@[simp] theorem State.withPending_outletOf (s : State) (cs : List Instr) (o : OutletId) :
    (s.withPending cs).outletOf o = s.outletOf o := rfl
@[simp] theorem State.withPending_now (s : State) (cs : List Instr) :
    (s.withPending cs).now = s.now  := rfl
@[simp] theorem State.withPending_dayOpen (s : State) (cs : List Instr) :
    (s.withPending cs).dayOpen = s.dayOpen  := rfl
@[simp] theorem State.withPending_clerk (s : State) (cs : List Instr) (k : ClerkNo) :
    (s.withPending cs).clerk k = s.clerk k := rfl
@[simp] theorem State.withPending_findTxn (s : State) (cs : List Instr) (n : Nat) :
    (s.withPending cs).findTxn n = s.findTxn n := rfl
@[simp] theorem State.withPending_openOf (s : State) (cs : List Instr) (k : ClerkNo) :
    (s.withPending cs).openOf k = s.openOf k := rfl
@[simp] theorem State.withPending_classOf (s : State) (cs : List Instr) (k : TicketClass) :
    (s.withPending cs).classOf k = s.classOf k := rfl
@[simp] theorem State.withPending_findCalled (s : State) (cs : List Instr) (k : TicketId) :
    (s.withPending cs).findCalled k = s.findCalled k := rfl

end Sys2Proof.Machine
end

