-- ==== Sys2Proof/Laws/Tables.lean ====
section
/-! SUPPORT. Reading a table after one of its values was replaced, and the two list operations that change or take the
first entry passing a test. -/

namespace Sys2Proof

variable {α : Type}

@[simp] theorem PerStation.get_set_same (m : PerStation α) (s : Station) (x : α) : (m.set s x).get s = x := by cases s <;> rfl

theorem PerStation.get_set_of_ne (m : PerStation α) {s s' : Station} (x : α) (h : s' ≠ s) : (m.set s x).get s' = m.get s' := by
  cases s <;> cases s' <;> first | rfl | exact absurd rfl h

theorem PerStation.get_set (m : PerStation α) (s s' : Station) (x : α) :
    (m.set s x).get s' = if s' = s then x else m.get s' := by
  split
  · next h => rw [h, PerStation.get_set_same]
  · next h => exact PerStation.get_set_of_ne m x h

@[simp] theorem PerStation.set_set (m : PerStation α) (s : Station) (x y : α) : (m.set s x).set s y = m.set s y := by cases s <;> rfl

@[simp] theorem PerStation.set_get (m : PerStation α) (s : Station) : m.set s (m.get s) = m := by cases s <;> rfl

@[simp] theorem PerPlatter.get_set_same (m : PerPlatter α) (w : Platter) (x : α) : (m.set w x).get w = x := by cases w <;> rfl

theorem PerPlatter.get_set_of_ne (m : PerPlatter α) {w w' : Platter} (x : α) (h : w' ≠ w) : (m.set w x).get w' = m.get w' := by
  cases w <;> cases w' <;> first | rfl | exact absurd rfl h

theorem PerPlatter.get_set (m : PerPlatter α) (w w' : Platter) (x : α) :
    (m.set w x).get w' = if w' = w then x else m.get w' := by
  split
  · next h => rw [h, PerPlatter.get_set_same]
  · next h => exact PerPlatter.get_set_of_ne m x h

@[simp] theorem PerPlatter.set_set (m : PerPlatter α) (w : Platter) (x y : α) : (m.set w x).set w y = m.set w y := by cases w <;> rfl

@[simp] theorem PerPlatter.set_get (m : PerPlatter α) (w : Platter) : m.set w (m.get w) = m := by cases w <;> rfl

@[simp] theorem PerOutlet.get_set_same (m : PerOutlet α) (o : OutletId) (x : α) : (m.set o x).get o = x := by cases o <;> rfl

theorem PerOutlet.get_set_of_ne (m : PerOutlet α) {o o' : OutletId} (x : α) (h : o' ≠ o) : (m.set o x).get o' = m.get o' := by
  cases o <;> cases o' <;> first | rfl | exact absurd rfl h

theorem PerOutlet.get_set (m : PerOutlet α) (o o' : OutletId) (x : α) :
    (m.set o x).get o' = if o' = o then x else m.get o' := by
  split
  · next h => rw [h, PerOutlet.get_set_same]
  · next h => exact PerOutlet.get_set_of_ne m x h

@[simp] theorem PerOutlet.set_set (m : PerOutlet α) (o : OutletId) (x y : α) : (m.set o x).set o y = m.set o y := by cases o <;> rfl

@[simp] theorem PerOutlet.set_get (m : PerOutlet α) (o : OutletId) : m.set o (m.get o) = m := by cases o <;> rfl

@[simp] theorem PerClass.get_set_same (m : PerClass α) (k : TicketClass) (x : α) : (m.set k x).get k = x := by cases k <;> rfl

theorem PerClass.get_set_of_ne (m : PerClass α) {k k' : TicketClass} (x : α) (h : k' ≠ k) : (m.set k x).get k' = m.get k' := by
  cases k <;> cases k' <;> first | rfl | exact absurd rfl h

theorem PerClass.get_set (m : PerClass α) (k k' : TicketClass) (x : α) :
    (m.set k x).get k' = if k' = k then x else m.get k' := by
  split
  · next h => rw [h, PerClass.get_set_same]
  · next h => exact PerClass.get_set_of_ne m x h

@[simp] theorem PerClass.set_set (m : PerClass α) (k : TicketClass) (x y : α) : (m.set k x).set k y = m.set k y := by cases k <;> rfl

@[simp] theorem PerClass.set_get (m : PerClass α) (k : TicketClass) : m.set k (m.get k) = m := by cases k <;> rfl

@[simp] theorem PerLine.get_set_same (m : PerLine α) (d : DispenserLine) (x : α) : (m.set d x).get d = x := by cases d <;> rfl

theorem PerLine.get_set_of_ne (m : PerLine α) {d d' : DispenserLine} (x : α) (h : d' ≠ d) : (m.set d x).get d' = m.get d' := by
  cases d <;> cases d' <;> first | rfl | exact absurd rfl h

theorem PerLine.get_set (m : PerLine α) (d d' : DispenserLine) (x : α) :
    (m.set d x).get d' = if d' = d then x else m.get d' := by
  split
  · next h => rw [h, PerLine.get_set_same]
  · next h => exact PerLine.get_set_of_ne m x h

@[simp] theorem PerLine.set_set (m : PerLine α) (d : DispenserLine) (x y : α) : (m.set d x).set d y = m.set d y := by cases d <;> rfl

@[simp] theorem PerLine.set_get (m : PerLine α) (d : DispenserLine) : m.set d (m.get d) = m := by cases d <;> rfl

@[simp] theorem PerPort.get_set_same (m : PerPort α) (p : Port) (x : α) : (m.set p x).get p = x := by
  cases p <;> simp [PerPort.set, PerPort.get]

theorem PerPort.get_set_of_ne (m : PerPort α) {p p' : Port} (x : α) (h : p' ≠ p) : (m.set p x).get p' = m.get p' := by
  cases p <;> cases p' <;> simp_all [PerPort.set, PerPort.get, PerStation.get_set_of_ne]

theorem PerPort.get_set (m : PerPort α) (p p' : Port) (x : α) :
    (m.set p x).get p' = if p' = p then x else m.get p' := by
  split
  · next h => rw [h, PerPort.get_set_same]
  · next h => exact PerPort.get_set_of_ne m x h

@[simp] theorem PerPort.set_set (m : PerPort α) (p : Port) (x y : α) : (m.set p x).set p y = m.set p y := by
  cases p <;> simp [PerPort.set]

@[simp] theorem PerPort.set_get (m : PerPort α) (p : Port) : m.set p (m.get p) = m := by
  cases p <;> simp [PerPort.set, PerPort.get]

theorem PerPort.ext_get {m m' : PerPort α} (h : ∀ p, m.get p = m'.get p) : m = m' := by
  obtain ⟨⟨a1, a2, a3, a4, a5, a6⟩, a7⟩ := m
  obtain ⟨⟨b1, b2, b3, b4, b5, b6⟩, b7⟩ := m'
  have h1 := h (.station .s1); have h2 := h (.station .s2); have h3 := h (.station .s3); have h4 := h (.station .s4)
  have h5 := h (.station .s5); have h6 := h (.station .s6); have h7 := h .office
  simp_all [PerPort.get, PerStation.get]

/-! ### Changing and taking the first entry that passes a test -/

theorem updateFirst_length (test : α → Bool) (f : α → α) (xs : List α) : (updateFirst test f xs).length = xs.length := by
  induction xs with
  | nil => rfl
  | cons x xs ih => simp only [updateFirst]; split <;> simp [ih]

theorem updateFirst_of_none {test : α → Bool} (f : α → α) {xs : List α} (h : ∀ x ∈ xs, test x = false) :
    updateFirst test f xs = xs := by
  induction xs with
  | nil => rfl
  | cons x xs ih =>
    have hx := h x (by simp)
    simp only [updateFirst, hx, Bool.false_eq_true, if_false, ih fun y hy => h y (by simp [hy])]

theorem mem_updateFirst {test : α → Bool} {f : α → α} {xs : List α} {y : α} (h : y ∈ updateFirst test f xs) :
    y ∈ xs ∨ ∃ x ∈ xs, test x = true ∧ y = f x := by
  induction xs with
  | nil => simp [updateFirst] at h
  | cons x xs ih =>
    simp only [updateFirst] at h
    split at h
    · next hx =>
      rcases List.mem_cons.1 h with rfl | hy
      · exact .inr ⟨x, by simp, hx, rfl⟩
      · exact .inl (by simp [hy])
    · rcases List.mem_cons.1 h with rfl | hy
      · exact .inl (by simp)
      · rcases ih hy with hy | ⟨z, hz, ht, rfl⟩
        · exact .inl (by simp [hy])
        · exact .inr ⟨z, by simp [hz], ht, rfl⟩

/-- What `takeFirst` answers: the entry passes the test, none before it does, and the rest keeps its order. -/
theorem takeFirst_eq_some {test : α → Bool} {xs rest : List α} {x : α} (h : takeFirst test xs = some (x, rest)) :
    ∃ before after, xs = before ++ x :: after ∧ rest = before ++ after ∧ test x = true ∧ ∀ y ∈ before, test y = false := by
  induction xs generalizing x rest with
  | nil => simp [takeFirst] at h
  | cons z zs ih =>
    simp only [takeFirst] at h
    split at h
    · next hz =>
      obtain ⟨rfl, rfl⟩ := by simpa using h
      exact ⟨[], zs, by simp, by simp, hz, by simp⟩
    · next hz =>
      cases ht : takeFirst test zs with
      | none => simp [ht] at h
      | some r =>
        obtain ⟨y, ys⟩ := r
        obtain ⟨rfl, rfl⟩ : y = x ∧ z :: ys = rest := by simpa [ht] using h
        obtain ⟨before, after, rfl, rfl, hx, hb⟩ := ih ht
        refine ⟨z :: before, after, by simp, by simp, hx, fun w hw => ?_⟩
        rcases List.mem_cons.1 hw with rfl | hw
        · simpa using hz
        · exact hb w hw

theorem takeFirst_eq_none {test : α → Bool} {xs : List α} (h : takeFirst test xs = none) : ∀ x ∈ xs, test x = false := by
  induction xs with
  | nil => simp
  | cons z zs ih =>
    simp only [takeFirst] at h
    split at h
    · simp at h
    · next hz =>
      cases ht : takeFirst test zs with
      | some r => simp [ht] at h
      | none =>
        intro x hx
        rcases List.mem_cons.1 hx with rfl | hx
        · simpa using hz
        · exact ih ht x hx

theorem takeFirst_of_head {test : α → Bool} {x : α} {xs : List α} (h : test x = true) :
    takeFirst test (x :: xs) = some (x, xs) := by simp [takeFirst, h]

end Sys2Proof
end

