-- ==== Sys2Proof/Laws/Traffic.lean ====
section
/-! SUPPORT. What the shared operations on links do: the transmitters, the taking of a request, its reply, a notice. -/

namespace Sys2Proof.Machine

/-! ### One link -/

@[simp] theorem State.linkOf_setLink_same (s : State) (p : Port) (l : Link) : (s.setLink p l).linkOf p = l := by
  simp [State.linkOf, State.setLink]

theorem State.linkOf_setLink_of_ne (s : State) {p q : Port} (l : Link) (h : q ≠ p) :
    (s.setLink p l).linkOf q = s.linkOf q := by
  simp [State.linkOf, State.setLink, PerPort.get_set_of_ne _ _ h]

@[simp] theorem State.linkOf_mapLink_same (s : State) (p : Port) (f : Link → Link) :
    (s.mapLink p f).linkOf p = f (s.linkOf p) := by simp [State.mapLink]

theorem State.linkOf_mapLink_of_ne (s : State) {p q : Port} (f : Link → Link) (h : q ≠ p) :
    (s.mapLink p f).linkOf q = s.linkOf q := by simp [State.mapLink, State.linkOf_setLink_of_ne _ _ h]

theorem State.linkOf_mapLink (s : State) (p q : Port) (f : Link → Link) :
    (s.mapLink p f).linkOf q = if q = p then f (s.linkOf q) else s.linkOf q := by
  split
  · next h => rw [h, State.linkOf_mapLink_same]
  · next h => exact State.linkOf_mapLink_of_ne s f h

theorem State.mapLink_mapLink (s : State) (p : Port) (f g : Link → Link) :
    (s.mapLink p f).mapLink p g = s.mapLink p (fun l => g (f l)) := by
  simp [State.mapLink, State.setLink, State.linkOf]

/-- Two changes of links that commute on one link commute. -/
theorem State.mapLink_comm (s : State) (p q : Port) (f g : Link → Link) (h : ∀ l, f (g l) = g (f l)) :
    (s.mapLink p f).mapLink q g = (s.mapLink q g).mapLink p f := by
  by_cases hpq : p = q
  · subst hpq
    simp [State.mapLink_mapLink, h]
  · have hqp : q ≠ p := fun e => hpq e.symm
    simp only [State.mapLink, State.setLink, State.linkOf, PerPort.get_set_of_ne _ _ hqp, PerPort.get_set_of_ne _ _ hpq]
    congr 2
    apply PerPort.ext_get
    intro r
    simp only [PerPort.get_set]
    split
    · next hr => subst hr; simp [hqp]
    · rfl

/-! ### The transmitters (R12) -/

/-- A transmitter that starts, or not, moves a frame and nothing else. -/
theorem Link.startTransmitter_sameTraffic (l : Link) : l.sameTraffic l.startTransmitter := by
  unfold Link.startTransmitter
  split
  · next h =>
    split
    · next hr => simp [Link.sameTraffic, Link.still, Link.replies, Link.outbox, Link.unreported, h.2, hr]
    · next hr =>
      split
      · next hn => simp [Link.sameTraffic, Link.still, Link.replies, Link.outbox, Link.unreported, h.2, hr, hn]
      · simp [Link.sameTraffic]
  · simp [Link.sameTraffic]

/-- What a transmitter's start can do. -/
theorem Link.startTransmitter_cases (l : Link) :
    (∃ r rest, l.state = .up ∧ l.tx = none ∧ l.ready = r :: rest ∧
      l.startTransmitter = { l with ready := rest, tx := some (.reply r) }) ∨
    (∃ n rest, l.state = .up ∧ l.tx = none ∧ l.ready = [] ∧ l.notices = n :: rest ∧
      l.startTransmitter = { l with notices := rest, tx := some (.notice n l.dropped), dropped := 0 }) ∨
    (l.startTransmitter = l ∧ (l.state ≠ .up ∨ l.tx ≠ none ∨ (l.ready = [] ∧ l.notices = []))) := by
  unfold Link.startTransmitter
  split
  · next h =>
    split
    · next r rest hr => exact .inl ⟨r, rest, h.1, h.2, hr, rfl⟩
    · next hr =>
      split
      · next n rest hn => exact .inr (.inl ⟨n, rest, h.1, h.2, hr, hn, rfl⟩)
      · next hn => exact .inr (.inr ⟨rfl, .inr (.inr ⟨hr, hn⟩)⟩)
  · next h =>
    refine .inr (.inr ⟨rfl, ?_⟩)
    by_cases hu : l.state = .up
    · exact .inr (.inl fun ht => h ⟨hu, ht⟩)
    · exact .inl hu

@[simp] theorem Link.startTransmitter_state (l : Link) : l.startTransmitter.state = l.state := by
  rcases l.startTransmitter_cases with ⟨_, _, _, _, _, h⟩ | ⟨_, _, _, _, _, _, h⟩ | ⟨h, _⟩ <;> rw [h]

@[simp] theorem Link.startTransmitter_slots (l : Link) : l.startTransmitter.slots = l.slots := by
  rcases l.startTransmitter_cases with ⟨_, _, _, _, _, h⟩ | ⟨_, _, _, _, _, _, h⟩ | ⟨h, _⟩ <;> rw [h]

@[simp] theorem Link.startTransmitter_threshold (l : Link) : l.startTransmitter.threshold = l.threshold := by
  rcases l.startTransmitter_cases with ⟨_, _, _, _, _, h⟩ | ⟨_, _, _, _, _, _, h⟩ | ⟨h, _⟩ <;> rw [h]

@[simp] theorem Link.startTransmitter_buffer (l : Link) : l.startTransmitter.buffer = l.buffer := by
  rcases l.startTransmitter_cases with ⟨_, _, _, _, _, h⟩ | ⟨_, _, _, _, _, _, h⟩ | ⟨h, _⟩ <;> rw [h]

@[simp] theorem State.transmitAll_linkOf (s : State) (p : Port) :
    s.transmitAll.linkOf p = (s.linkOf p).startTransmitter := by
  cases p with
  | office => rfl
  | station st => cases st <;> rfl

theorem Link.sameTraffic_refl (l : Link) : l.sameTraffic l := ⟨rfl, rfl, rfl, rfl⟩

theorem State.upToTransmitters_refl (s : State) : s.upToTransmitters s :=
  ⟨rfl, rfl, rfl, rfl, fun _ => Link.sameTraffic_refl _⟩

/-- The end of every command: the state is what the command left, but for transmitters that start. -/
theorem State.upToTransmitters_transmitAll (s : State) : s.upToTransmitters s.transmitAll := by
  refine ⟨rfl, rfl, rfl, rfl, fun q => ?_⟩
  rw [State.transmitAll_linkOf]
  exact Link.startTransmitter_sameTraffic _

theorem leaves_of_done {c : Instr} {s u : State} (h : exec c s = done u) : Leaves c s u :=
  ⟨u.transmitAll, h, u.upToTransmitters_transmitAll⟩

theorem leaves_of_next {c : Instr} {s u : State} (h : exec c s = .next u.transmitAll) : Leaves c s u :=
  ⟨u.transmitAll, h, u.upToTransmitters_transmitAll⟩

/-! ### Taking a request and replying to it (R6, R7, R11) -/

theorem takeRequest_of_awaits {p : Port} {t : Tag} {c : Instr} {s : State} {effect : Requester → State → State}
    (h : s.awaits p t c = true) :
    takeRequest p t c s effect = .next (effect ⟨p, t, requestCode c⟩ (s.taken p t c)).transmitAll := by
  simp [takeRequest, h]

/-- A request that its slot holds ready to be taken has no dropped twin on its way. -/
theorem State.awaitsDropped_of_awaits {s : State} {p : Port} {t : Tag} {c : Instr} (h : s.awaits p t c = true) :
    s.awaitsDropped p t c = false := by
  have hn : s.transit.cancellations.filter (Cancellation.precedes p t c) = [] := by
    simp only [State.awaits, Bool.and_eq_true, Bool.not_eq_true', List.any_eq_false] at h
    exact List.filter_eq_nil_iff.2 h.2
  simp [State.awaitsDropped, hn]

theorem takeRequest_of_dropped {p : Port} {t : Tag} {c : Instr} {s : State} {effect : Requester → State → State}
    (h : s.awaitsDropped p t c = true) :
    takeRequest p t c s effect = .next (effect ⟨p, t, requestCode c⟩ (s.takenDropped p t c)).transmitAll := by
  have : s.awaits p t c = false := by
    by_contra ha
    rw [State.awaitsDropped_of_awaits (by simpa using ha)] at h; simp at h
  simp [takeRequest, h, this]

theorem takeRequest_of_not_awaits {p : Port} {t : Tag} {c : Instr} {s : State} {effect : Requester → State → State}
    (h : s.awaits p t c = false) (hd : s.awaitsDropped p t c = false) : takeRequest p t c s effect = .next s := by
  simp [takeRequest, h, hd]

/-- What taking a request can do. -/
theorem takeRequest_cases (p : Port) (t : Tag) (c : Instr) (s : State) (effect : Requester → State → State) :
    (s.awaits p t c = true ∧
      takeRequest p t c s effect = .next (effect ⟨p, t, requestCode c⟩ (s.taken p t c)).transmitAll) ∨
    (s.awaitsDropped p t c = true ∧
      takeRequest p t c s effect = .next (effect ⟨p, t, requestCode c⟩ (s.takenDropped p t c)).transmitAll) ∨
    (s.awaits p t c = false ∧ s.awaitsDropped p t c = false ∧ takeRequest p t c s effect = .next s) := by
  cases ha : s.awaits p t c with
  | true => exact .inl ⟨rfl, takeRequest_of_awaits ha⟩
  | false =>
    cases hd : s.awaitsDropped p t c with
    | true => exact .inr (.inl ⟨rfl, takeRequest_of_dropped hd⟩)
    | false => exact .inr (.inr ⟨rfl, rfl, takeRequest_of_not_awaits ha hd⟩)

/-- Slots with distinct tags: the request that waits is the one of its tag, and taking and answering it marks it. -/
theorem slots_answered (t : Tag) (c : Instr) :
    ∀ slots : List Slot, slots.Pairwise (fun x y => x.tag ≠ y.tag) → slots.any (Slot.awaits t c) = true →
      (updateFirst (Slot.awaits t c) (fun x => { x with phase := .taken }) slots).any
          (Slot.waitsFor ⟨p, t, requestCode c⟩) = true ∧
      updateFirst (Slot.waitsFor ⟨p, t, requestCode c⟩) (fun x => { x with phase := .ready })
          (updateFirst (Slot.awaits t c) (fun x => { x with phase := .taken }) slots) =
        updateFirst (fun x => x.tag = t && x.request = c) (fun x => { x with phase := .ready }) slots
  | [], _, h => by simp at h
  | x :: xs, hd, h => by
    obtain ⟨hx, hxs⟩ := List.pairwise_cons.1 hd
    by_cases ha : Slot.awaits t c x = true
    · obtain ⟨⟨ht, hp⟩, hc⟩ : (x.tag = t ∧ x.phase = .admitted) ∧ x.request = c := by simpa [Slot.awaits] using ha
      simp [updateFirst, ha, Slot.waitsFor, ht, hc]
    · have hrest : xs.any (Slot.awaits t c) = true := by simpa [ha] using h
      obtain ⟨y, hy, hya⟩ := List.any_eq_true.1 hrest
      have hne : x.tag ≠ t := by
        have hty : y.tag = t := by
          have : (y.tag = t ∧ y.phase = .admitted) ∧ y.request = c := by simpa [Slot.awaits] using hya
          exact this.1.1
        exact hty ▸ hx y hy
      obtain ⟨h1, h2⟩ := slots_answered (p := p) t c xs hxs hrest
      refine ⟨?_, ?_⟩
      · simp [updateFirst, ha, h1]
      · simp [updateFirst, ha, Slot.waitsFor, hne]
        simpa [Slot.waitsFor] using h2

/-- Slots with distinct tags: taking the request that waits marks the one of its tag. -/
theorem slots_taken (t : Tag) (c : Instr) :
    ∀ slots : List Slot, slots.Pairwise (fun x y => x.tag ≠ y.tag) → slots.any (Slot.awaits t c) = true →
      updateFirst (Slot.awaits t c) (fun x => { x with phase := .taken }) slots =
        updateFirst (fun x => x.tag = t && x.request = c) (fun x => { x with phase := .taken }) slots
  | [], _, h => by simp at h
  | x :: xs, hd, h => by
    obtain ⟨hx, hxs⟩ := List.pairwise_cons.1 hd
    by_cases ha : Slot.awaits t c x = true
    · obtain ⟨⟨ht, hp⟩, hc⟩ : (x.tag = t ∧ x.phase = .admitted) ∧ x.request = c := by simpa [Slot.awaits] using ha
      simp [updateFirst, ha, ht, hc]
    · have hrest : xs.any (Slot.awaits t c) = true := by simpa [ha] using h
      obtain ⟨y, hy, hya⟩ := List.any_eq_true.1 hrest
      have hne : x.tag ≠ t := by
        have hty : y.tag = t := by
          have : (y.tag = t ∧ y.phase = .admitted) ∧ y.request = c := by simpa [Slot.awaits] using hya
          exact this.1.1
        exact hty ▸ hx y hy
      simp [updateFirst, ha, hne, slots_taken t c xs hxs hrest]

theorem mem_all_ports (p : Port) : p ∈ Port.all := by
  cases p with
  | office => decide
  | station st => cases st <;> decide

/-- No request to the block was admitted before a place and is still on its way (R7). -/
theorem State.overtakes_eq_false {s : State} {order : Nat} {c : Instr} :
    s.overtakes order c = false ↔
      (∀ q, ∀ y ∈ (s.linkOf q).slots, y.heads c = true → order ≤ y.order) ∧
      ∀ y ∈ s.transit.cancellations, y.heads c = true → order ≤ y.order := by
  simp [State.overtakes, mem_all_ports]

/-- A request there to be taken stands before every other request on its way to its block (R7). -/
theorem State.awaits_first {s : State} {p : Port} {t : Tag} {c : Instr} (h : s.awaits p t c = true) :
    ∃ x ∈ (s.linkOf p).slots, x.awaits t c = true ∧
      (∀ q, ∀ y ∈ (s.linkOf q).slots, y.heads c = true → x.order ≤ y.order) ∧
      ∀ y ∈ s.transit.cancellations, y.heads c = true → x.order ≤ y.order := by
  simp only [State.awaits, Bool.and_eq_true] at h
  obtain ⟨x, hx, ha⟩ := List.any_eq_true.1 h.1
  simp only [Bool.and_eq_true, Bool.not_eq_true'] at ha
  exact ⟨x, hx, ha.1, State.overtakes_eq_false.1 ha.2⟩

theorem State.awaits_slot {s : State} {p : Port} {t : Tag} {c : Instr} (h : s.awaits p t c = true) :
    (s.linkOf p).slots.any (Slot.awaits t c) = true := by
  obtain ⟨x, hx, ha, -⟩ := State.awaits_first h
  exact List.any_eq_true.2 ⟨x, hx, ha⟩

/-- No cancellation that names the waiting request is on its way. -/
theorem State.awaits_uncancelled {s : State} {p : Port} {t : Tag} {c : Instr} (h : s.awaits p t c = true) :
    s.transit.cancellations.any (Cancellation.names ⟨p, t, requestCode c⟩) = false := by
  simp only [State.awaits, Bool.and_eq_true, Bool.not_eq_true', List.any_eq_false] at h
  rw [List.any_eq_false]
  intro x hx
  have := h.2 x hx
  simp only [Cancellation.precedes, Bool.and_eq_true, Bool.or_eq_true, decide_eq_true_eq, not_and, not_or] at this
  simp only [Cancellation.names, Bool.and_eq_true, decide_eq_true_eq]
  intro ⟨⟨h1, h2⟩, h3⟩
  exact (this h1).2 h2 h3

/-- The reply of a request that was just taken reaches its slot. -/
theorem State.reply_taken {v : State} {p : Port} {t : Tag} {c : Instr} (result : Result) (payload : Payload)
    (hd : (v.linkOf p).slots.Pairwise fun x y => x.tag ≠ y.tag)
    (ha : (v.linkOf p).slots.any (Slot.awaits t c) = true)
    (hu : v.transit.cancellations.any (Cancellation.names ⟨p, t, requestCode c⟩) = false) :
    (v.taken p t c).reply ⟨p, t, requestCode c⟩ result payload =
      v.mapLink p (fun l => l.answered t c (replyAt v t c result payload)) := by
  obtain ⟨h1, h2⟩ := slots_answered (p := p) t c _ hd ha
  unfold State.reply
  simp only [State.taken_transit, hu, Bool.false_eq_true, if_false]
  rw [State.taken, State.mapLink_mapLink]
  show v.setLink p _ = v.setLink p _
  simp only [Link.takeReply, Link.answered, h1, h2, if_true]
  rfl

/-- A request answered at once: `f` is what it does to the state it finds, `g` what it does after its reply; both leave
alone the taking and the answering of the request. -/
theorem answers_of {c : Instr} {p : Port} {t : Tag} {s u : State} {result : Result} {payload : Payload}
    (hl : s.LinkLaw) (ha : s.awaits p t c = true) (hs : (u.linkOf p).slots = (s.linkOf p).slots)
    (hc : u.transit.cancellations = s.transit.cancellations)
    (he : exec c s = .next ((u.taken p t c).reply ⟨p, t, requestCode c⟩ result payload).transmitAll) :
    Answers c p t s result payload u := by
  have hd : (u.linkOf p).slots.Pairwise fun x y => x.tag ≠ y.tag := hs ▸ (hl.1 p).tags
  refine ⟨_, he, ?_⟩
  rw [State.reply_taken result payload hd (hs ▸ State.awaits_slot ha) (hc ▸ State.awaits_uncancelled ha)]
  exact State.upToTransmitters_transmitAll _

/-- A request taken whose reply is still to come. -/
theorem defers_of {c : Instr} {p : Port} {t : Tag} {s u : State} (hl : s.LinkLaw) (ha : s.awaits p t c = true)
    (hs : (u.linkOf p).slots = (s.linkOf p).slots) (he : exec c s = .next (u.taken p t c).transmitAll) :
    Defers c p t s u := by
  have hd : (u.linkOf p).slots.Pairwise fun x y => x.tag ≠ y.tag := hs ▸ (hl.1 p).tags
  have hau : (u.linkOf p).slots.any (Slot.awaits t c) = true := hs ▸ State.awaits_slot ha
  refine ⟨_, he, ?_⟩
  have : u.taken p t c = u.mapLink p fun l => l.pending t c := by
    show u.setLink p _ = u.setLink p _
    simp only [Link.pending, slots_taken t c _ hd hau]
  rw [this]
  exact State.upToTransmitters_transmitAll _

/-! ### Notices (R16) -/

/-- What handing a notice to a link can do. -/
theorem Link.queueNotice_cases (k : Nat) (n : Notice) (l : Link) :
    (l.queueNotice k n = l ∧ (l.state ≠ .up ∨ k < l.threshold)) ∨
    (l.state = .up ∧ l.threshold ≤ k ∧ n.weightPlatter.isSome ∧
      l.queueNotice k n =
        { l with notices := updateFirst (fun x => x.weightPlatter = n.weightPlatter) (fun _ => n) l.notices }) ∨
    (l.state = .up ∧ l.threshold ≤ k ∧ l.notices.length < Config.noticeQueue ∧
      l.queueNotice k n = { l with notices := l.notices ++ [n] }) ∨
    (l.state = .up ∧ l.threshold ≤ k ∧ Config.noticeQueue ≤ l.notices.length ∧
      l.queueNotice k n =
        { l with notices := l.notices.drop 1 ++ [n], dropped := saturate Config.droppedCap l.dropped }) := by
  unfold Link.queueNotice
  split
  · next h => exact .inl ⟨rfl, .inl h⟩
  next h =>
  have hu : l.state = .up := by simpa using h
  split
  · next h => exact .inl ⟨rfl, .inr h⟩
  next hk =>
  have hk' : l.threshold ≤ k := Nat.le_of_not_lt hk
  split
  · next hw => exact .inr (.inl ⟨hu, hk', hw.1, rfl⟩)
  · unfold Link.joinNotice
    split
    · next hn => exact .inr (.inr (.inl ⟨hu, hk', hn, rfl⟩))
    · next hn => exact .inr (.inr (.inr ⟨hu, hk', Nat.le_of_not_lt hn, rfl⟩))

@[simp] theorem Link.queueNotice_slots (k : Nat) (n : Notice) (l : Link) : (l.queueNotice k n).slots = l.slots := by
  rcases Link.queueNotice_cases k n l with ⟨h, -⟩ | ⟨-, -, -, h⟩ | ⟨-, -, -, h⟩ | ⟨-, -, -, h⟩ <;> rw [h]

@[simp] theorem Link.queueNotice_state (k : Nat) (n : Notice) (l : Link) : (l.queueNotice k n).state = l.state := by
  rcases Link.queueNotice_cases k n l with ⟨h, -⟩ | ⟨-, -, -, h⟩ | ⟨-, -, -, h⟩ | ⟨-, -, -, h⟩ <;> rw [h]

/-- Taking a request's slot and queuing a notice do not meet. -/
theorem Link.queueNotice_slots_comm (k : Nat) (n : Notice) (f : List Slot → List Slot) (l : Link) :
    ({ l with slots := f l.slots } : Link).queueNotice k n =
      { l.queueNotice k n with slots := f (l.queueNotice k n).slots } := by
  rw [Link.queueNotice_slots]
  unfold Link.queueNotice Link.joinNotice
  split
  · rfl
  split
  · rfl
  split
  · rfl
  · split <;> rfl

/-- Handing a notice to a port does not meet the taking of a request. -/
theorem State.notify_taken (s : State) (p q : Port) (t : Tag) (c : Instr) (n : Notice) :
    (s.taken p t c).notify q n = (s.notify q n).taken p t c := by
  unfold State.notify State.taken
  exact State.mapLink_comm s p q _ _ fun l => (Link.queueNotice_slots_comm _ n _ l).symm

theorem State.notifyAll_taken (ps : List Port) (s : State) (p : Port) (t : Tag) (c : Instr) (n : Notice) :
    (s.taken p t c).notifyAll ps n = (s.notifyAll ps n).taken p t c := by
  induction ps generalizing s with
  | nil => rfl
  | cons q qs ih => simpa [State.notifyAll, State.notify_taken] using ih (s.notify q n)

@[simp] theorem State.notify_slots (s : State) (p q : Port) (n : Notice) :
    ((s.notify q n).linkOf p).slots = (s.linkOf p).slots := by
  unfold State.notify
  rw [State.linkOf_mapLink]
  split <;> simp

@[simp] theorem State.notifyAll_slots (ps : List Port) (s : State) (p : Port) (n : Notice) :
    ((s.notifyAll ps n).linkOf p).slots = (s.linkOf p).slots := by
  induction ps generalizing s with
  | nil => rfl
  | cons q qs ih => simpa [State.notifyAll] using ih (s.notify q n)

/-- A link takes a reply and a notice in either order. -/
theorem Link.takeReply_queueNotice (l : Link) (r : Requester) (reply : Reply) (k : Nat) (n : Notice) :
    (l.queueNotice k n).takeReply r reply = (l.takeReply r reply).queueNotice k n := by
  unfold Link.takeReply
  rw [Link.queueNotice_slots]
  split
  · unfold Link.queueNotice Link.joinNotice
    split
    · rfl
    split
    · rfl
    split
    · rfl
    split <;> rfl
  · rfl

/-- A reply waiting on a link and a notice handed to one do not meet. -/
theorem State.notify_reply (s : State) (r : Requester) (q : Port) (n : Notice) (result : Result) (payload : Payload) :
    (s.reply r result payload).notify q n = (s.notify q n).reply r result payload := by
  have hn : (s.notify q n).replyNow r result payload = s.replyNow r result payload := rfl
  unfold State.reply
  rw [State.notify_transit, hn]
  split
  · rfl
  · unfold State.notify
    rw [State.mapLink_priorities]
    exact State.mapLink_comm s r.port q _ _ fun l => Link.takeReply_queueNotice l _ _ _ _

end Sys2Proof.Machine
end

