-- ==== Sys2Proof/Laws/Channels.lean ====
section
/-! SUPPORT. What the shared operations on a weighing channel do: the report check, the ends of a hold and of an
operation, and how they stand to the taking and the answering of a request. -/

namespace Sys2Proof.Machine

@[simp] theorem State.channel_setChannel_same (s : State) (w : Platter) (c : Channel) : (s.setChannel w c).channel w = c := by
  simp [State.channel, State.setChannel]

theorem State.channel_setChannel_of_ne (s : State) {w x : Platter} (c : Channel) (h : x ≠ w) :
    (s.setChannel w c).channel x = s.channel x := by
  simp [State.channel, State.setChannel, PerPlatter.get_set_of_ne _ _ h]

@[simp] theorem State.setChannel_setChannel (s : State) (w : Platter) (c d : Channel) :
    (s.setChannel w c).setChannel w d = s.setChannel w d := by
  simp [State.setChannel]

theorem State.setChannel_taken (s : State) (p : Port) (t : Tag) (c : Instr) (w : Platter) (x : Channel) :
    (s.taken p t c).setChannel w x = (s.setChannel w x).taken p t c := rfl

/-- Taking a request does not change the state of any link. -/
@[simp] theorem State.taken_linkState (s : State) (p : Port) (t : Tag) (c : Instr) (q : Port) :
    ((s.taken p t c).linkOf q).state = (s.linkOf q).state := by
  unfold State.taken; rw [State.linkOf_mapLink]; split <;> rfl

@[simp] theorem State.notify_linkState (s : State) (p q : Port) (n : Notice) :
    ((s.notify q n).linkOf p).state = (s.linkOf p).state := by
  unfold State.notify; rw [State.linkOf_mapLink]; split <;> simp

/-- A reply touches one link, and no link's state. -/
theorem State.reply_cases (s : State) (r : Requester) (result : Result) (payload : Payload) :
    s.reply r result payload = s ∨
      s.reply r result payload = s.mapLink r.port (fun l => l.takeReply r (s.replyNow r result payload)) := by
  unfold State.reply; split
  · exact .inl rfl
  · exact .inr rfl

@[simp] theorem State.reply_linkState (s : State) (r : Requester) (result : Result) (payload : Payload) (q : Port) :
    ((s.reply r result payload).linkOf q).state = (s.linkOf q).state := by
  rcases s.reply_cases r result payload with h | h <;> rw [h]
  rw [State.linkOf_mapLink]
  split
  · unfold Link.takeReply; split <;> rfl
  · rfl

@[simp] theorem State.reply_channel (s : State) (r : Requester) (result : Result) (payload : Payload) (w : Platter) :
    (s.reply r result payload).channel w = s.channel w := by
  rcases s.reply_cases r result payload with h | h <;> rw [h] <;> rfl

/-- A reply and a change of a channel do not meet. -/
theorem State.setChannel_reply (s : State) (r : Requester) (result : Result) (payload : Payload) (w : Platter)
    (c : Channel) : (s.reply r result payload).setChannel w c = (s.setChannel w c).reply r result payload := by
  unfold State.reply
  show (if _ then _ else _ : State).setChannel w c = if s.transit.cancellations.any _ then _ else _
  split <;> rfl

/-! ### Report checks (R40, R41) -/

/-- What a report check can do. -/
theorem State.reportCheck_cases (s : State) (w : Platter) :
    (∃ lastSent timer flag, s.reportCheck w =
      s.setChannel w { s.channel w with lastSent := lastSent, reportTimer := timer, reportPending := flag }) ∨
    (∃ home n lastSent timer, s.reportCheck w =
      (s.setChannel w { s.channel w with lastSent := lastSent, reportTimer := timer }).notify home n) := by
  unfold State.reportCheck
  dsimp only
  split
  · exact .inl ⟨_, _, _, rfl⟩
  · split
    · unfold State.sendReport
      dsimp only
      split
      · exact .inr ⟨_, _, _, _, rfl⟩
      · exact .inl ⟨_, _, _, rfl⟩
    · exact .inl ⟨_, _, _, rfl⟩

@[simp] theorem State.reportCheck_slots (s : State) (w : Platter) (p : Port) :
    ((s.reportCheck w).linkOf p).slots = (s.linkOf p).slots := by
  rcases s.reportCheck_cases w with ⟨_, _, _, h⟩ | ⟨_, _, _, _, h⟩ <;> rw [h] <;> simp

@[simp] theorem State.reportCheck_transit (s : State) (w : Platter) : (s.reportCheck w).transit = s.transit := by
  rcases s.reportCheck_cases w with ⟨_, _, _, h⟩ | ⟨_, _, _, _, h⟩ <;> rw [h] <;> rfl

/-- A report check does not meet the taking of a request. -/
theorem State.reportCheck_taken (s : State) (w : Platter) (p : Port) (t : Tag) (c : Instr) :
    (s.taken p t c).reportCheck w = (s.reportCheck w).taken p t c := by
  unfold State.reportCheck State.sendReport
  simp only [State.taken_channel, State.taken_linkState, State.setChannel_taken, State.notify_taken]
  split
  · rfl
  · split
    · split <;> rfl
    · rfl

/-- A report check does not meet a reply. -/
theorem State.reportCheck_reply (s : State) (w : Platter) (r : Requester) (result : Result) (payload : Payload) :
    (s.reply r result payload).reportCheck w = (s.reportCheck w).reply r result payload := by
  unfold State.reportCheck State.sendReport
  simp only [State.reply_channel, State.reply_linkState, State.setChannel_reply, State.notify_reply]
  split
  · rfl
  · split
    · split <;> rfl
    · rfl

/-! ### Holds (R58 to R60) -/

@[simp] theorem State.alert_slots (s : State) (w : Platter) (a : AlertReason) (p : Port) :
    ((s.alert w a).linkOf p).slots = (s.linkOf p).slots := by simp [State.alert]

theorem State.alert_taken (s : State) (w : Platter) (a : AlertReason) (p : Port) (t : Tag) (c : Instr) :
    (s.taken p t c).alert w a = (s.alert w a).taken p t c := by
  unfold State.alert; rw [State.taken_channel, State.notifyAll_taken]

theorem State.grantHold_taken (s : State) (w : Platter) (o p : Port) (t : Tag) (c : Instr) :
    (s.taken p t c).grantHold w o = (s.grantHold w o).taken p t c := by
  unfold State.grantHold
  rw [State.taken_channel, State.setChannel_taken, State.reportCheck_taken]

theorem State.endHold_taken (s : State) (w : Platter) (p : Port) (t : Tag) (c : Instr) :
    (s.taken p t c).endHold w = (s.endHold w).taken p t c := by
  unfold State.endHold
  rw [State.taken_channel]
  dsimp only
  rw [State.setChannel_taken]
  split
  · rw [State.reportCheck_taken]
  · rw [State.alert_taken, State.reportCheck_taken]

end Sys2Proof.Machine
end

