-- ==== Sys2Proof/Laws/Figures.lean ====
section
/-! SUPPORT. The texts of the pricing unit are the figures and codes that R95 and R97 describe, dates advance day by day,
and an opening takes the number that R107 describes. -/

namespace Sys2Proof.Machine

/-! ### Figures (R97) -/

theorem digitByte_of_lt {n : Nat} (h : n < 10) : digitByte n = BitVec.ofNat 8 n.digitChar.toNat := by
  interval_cases n <;> rfl

theorem figure_of_lt {n : Nat} (h : n < 10) : figure n = [digitByte n] := by
  rw [figure, Nat.toDigits_of_lt_base h, digitByte_of_lt h]; rfl

theorem figure_of_le {n : Nat} (h : 10 ≤ n) : figure n = figure (n / 10) ++ [digitByte n] := by
  have hd : digitByte n = digitByte (n % 10) := by simp [digitByte]
  rw [figure, Nat.toDigits_of_base_le (by decide) h, List.map_append, hd, digitByte_of_lt (Nat.mod_lt _ (by decide))]
  rfl

theorem length_figure_le {w n : Nat} (hw : 0 < w) : (figure n).length ≤ w ↔ n < 10 ^ w := by
  rw [figure, List.length_map, Nat.length_toDigits_le_iff (by decide) hw]

theorem digits_digitCount {fuel n : Nat} (h : n < 10 ^ (fuel + 1)) : digits (digitCount fuel n) n = figure n := by
  induction fuel generalizing n with
  | zero => rw [figure_of_lt (by simpa using h)]; rfl
  | succ fuel ih =>
    unfold digitCount
    split
    · rw [figure_of_lt ‹_›]; rfl
    · rw [digits, ih (by omega), ← figure_of_le (by omega)]

/-- A number in decimal without leading zeros. -/
theorem decimal_eq_figure {n : Nat} (h : n < 10 ^ 21) : decimal n = figure n := digits_digitCount h

/-- A number in decimal with leading zeros. -/
theorem digits_eq_figureOf {w n : Nat} (hw : 0 < w) (h : n < 10 ^ w) : digits w n = figureOf w n := by
  obtain ⟨w, rfl⟩ : ∃ v, w = v + 1 := ⟨w - 1, by omega⟩
  induction w generalizing n with
  | zero => rw [figureOf, figure_of_lt (by simpa using h)]; rfl
  | succ w ih =>
    rw [digits, ih (by omega) (by omega), figureOf, figureOf]
    by_cases hn : n < 10
    · have h0 : n / 10 = 0 := by omega
      rw [h0, figure_of_lt hn, figure_of_lt (n := 0) (by decide)]
      simp [digitByte, List.replicate_succ']
    · rw [figure_of_le (n := n) (by omega), ← List.append_assoc]
      congr 3
      simp

theorem digitByte_congr {a b : Nat} (h : a % 10 = b % 10) : digitByte a = digitByte b := by
  rw [digitByte, h, ← digitByte]

theorem amountText_eq {n : Nat} (h : n < 10 ^ 21) : amountText n = moneyFigure n := by
  have hd : digits 2 n = digits 2 (n % 100) := by
    simp only [digits]
    rw [digitByte_congr (a := n / 10) (b := n % 100 / 10) (by omega), digitByte_congr (a := n) (b := n % 100) (by omega)]
  rw [amountText, moneyFigure, decimal_eq_figure (by omega), hd, digits_eq_figureOf (by decide) (by omega)]

theorem dateText_eq {d : Date} (h : d.real = true) : dateText d = dateFigure d := by
  simp only [Date.real, Bool.and_eq_true, decide_eq_true_eq] at h
  have hd : d.day ≤ 31 := by
    have := h.2; unfold daysIn at this; split_ifs at this <;> omega
  rw [dateText, dateFigure, digits_eq_figureOf (by decide) (by omega), digits_eq_figureOf (by decide) (by omega),
    digits_eq_figureOf (by decide) (by omega)]

theorem momentText_eq {m : DateTime} (hd : m.date.real = true) (ht : m.time.real = true) :
    dateText m.date ++ asText " " ++ timeText m.time = momentFigure m := by
  simp only [Time.real, Bool.and_eq_true, decide_eq_true_eq] at ht
  rw [dateText_eq hd, timeText, digits_eq_figureOf (by decide) (by omega), digits_eq_figureOf (by decide) (by omega),
    digits_eq_figureOf (by decide) (by omega), momentFigure]
  simp only [List.append_assoc]

theorem portText_eq (p : Port) : portText p = portFigure p := by
  cases p with
  | office => rfl
  | station s => cases s <;> decide +kernel

theorem ticketText_eq {k : TicketId} (h : k.number ≤ 99) : ticketText k = ticketFigure k := by
  rw [ticketText, ticketFigure, decimal_eq_figure (by omega)]
  cases k.cls <;> rfl

theorem clerkText_eq (c : ClerkNo) (name : Text) :
    clerkText c name = asText "CLK " ++ figureOf 2 (c.val + 1) ++ asText " " ++ name := by
  rw [clerkText, ← digits_eq_figureOf (by decide) (by omega)]
  rfl

/-! ### Label codes (R95) -/

/-- The thirteen digits of a label code and their check. -/
theorem labelCodeText_code {prefixDigit : Nat} (h : prefixDigit ≤ 9) (plu amount : Nat) :
    LabelCode prefixDigit plu amount (labelCodeText prefixDigit plu amount) := by
  refine ⟨checkDigit (codeDigits prefixDigit plu amount), Nat.mod_lt _ (by decide), ?_, ?_⟩
  · simp only [checkDigit, codeDigits, digitList, List.nil_append, List.cons_append, weightedSum, Nat.div_div_eq_div_mul]
    norm_num only
    omega
  · have hc : checkDigit (codeDigits prefixDigit plu amount) < 10 := Nat.mod_lt _ (by decide)
    generalize hk : checkDigit (codeDigits prefixDigit plu amount) = check at hc
    rw [labelCodeText, hk]
    simp only [codeDigits, digitList, List.nil_append, List.cons_append, List.map_cons, List.map_nil, digitByte,
      Nat.mod_mod, Nat.div_div_eq_div_mul, Nat.mod_eq_of_lt hc, Nat.mod_eq_of_lt (show prefixDigit < 10 by omega)]
    norm_num only [Nat.div_one]

/-! ### Dates (R94) -/

/-- The day after `n + 1` days is the one after the day after `n` days. -/
theorem Date.advance_succ (n : Nat) (d : Date) : Date.advance (n + 1) d = (Date.advance n d).next := by
  induction n generalizing d with
  | zero => rfl
  | succ n ih => rw [Date.advance, ih]; rfl

/-! ### Transaction numbers (R107) -/

theorem TxnTable.uses_iff (x : TxnTable) (n : Nat) :
    x.uses n = true ↔ (∃ y ∈ x.held, y.number = n) ∨ ∃ e ∈ x.closed, e.number = n := by
  simp [TxnTable.uses]

/-- The place `d` from `n` on, 9999 being followed by 1, is where `d` tries end. -/
theorem nextTxnNumber_place {n d : Nat} (h : 1 ≤ n ∧ n ≤ 9999) :
    (nextTxnNumber n - 1 + d) % 9999 + 1 = (n - 1 + (d + 1)) % 9999 + 1 := by
  unfold nextTxnNumber; split <;> omega

theorem nextTxnNumber_range {n : Nat} (h : 1 ≤ n ∧ n ≤ 9999) : 1 ≤ nextTxnNumber n ∧ nextTxnNumber n ≤ 9999 := by
  unfold nextTxnNumber; split <;> omega

/-- The tries stop at the first number in no use. -/
theorem TxnTable.freeNumber_eq (x : TxnTable) {tries n d : Nat} (hn : 1 ≤ n ∧ n ≤ 9999) (hd : d < tries)
    (free : x.uses ((n - 1 + d) % 9999 + 1) = false) (before : ∀ e, e < d → x.uses ((n - 1 + e) % 9999 + 1) = true) :
    x.freeNumber tries n = (n - 1 + d) % 9999 + 1 := by
  induction tries generalizing n d with
  | zero => omega
  | succ tries ih =>
    have h0 : (n - 1 + 0) % 9999 + 1 = n := by omega
    unfold TxnTable.freeNumber
    cases d with
    | zero => rw [h0] at free ⊢; simp [free]
    | succ d =>
      rw [if_pos (h0 ▸ before 0 (by omega)), ih (d := d) (nextTxnNumber_range hn) (by omega), nextTxnNumber_place hn]
      · rw [nextTxnNumber_place hn]; exact free
      · intro e he; rw [nextTxnNumber_place hn]; exact before (e + 1) (by omega)

/-- At most 32 numbers are in use at once (R107). -/
theorem State.TableLaw.room {s : State} (h : s.TableLaw) : s.txn.held.length + s.txn.closed.length ≤ 32 := by
  have numbers : (s.txn.held.map (·.number)).Nodup :=
    List.pairwise_map.mpr (h.sales.2.imp fun hxy => Nat.ne_of_lt hxy)
  have parked : (s.txn.held.filter fun x => x.parkedAt.isSome).length ≤ 8 := by
    have sub := List.subperm_of_subset (l₂ := s.txn.parked)
      (numbers.sublist (List.filter_sublist.map fun x : Txn => x.number) : ((s.txn.held.filter fun x => x.parkedAt.isSome).map (·.number)).Nodup)
      (fun n hn => by
        obtain ⟨x, hx, rfl⟩ := List.mem_map.mp hn
        exact (h.parked _).mpr ⟨x, (List.mem_filter.mp hx).1, rfl, by simpa using (List.mem_filter.mp hx).2⟩)
    have := sub.length_le
    rw [List.length_map] at this
    exact this.trans h.parkedRoom
  have opens : (s.txn.held.filter fun x => !x.parkedAt.isSome).length ≤ 16 := by
    have nodup : ((s.txn.held.filter fun x => !x.parkedAt.isSome).map (·.clerk)).Nodup := by
      refine List.pairwise_map.mpr ((h.sales.2.sublist List.filter_sublist).imp_of_mem fun {x y} hx hy hxy same => ?_)
      obtain ⟨hx, px⟩ := List.mem_filter.mp hx
      obtain ⟨hy, py⟩ := List.mem_filter.mp hy
      have ox := (h.openTxns x.clerk x.number).mpr ⟨x, hx, rfl, rfl, by simpa using px⟩
      have oy := (h.openTxns x.clerk y.number).mpr ⟨y, hy, rfl, same.symm, by simpa using py⟩
      rw [ox, Option.some.injEq] at oy
      omega
    simpa using nodup.length_le_card
  have split := List.length_eq_length_filter_add (l := s.txn.held) fun x => x.parkedAt.isSome
  have := h.closedRoom
  simp only [Config.closedPlaces] at this
  omega

/-- Under the law of the table the next opening takes the first number in no use (R107). -/
theorem State.TableLaw.takes {s : State} (h : s.TableLaw) : s.txn.Takes s.txn.takesNumber := by
  have hn := h.next
  have some_free : ∃ d, d < 33 ∧ s.txn.uses ((s.txn.nextNumber - 1 + d) % 9999 + 1) = false := by
    by_contra all
    push Not at all
    have sub := List.subperm_of_subset
      (l₁ := (List.range 33).map fun d => (s.txn.nextNumber - 1 + d) % 9999 + 1)
      (l₂ := s.txn.held.map (·.number) ++ s.txn.closed.map (·.number))
      (List.Nodup.map_on (fun a ha b hb hab => by simp at ha hb; omega) List.nodup_range)
      (fun n hn => by
        obtain ⟨d, hd, rfl⟩ := List.mem_map.mp hn
        have := (TxnTable.uses_iff _ _).mp (by simpa using all d (List.mem_range.mp hd))
        simpa using this)
    have := sub.length_le
    simp at this
    have := h.room
    omega
  classical
  have least := Nat.find_spec some_free
  refine ⟨Nat.find some_free, least.1, ?_, ?_, fun e he => ?_⟩
  · refine TxnTable.freeNumber_eq _ hn least.1 least.2 fun e he => ?_
    have := Nat.find_min some_free he
    simp only [not_and, Bool.not_eq_false] at this
    exact this (by omega)
  · show ¬(_ ∨ _)
    rw [TxnTable.takesNumber, TxnTable.freeNumber_eq _ hn least.1 least.2, ← TxnTable.uses_iff, least.2]
    · decide
    · intro e he
      have := Nat.find_min some_free he
      simp only [not_and, Bool.not_eq_false] at this
      exact this (by omega)
  · have := Nat.find_min some_free he
    simp only [not_and, Bool.not_eq_false] at this
    exact (TxnTable.uses_iff _ _).mp (this (by omega))

end Sys2Proof.Machine
end

