-- ==== Sys2Proof/Tests/Slice0.lean ====
section
/-! SUPPORT. Tests of the model against the worked examples of the spec, ill-formed commands that the check refuses, and
for each statement with hypotheses a state and operands that meet them. -/

namespace Sys2Proof.Machine.Tests

-- One theorem at a time: elaborated side by side, so many small evaluations ask for more threads than a check allows.
set_option Elab.async false

/-! ### Ill-formed commands -/

theorem test_wf_links : (Instr.setThreshold .office 0 256).wf = false ∧
    (Instr.setNoticePriority .office 0 .weight 256).wf = false ∧ (Instr.setThreshold .office 0 255).wf = true := by decide +kernel

theorem test_wf_platters : (Instr.presetTare .office 0 .w1 65536).wf = false ∧
    (Instr.calSpan .office 0 .w1 4294967296).wf = false ∧ (Instr.calSpan .office 0 .w1 4294967295).wf = true := by decide +kernel

/-- CONFIGURE PLATTER with its nine numbers given. -/
def numbered (a b c d e f g h i : Nat) : Instr :=
  .configurePlatter .office 0 .w1 ⟨some a, some b, some c, some d, some e, some f, some g, some h, some i, none, none⟩

theorem test_wf_configurePlatter : (numbered 65535 255 65535 255 255 255 255 65535 65535).wf = true ∧
    (numbered 65536 1 1 1 1 1 1 1 1).wf = false ∧ (numbered 1 256 1 1 1 1 1 1 1).wf = false ∧
    (numbered 1 1 65536 1 1 1 1 1 1).wf = false ∧ (numbered 1 1 1 256 1 1 1 1 1).wf = false ∧
    (numbered 1 1 1 1 256 1 1 1 1).wf = false ∧ (numbered 1 1 1 1 1 256 1 1 1).wf = false ∧
    (numbered 1 1 1 1 1 1 256 1 1).wf = false ∧ (numbered 1 1 1 1 1 1 1 65536 1).wf = false ∧
    (numbered 1 1 1 1 1 1 1 1 65536).wf = false := by decide +kernel

/-- The ham of the worked examples. -/
def ham : PluFields := ⟨asText "SMOKED HAM", none, .byWeight, 1899, none, 3, none, some 5⟩

/-- The olives of the worked examples. -/
def olive : PluFields := ⟨asText "OLIVE TUB", none, .byCount, 249, none, 7, none, none⟩

/-- A promotion of the ham with a price and a first date. -/
def promoted (price : Nat) (first : Date) : PluFields := { ham with promotion := some ⟨price, first, ⟨2031, 2, 26⟩⟩ }

theorem test_wf_pluWrite : (Instr.pluWrite .office 0 65535 ham).wf = true ∧ (Instr.pluWrite .office 0 65536 ham).wf = false ∧
    (Instr.pluWrite .office 0 1 { ham with name := List.replicate 256 0x41 }).wf = false ∧
    (Instr.pluWrite .office 0 1 { ham with second := some (List.replicate 256 0x41) }).wf = false ∧
    (Instr.pluWrite .office 0 1 { ham with unitPrice := 4294967296 }).wf = false ∧
    (Instr.pluWrite .office 0 1 (promoted 4294967296 ⟨2031, 2, 20⟩)).wf = false ∧
    (Instr.pluWrite .office 0 1 (promoted 1599 ⟨65536, 2, 20⟩)).wf = false ∧
    (Instr.pluWrite .office 0 1 (promoted 1599 ⟨2031, 256, 20⟩)).wf = false ∧
    (Instr.pluWrite .office 0 1 (promoted 1599 ⟨2031, 2, 256⟩)).wf = false ∧
    (Instr.pluWrite .office 0 1 { ham with department := 256 }).wf = false ∧
    (Instr.pluWrite .office 0 1 { ham with presetTare := some 65536 }).wf = false ∧
    (Instr.pluWrite .office 0 1 { ham with shelfLife := some 65536 }).wf = false := by decide +kernel

theorem test_wf_plu : (Instr.pluRead .office 0 65536).wf = false ∧ (Instr.pluDelete .office 0 65536).wf = false ∧
    (Instr.stockLoad .office 0 65536 0 .keep).wf = false ∧ (Instr.stockLoad .office 0 1 4294967296 .keep).wf = false ∧
    (Instr.stockLoad .office 0 1 0 (.given 4294967296)).wf = false := by decide +kernel

theorem test_wf_sales : (Instr.clerkWrite .office 0 256 [] true).wf = false ∧
    (Instr.clerkWrite .office 0 1 (List.replicate 256 0x41) true).wf = false ∧
    (Instr.priceItem .office 0 .w1 65536 1 .no).wf = false ∧ (Instr.priceItem .office 0 .w1 1 256 .no).wf = false ∧
    (Instr.addCountItem .office 0 1 256 1 .no).wf = false ∧ (Instr.voidLine .office 0 1 256).wf = false ∧
    (Instr.park .office 0 256).wf = false ∧ (Instr.resume .office 0 1 (.number 65536)).wf = false ∧
    (Instr.approve .office 0 65536).wf = false ∧ (Instr.closeTransaction .office 0 256 true).wf = false ∧
    (Instr.voidTransaction .office 0 (.byClerk 256)).wf = false ∧
    (Instr.readTransaction .office 0 (.byNumber 65536) 1).wf = false ∧
    (Instr.readTransaction .office 0 (.byNumber 1) 256).wf = false ∧
    (Instr.configureStation .office 0 .office ⟨none, none, none, none, some 256, none⟩).wf = false ∧
    (Instr.configureStation .office 0 .office ⟨none, none, none, none, none, some 256⟩).wf = false := by decide +kernel

/-- A CONFIGURE CLASS entry with its numbers given. -/
def entry (rank waitLimit callTimeout holdOff : Nat) : ClassEntry :=
  ⟨.a, none, some rank, some waitLimit, some callTimeout, none, none, some holdOff⟩

theorem test_wf_tickets : (Instr.configureClass .office 0 []).wf = false ∧
    (Instr.configureClass .office 0 (List.replicate 5 (entry 1 1 1 1))).wf = false ∧
    (Instr.configureClass .office 0 [entry 256 1 1 1]).wf = false ∧
    (Instr.configureClass .office 0 [entry 1 256 1 1]).wf = false ∧
    (Instr.configureClass .office 0 [entry 1 1 65536 1]).wf = false ∧
    (Instr.configureClass .office 0 [entry 1 1 1 65536]).wf = false ∧ (Instr.callNext .office 0 256).wf = false ∧
    (Instr.reinstate .office 0 ⟨.a, 256⟩).wf = false ∧ (Instr.openBound ⟨.a, 256⟩).wf = false := by decide +kernel

theorem test_wf_outlets_and_day : (Instr.cancelJob .office 0 .p1 65536).wf = false ∧
    (Instr.configureOutlet .office 0 .p1 ⟨none, some 256, none, none⟩).wf = false ∧
    (Instr.configureOutlet .office 0 .p1 ⟨none, none, some 256, none⟩).wf = false ∧
    (Instr.openDay .office 0 ⟨65536, 1, 1⟩).wf = false ∧ (Instr.readTotals .office 0 .plu 65536).wf = false ∧
    (Instr.setWatch .office 0 256 .off 0 0 .notice).wf = false ∧ (Instr.setWatch .office 0 1 .off 65536 0 .notice).wf = false ∧
    (Instr.setWatch .office 0 1 .off 0 4294967296 .notice).wf = false ∧
    (Instr.setClock .office 0 ⟨2031, 1, 1⟩ ⟨256, 0, 0⟩).wf = false ∧
    (Instr.setClock .office 0 ⟨2031, 1, 1⟩ ⟨0, 256, 0⟩).wf = false ∧
    (Instr.setClock .office 0 ⟨2031, 1, 1⟩ ⟨0, 0, 256⟩).wf = false := by decide +kernel

/-! ### Frames (section 11.1, R3) -/

/-- The check over "123456789" is 29B1h: the known check value of the CRC-16 of this polynomial and preset. -/
theorem test_crc16_check_value : crc16 (asText "123456789") = 0x29B1#16 := by decide +kernel

/-- A frame is found after noise, and one with a bit of its check changed is counted as a check error. -/
theorem test_hunt_finds_the_frame : hunt false 9 (0x55 :: frameBytes 1 3 0x01 []) = ([.good ⟨3, 0x01, [], false⟩], []) := by decide +kernel

theorem test_hunt_rejects_a_bad_check : hunt false 9 [0xC3, 0x02, 0x13, 0x01, 0x00, 0x00] = ([.checkError], []) := by decide +kernel

/-- The table gives no row any bits. -/
theorem test_no_table_word : decodeTableWord 8 0 = none := rfl

/-! ### Weighing (the worked weighing case and the worked start of W3, chapter 2) -/

/-- W3 of the worked sequences, after a warm start. -/
def w3 : Channel :=
  .started ⟨8, 6, 2, 3000, 200, .s3, false⟩ ⟨⟨6000, 2, 15000, 5⟩, some 120000, some 1500000, some 10000000, true, 41⟩

/-- W3 with its initial zero taken, tracked, and a tare keyed. -/
def w3Tared : Channel := { w3 with zi := some 1000, zp := 240, tare := 150000, tareKind := .preset, state := .motion }

/-- W3 at the evaluation of the worked weighing case: gross 2540 g, net 2390 g, tare 150 g, division 2 g, no zero-centre. -/
theorem test_weighing_case :
    ({ w3Tared with fine := some 2541560, state := .stable }.report .w3) =
      ⟨.w3, .stable, some ⟨2540, 2390, 150, 2⟩, .preset, false, false⟩ := by decide +kernel

/-! ### Pricing (the worked amounts, dates, codes and labels of chapter 5) -/

/-- A capture of the worked item: gross fine 2,540,320 mg and the platter's tare of 150 g. -/
def tared : CaptureRecord := ⟨213, .w3, 2540320, 2390320, 2390, 2, 150, .preset, ⟨6000, 2, 15000, 5⟩, 1⟩

/-- The same gross weight without a tare on the platter. -/
def untared : CaptureRecord := ⟨213, .w3, 2540320, 2540320, 2540, 2, 0, .none, ⟨6000, 2, 15000, 5⟩, 1⟩

/-- The date of the worked examples. -/
def today : Date := ⟨2031, 2, 26⟩

/-- The amount of a priced item. -/
def amountOf (x : Except Result PricedItem) : Option (Nat × Option Date) := x.toOption.map fun i => (i.amount, i.sellBy)

theorem test_weight_amounts :
    amountOf (priceByWeight ⟨1, 1⟩ (some today) today ham tared) = some (4539, some ⟨2031, 3, 3⟩) ∧
    amountOf (priceByWeight ⟨1, 5⟩ (some today) today ham tared) = some (4540, some ⟨2031, 3, 3⟩) ∧
    amountOf (priceByWeight ⟨1, 1⟩ (some today) today (promoted 1599 ⟨2031, 2, 20⟩) tared) = some (3822, some ⟨2031, 3, 3⟩) ∧
    amountOf (priceByWeight ⟨1, 1⟩ (some ⟨2031, 2, 27⟩) today (promoted 1599 ⟨2031, 2, 20⟩) tared) =
      some (4539, some ⟨2031, 3, 3⟩) := by decide +kernel

theorem test_plu_tare : amountOf (priceByWeight ⟨1, 1⟩ (some today) today { ham with presetTare := some 151 } untared) =
    some (4535, some ⟨2031, 3, 3⟩) := by decide +kernel

theorem test_count_amounts : amountOf (priceByCount ⟨1, 5⟩ (some today) today olive 3) = some (745, none) ∧
    amountOf (priceByCount ⟨1, 10⟩ (some today) today olive 3) = some (750, none) ∧ stepRound 10 4535 = 4540 := by decide +kernel

theorem test_dates : Date.advance 5 ⟨2032, 2, 26⟩ = ⟨2032, 3, 2⟩ ∧ Date.advance 3 ⟨2031, 12, 30⟩ = ⟨2032, 1, 2⟩ ∧
    Date.advance 60 ⟨2099, 11, 20⟩ = ⟨2099, 12, 31⟩ := by decide +kernel

theorem test_codes : labelCodeText 1 417 4539 = asText "2100417045392" ∧ labelCodeText 1 0 5286 = asText "2100000052868" ∧
    labelCodeText 0 5 100 = asText "2000005001000" := by decide +kernel

/-- The lines of the worked sale: ham, olives, and a second portion of ham that was voided. -/
def soldHam : Line := ⟨1, 417, asText "SMOKED HAM", 3, .byWeight, 2390, some 2, some (150, .platter), 1899, false, 4539,
  today, some ⟨2031, 3, 3⟩, some (.w3, 213), .station .s3, some (.p1, 117), false⟩
def soldOlives : Line := ⟨2, 233, asText "OLIVE TUB", 7, .byCount, 3, none, none, 249, false, 747, today, none,
  none, .station .s5, none, false⟩
def voidedHam : Line := { soldHam with index := 3, quantity := 1132, amount := 2150, label := none, voided := true }

/-- The date and time of the worked close. -/
def atClose : DateTime := ⟨today, ⟨10, 42, 7⟩⟩

theorem test_total_label :
    (totalLabel ⟨1, 1⟩ false 42 4 (asText "EARLY-1") (some ⟨.a, 17⟩) 5286 [soldHam, soldOlives, voidedHam] atClose
      (.station .s3)).lines =
    [asText "SALE", asText "TICKET A17", asText "CLK 05 EARLY-1 TXN 0042", asText "2031-02-26 10:42:07",
     asText "SMOKED HAM       45.39", asText "OLIVE TUB         7.47", asText "ITEMS 2", asText "TOTAL 52.86",
     asText "2100000052868"] := by decide +kernel

theorem test_item_label : (priceByWeight ⟨1, 1⟩ (some today) today ham tared).toOption.map
      (fun i => (itemLabel ⟨1, 1⟩ 417 ham i 4 (asText "EARLY-1") (.station .s3)).lines) =
    some [asText "SMOKED HAM", asText "NET 2390 g", asText "18.99 /kg", asText "PRICE 45.39", asText "PACKED 2031-02-26",
      asText "USE BY 2031-03-03", asText "CLK 05 EARLY-1 S3", asText "2100417045392"] := by decide +kernel

theorem test_ticket_and_display_jobs :
    (ticketJob ⟨.a, 17⟩ 4 ⟨today, ⟨10, 31, 55⟩⟩).lines = [asText "A17", asText "AHEAD 4", asText "2031-02-26 10:31:55"] ∧
    (displayJob (takeRecent ⟨.a, 17⟩ (.station .s3)
      [(⟨.b, 4⟩, .station .s1), (⟨.a, 16⟩, .station .s2), (⟨.a, 15⟩, .station .s3)]) (.station .s3)).lines =
      [asText "A17 > S3", asText "B4 > S1", asText "A16 > S2", asText "A15 > S3"] := by decide +kernel

/-! ### States that meet the statements' hypotheses -/

/-- An UP link with nothing on it but the slots given. -/
def upLink (slots : List Slot) : Link :=
  { Link.started true none 0 with state := .up, rate := some .r19200, slots := slots }

/-- `s` with a link whose one slot holds a request on its way to its block. -/
def asking (s : State) (p : Port) (t : Tag) (c : Instr) : State := s.setLink p (upLink [⟨t, c, .admitted, 0⟩])

theorem down_lawful : (Link.started false none 0).Lawful := by constructor <;> decide

theorem upLink_lawful (t : Tag) (c : Instr) : (upLink [⟨t, c, .admitted, 0⟩]).Lawful := by
  constructor <;> simp [upLink, Link.started, Config.slotsPerLink, Config.receiveBuffer, Config.noticeQueue,
    Config.droppedCap, Config.linkCountCap]

/-- A state with the links and priorities of reset and no cancellation on its way. -/
def Calm (s : State) : Prop :=
  s.link.links = State.reset.link.links ∧ s.link.priorities = .default ∧ s.transit.cancellations = []

theorem linkOf_calm {s : State} (h : Calm s) (q : Port) : s.linkOf q = Link.started false none 0 := by
  rw [State.linkOf, h.1]
  cases q with
  | office => rfl
  | station st => cases st <;> rfl

theorem priorities_lawful (k : NoticeKind) : 1 ≤ Priorities.default.get k ∧ Priorities.default.get k ≤ 7 := by
  cases k <;> decide

/-- One lawful link among calm ones keeps the law of the links. -/
theorem linkLaw_setLink {s : State} (h : Calm s) (p : Port) {l : Link} (hl : l.Lawful) : (s.setLink p l).LinkLaw := by
  refine ⟨fun q => ?_, fun k => ?_, ?_⟩
  · by_cases hq : q = p
    · rw [hq, State.linkOf_setLink_same]
      exact hl
    · rw [State.linkOf_setLink_of_ne s l hq, linkOf_calm h]
      exact down_lawful
  · have hp : (s.setLink p l).link.priorities = .default := h.2.1
    rw [hp]
    exact priorities_lawful k
  · intro q r hqr x hx y hy
    rcases eq_or_ne q p with hq | hq
    · rw [State.linkOf_setLink_of_ne s l (hq ▸ hqr.symm), linkOf_calm h] at hy
      cases hy
    · rw [State.linkOf_setLink_of_ne s l hq, linkOf_calm h] at hx
      cases hx

theorem waiting_asking {s : State} (h : Calm s) (p : Port) (t : Tag) (c : Instr) : Waiting (asking s p t c) p t c := by
  refine ⟨linkLaw_setLink h p (upLink_lawful t c), ?_⟩
  have hc : (asking s p t c).transit.cancellations = [] := h.2.2
  have ho : (asking s p t c).overtakes 0 c = false := by simp [State.overtakes]
  rw [State.awaits, hc]
  simpa [asking, upLink, Slot.awaits] using ho

/-- Some state holds the request in a slot, on its way to its block, and meets what else is asked. -/
def Meets (i : Port → Tag → Instr) (more : Port → State → Prop) : Prop :=
  ∃ s p t, Waiting s p t (i p t) ∧ more p s

theorem meets (s : State) (p : Port) (i : Port → Tag → Instr) {more : Port → State → Prop}
    (h : more p (asking s p 1 (i p 1))) (hc : Calm s) : Meets i more :=
  ⟨_, p, 1, waiting_asking hc p 1 (i p 1), h⟩

/-- The state with one channel, one outlet or the messages between blocks given. -/
def withChannel (w : Platter) (c : Channel) : State := State.reset.setChannel w c
def withOutlet (o : OutletId) (x : Outlet) : State := State.reset.setOutlet o x
def withTransit (x : Transit) : State := { State.reset with transit := x }

theorem calm_reset : Calm State.reset := ⟨rfl, rfl, rfl⟩

/-- The counter of the worked sale, a little later: clerk 5 with transaction 42 in hand, whose approval is required; clerk 7
with transaction 49 parked; clerk 9 free. A15 was missed, A14 waits again before A18, and A17 is called. -/
def txn42 : Txn := ⟨42, 4, some ⟨.a, 17⟩, .required, [soldHam, soldOlives, voidedHam], 5286, 2, atClose, none, .station .s3⟩
def txn49 : Txn := ⟨49, 6, none, .none, [{ soldOlives with index := 1, quantity := 2, amount := 498 }], 498, 1, atClose,
  some atClose, .station .s1⟩
def closed41 : ClosedEntry :=
  ⟨41, 4, asText "EARLY-1", none, 747, 1, [{ soldOlives with index := 1 }], atClose, .station .s3⟩
def a14 : Ticket := ⟨⟨.a, 14⟩, 14, 1800, some 0, none⟩
def a18 : Ticket := ⟨⟨.a, 18⟩, 18, 1950, none, none⟩
def b7 : Ticket := ⟨⟨.b, 7⟩, 16, 1900, none, none⟩
def a15 : Ticket := ⟨⟨.a, 15⟩, 15, 1850, none, some 2000⟩
def a17 : CalledTicket := ⟨⟨⟨.a, 17⟩, 17, 1915, none, some 2290⟩, 0, 42, .station .s3, .openWithLines, none⟩

def shop : State :=
  { State.reset with
    pending := [.clockSecond]
    plus := [⟨1, olive, true, 0, none⟩, ⟨233, olive, true, 2, some ⟨20, 15, 5, 0, some 20, true⟩⟩,
      ⟨417, ham, true, 1, some ⟨9000, 6610, 2390, 0, some 3000, false⟩⟩, ⟨9999, ham, false, 0, none⟩]
    txn := { TxnTable.cold with
      clerks := ((TxnTable.cold.clerks.set 4 ⟨asText "EARLY-1", true, some 42, some (.station .s3)⟩).set 6
        ⟨[], true, none, none⟩).set 8 ⟨[], true, none, none⟩
      held := [txn42, txn49], parked := [49], closed := [closed41], nextNumber := 50 }
    queue := { TicketQueue.cold lowLevels.dispenser with
      classes := ⟨{ ClassRecord.cold true 1 (some .d1) with waiting := [a14, a18], next := 19 },
        { ClassRecord.cold true 2 (some .d2) with waiting := [b7], waitLimit := 5, next := 8 }, .cold false 3 none,
        .cold false 4 none⟩
      called := [a17], missed := [a15], recent := [(⟨.a, 17⟩, .station .s3)], issueCounter := 19, reinstateTurn := 1 }
    totals := { Totals.cold with
      day := ⟨some ⟨today, atClose⟩, 37, 4, 0, 0, 0, false⟩
      acc := (Accumulators.zero.addLines 4 [soldHam, soldOlives]).countTransaction 4 }
    clock := ⟨atClose, false, 2700, .cold⟩ }

theorem calm_shop : Calm shop := ⟨rfl, rfl, rfl⟩

/-- The state after a command. -/
def after (c : Instr) (s : State) : State :=
  match exec c s with
  | .next t => t
  | .fault _ | .refused _ => s

theorem shop_held : shop.txn.held = [txn42, txn49] := rfl

theorem shop_txns : shop.SalesLaw := by
  constructor
  · intro x hx
    simp only [shop, List.mem_cons, List.not_mem_nil, or_false] at hx
    rcases hx with rfl | rfl <;> constructor <;> decide +kernel
  · decide +kernel

theorem shop_clerks (c : ClerkNo) (h : c ≠ 4) : (shop.clerk c).openTxn = none := by
  revert c
  decide +kernel

theorem shop_tableLaw : shop.TableLaw where
  sales := shop_txns
  next := by decide
  parkedOnce := by decide +kernel
  parkedRoom := by decide +kernel
  parked := by
    intro n
    rw [shop_held, show shop.txn.parked = [49] from rfl]
    simp [txn42, txn49]
    exact eq_comm
  openTxns := by
    intro c n
    rw [shop_held]
    by_cases h : c = 4
    · subst h
      rw [show (shop.clerk 4).openTxn = some 42 by decide +kernel]
      simp [txn42, txn49]
    · rw [shop_clerks c h]
      simp [txn42, txn49, Ne.symm h]
  closedRoom := by decide +kernel
  closedOnce := by decide +kernel
  apart := by decide +kernel
  flights := by decide +kernel
  flightRoom := by decide +kernel

theorem shop_stockLaw : shop.StockLaw where
  order := by decide +kernel
  room := by decide +kernel
  counts := by decide +kernel
  present := by
    intro n h
    by_cases h1 : n = 417
    · exact ⟨⟨417, ham, true, 1, some ⟨9000, 6610, 2390, 0, some 3000, false⟩⟩, by simp [shop], h1.symm⟩
    · by_cases h2 : n = 233
      · exact ⟨⟨233, olive, true, 2, some ⟨20, 15, 5, 0, some 20, true⟩⟩, by simp [shop], h2.symm⟩
      · refine absurd ?_ h
        rw [State.openLinesOf, shop_held]
        simp [txn42, txn49, unvoided, soldHam, soldOlives, voidedHam, Ne.symm h1, Ne.symm h2]
  accounts := by
    intro r hr a ha
    simp only [shop, List.mem_cons, List.not_mem_nil, or_false] at hr
    rcases hr with rfl | rfl | rfl | rfl <;> cases ha <;> decide +kernel

theorem shop_ticketLaw : shop.TicketLaw where
  once := by decide +kernel
  own := by intro k; cases k <;> decide +kernel
  order := by intro k; cases k <;> decide +kernel
  apart := by simp [TicketQueue.queued, shop, TicketQueue.cold, ClassRecord.cold, a14, a18, b7, Ticket.apart]
  ahead := by simp [TicketQueue.queued, shop, TicketQueue.cold, ClassRecord.cold, a14, a18, b7]
  missed := by decide +kernel
  recent := by decide +kernel

theorem shop_totalsLaw : shop.TotalsLaw where
  standing := by constructor <;> decide +kernel
  closed := by intro n h; cases h
  counts := by decide +kernel
  number := by decide +kernel

/-- W3 that weighs, its window one sample short of full, and W3 held for the office. -/
def w3Window : Channel := { w3 with window := List.replicate 7 120150, sum := 841050 }
def w3Held : Channel := { w3 with state := .held, holdOwner := some .office }

/-- An entry of the operation slot that waits, for the port's request of a tag and code. -/
def waitingOp (kind : OpKind) (p : Port) (t : Tag) (code : Byte) : OpEntry :=
  ⟨kind, p, t, some ⟨p, t, code⟩, 0, 10000, .waiting, some 3000, .notReady⟩

theorem started_platter (home : Station) : (Channel.started (.default home) .blank).Lawful := by
  constructor <;> simp [Channel.started, StoreRecord.blank]
  decide

theorem w3Window_lawful : w3Window.Lawful := by
  constructor <;> simp [w3Window, w3, Channel.started]
  decide

theorem w3_platterLaw : (withChannel .w3 w3Window).PlatterLaw := by
  intro w
  cases w
  · exact started_platter .s1
  · exact started_platter .s2
  · exact w3Window_lawful
  · exact started_platter .s4

theorem w3_windowLaw : (withChannel .w3 w3Window).WindowLaw := by
  intro w
  cases w <;> unfold Channel.WindowLaw <;> decide +kernel

/-- P1 that prints the nine lines of the worked total label as job 120, as after line 4, with the item label 121 behind. -/
def printed : List Text := List.replicate 9 (asText "LINE")
def job120 : QueuedJob := ⟨120, ⟨.total, false, some (.station .s3), printed⟩, 8, 4, true, 0, false, []⟩
def job121 : QueuedJob := ⟨121, ⟨.item, false, some (.station .s5), printed⟩, 0, 0, false, 0, false, []⟩
def p1 : Outlet :=
  { Outlet.cold .label true false with
    state := .printing, jobs := [job120, job121], lineQueue := job120.movedLines, transfer := true, nextId := 122, labelCount := 2 }

theorem outlet_empty (kind : OutletKind) : (Outlet.cold kind false false).Lawful := by
  constructor <;> simp [Outlet.cold, Outlet.started]

theorem p1_lawful : p1.Lawful := by
  constructor
  case head =>
    intro j rest h
    cases h
    exact ⟨rfl, by decide, by decide, by decide⟩
  all_goals decide +kernel

theorem p1_outletLaw : (withOutlet .p1 p1).OutletLaw := by
  intro o
  cases o
  · exact p1_lawful
  · exact outlet_empty .label
  · exact outlet_empty .ticket
  · exact outlet_empty .display

/-! ### Hypotheses that are met: steps, links -/

theorem witness_StepRunsFrontCommand : State.reset.pending = [] := rfl

theorem witness_CommandsComplete : requestInfo (.readStatus .office 0) = some (.office, 0, 1, .link) ∧
    State.reset.awaits .office 0 (.readStatus .office 0) = false ∧
    State.reset.awaitsDropped .office 0 (.readStatus .office 0) = false := by decide +kernel

/-- Two requests of the office to the channel of W3, in the order it sent them. -/
def twoAsking : Link := upLink [⟨1, .readWeight .office 1 .w3, .admitted, 0⟩, ⟨2, .clearTare .office 2 .w3, .admitted, 1⟩]

theorem witness_request_order : (State.reset.setLink .office twoAsking).LinkLaw ∧
    twoAsking.slots = [] ++ ⟨1, .readWeight .office 1 .w3, .admitted, 0⟩ :: ([] ++ ⟨2, .clearTare .office 2 .w3, .admitted, 1⟩ :: []) ∧
    requestInfo (.readWeight .office 1 .w3) = some (.office, 1, 0x10, .weighing .w3) ∧
    requestInfo (.clearTare .office 2 .w3) = some (.office, 2, 0x14, .weighing .w3) ∧
    State.reset.transit.cancellations = [] :=
  ⟨linkLaw_setLink calm_reset _ (by constructor <;> decide), rfl, rfl, rfl, rfl⟩

/-- The second waits for the first (R7). -/
theorem test_request_order :
    let s := State.reset.setLink .office twoAsking
    ((after (.clearTare .office 2 .w3) s).linkOf .office).slots = twoAsking.slots ∧
    ((after (.clearTare .office 2 .w3) (after (.readWeight .office 1 .w3) s)).linkOf .office).slots.map (·.phase) =
      [.ready, .ready] := by decide +kernel

/-- One request of S1 to the channel of W3, and one of S2 that was admitted after it. -/
def crossed : State :=
  (State.reset.setLink (.station .s1) (upLink [⟨1, .readWeight (.station .s1) 1 .w3, .admitted, 4⟩])).setLink (.station .s2)
    (upLink [⟨1, .clearTare (.station .s2) 1 .w3, .admitted, 7⟩])

theorem crossed_linkLaw : crossed.LinkLaw := by
  refine ⟨fun q => ?_, fun k => ?_, ?_⟩
  · cases q with
    | office => constructor <;> decide
    | station st => cases st <;> constructor <;> decide +kernel
  · cases k <;> decide
  · have hm : ∀ p ∈ Port.all, ∀ q ∈ Port.all, p ≠ q →
        ∀ x ∈ (crossed.linkOf p).slots, ∀ y ∈ (crossed.linkOf q).slots, x.order ≠ y.order := by decide +kernel
    exact fun p q => hm p (mem_all_ports p) q (mem_all_ports q)

theorem witness_admission_order : crossed.LinkLaw ∧
    ⟨1, .readWeight (.station .s1) 1 .w3, .admitted, 4⟩ ∈ (crossed.linkOf (.station .s1)).slots ∧
    ⟨1, .clearTare (.station .s2) 1 .w3, .admitted, 7⟩ ∈ (crossed.linkOf (.station .s2)).slots ∧
    requestInfo (.readWeight (.station .s1) 1 .w3) = some (.station .s1, 1, 0x10, .weighing .w3) ∧
    requestInfo (.clearTare (.station .s2) 1 .w3) = some (.station .s2, 1, 0x14, .weighing .w3) ∧
    crossed.transit.cancellations = [] := ⟨crossed_linkLaw, by decide +kernel⟩

/-- The request admitted later on another link waits for the earlier one, and the next admission has a later place (R7). -/
theorem test_admission_order :
    let late := Instr.clearTare (.station .s2) 1 .w3
    (((after late crossed).linkOf (.station .s2)).slots.map (·.phase) = [.admitted]) ∧
    (((after late (after (.readWeight (.station .s1) 1 .w3) crossed)).linkOf (.station .s2)).slots.map (·.phase) = [.ready]) ∧
    crossed.nextOrder = 8 := by decide +kernel

/-- The replies of PARK, SKIP and RESUME OUTLET (R195, R196). -/
theorem test_reply_bytes :
    (Reply.body ⟨1, 0x23, .ok, .parked 300, atClose, 0⟩ = [0, 1, 44]) ∧
    (Reply.body ⟨1, 0x32, .ok, .skipped ⟨.a, 17⟩, atClose, 0⟩ = [0, 1, 17]) ∧
    (Reply.body ⟨1, 0x42, .ok, .outletState .printing, atClose, 0⟩ = [0, 3]) ∧
    (Reply.body ⟨1, 0x23, .noSuch, .empty, atClose, 0⟩ = [6]) := by decide +kernel

/-- A refusal record gives its request code, its result, and its date and time. An absent field is 00h: an empty record, K and L of a blank record, a class without a head, and the
target and threshold of a watch that is OFF (R195, R196). -/
theorem test_reply_parts :
    (Payload.parts (.refusal none 0)).head? = some (.given [0]) ∧
    Payload.parts (.refusal (some ⟨0x20, 1, .stock, atClose, 900⟩) 7) = [.given [1], .given [0x20], .open_,
      .given [0x21, 0x07, 0xEF, 2, 26, 10, 42, 7], .open_, .open_] ∧
    (CalibrationView.parts ⟨.blank, false, false, none, none⟩).drop 1 =
      [.given [0], .given [0], .given [0], .open_, .given [0], .open_, .given [0, 0]] ∧
    (ClassView.parts ⟨true, 1, 0, 300, 19, 0, none⟩) = [.given [1, 1, 0, 1, 44, 19, 0], .given [0]] ∧
    (ClassView.parts ⟨true, 1, 0, 300, 19, 2, some ⟨14, 1800, 14, true, false⟩⟩).drop 1 =
      [.given [1], .given [14], .open_, .given [1, 0]] ∧
    Watch.bytes ⟨.off, .notice, false, 0⟩ = [0, 0, 0, 1, 0, 0, 0] ∧
    Watch.bytes ⟨.pluSale 417, .hold, true, 2⟩ = [1, 1, 1, 161, 0, 2, 1, 0, 2] := by decide +kernel

theorem witness_RequestRoundTrip : ∃ c p t code b, requestInfo c = some (p, t, code, b) ∧ c.wf = true :=
  ⟨.pluWrite .office 15 65535 (promoted 4294967295 ⟨65535, 255, 255⟩), _, _, _, _, rfl, by decide +kernel⟩

theorem witness_StepsKeepLinkLaw : ∃ s t : State, s.LinkLaw ∧ step s = .next t :=
  ⟨(asking shop .office 1 (.readQueue .office 1)).withPending [.clockSecond], _, (waiting_asking calm_shop _ _ _).1, rfl⟩

theorem witness_StepsKeepChannelLaws : ∃ s t : State, step s = .next t ∧ s.WindowLaw ∧ s.PlatterLaw :=
  ⟨(withChannel .w3 w3Window).withPending [.silenceTimerExpiry .w3], _, rfl, w3_windowLaw, w3_platterLaw⟩

theorem witness_StepsKeepTransactionLaws : ∃ s t : State, s.TableLaw ∧ s.StockLaw ∧ step s = .next t :=
  ⟨shop, _, shop_tableLaw, shop_stockLaw, rfl⟩

theorem shop_boundLaw : shop.BoundLaw where
  bound := by
    intro x hx
    cases List.mem_singleton.mp hx
    exact .inl ⟨txn42, .head _, rfl, rfl⟩
  called := by
    intro y hy k hk
    simp only [shop, List.mem_cons, List.not_mem_nil, or_false] at hy
    rcases hy with rfl | rfl
    · cases hk
      exact ⟨⟨a17, .head _, rfl, rfl⟩, fun ⟨_, h⟩ => nomatch h⟩
    · cases hk
  once := by decide +kernel
  gone := ⟨.nil, fun _ ⟨_, h⟩ => nomatch h⟩
  closed := fun h => absurd h (by decide +kernel)

theorem witness_StepsKeepTicketLaw :
    ∃ s t : State, s.TableLaw ∧ s.TicketLaw ∧ s.DayLaw ∧ s.BoundLaw ∧ step s = .next t :=
  ⟨shop, _, shop_tableLaw, shop_ticketLaw, fun h => absurd h (by decide +kernel), shop_boundLaw, rfl⟩

theorem witness_StepsKeepOutletLaw : ∃ s t : State, s.OutletLaw ∧ step s = .next t :=
  ⟨(withOutlet .p1 p1).withPending [.clockSecond], _, p1_outletLaw, rfl⟩

theorem witness_StepsKeepTotalsLaw : ∃ s t : State, s.TotalsLaw ∧ step s = .next t :=
  ⟨shop, _, shop_totalsLaw, rfl⟩

/-- W3 with the store write of a CAL ZERO under way. -/
def w3Writing : Channel := { w3Held with
  slot := some { waitingOp .calZero .office 1 0x51 with phase := .writing { w3.record with z := some 120006 } none } }

theorem witness_OnlyStoreWritesChangeTheRecord : ∃ t, exec (.storeWriteEnd .w3 true) (withChannel .w3 w3Writing) = .next t ∧
    (t.channel .w3).record.counter = 42 :=
  ⟨_, rfl, by decide +kernel⟩

/-- The office link in LEARN, and UP with a frame half collected. -/
def learning : State := State.reset.setLink .office (.started true none 0)
def collecting (len : Byte) : State := State.reset.setLink .office { upLink [] with rx := [0xC3, len, 0x13] }

theorem witness_rate_learning : (learning.linkOf .office).state = .learn ∧
    97 * 4000000000 ≤ 100 * (67362 * Rate.r57600.bps) ∧ 100 * (71527 * Rate.r57600.bps) ≤ 103 * 4000000000 := by decide

theorem witness_rate_error (r : Rate) : 100 * (67361 * r.bps) < 97 * 4000000000 ∨ 103 * 4000000000 < 100 * (67361 * r.bps) := by
  cases r <;> decide

theorem witness_frame_gap (len : Byte) (h : len = 2 ∨ len = 242) : ((collecting len).linkOf .office).state = .up ∧
    ((collecting len).linkOf .office).rx = 0xC3 :: len :: [0x13] ∧ 2 ≤ len.toNat ∧ len.toNat ≤ 242 ∧ 1 < len.toNat + 2 ∧
    (0xC3 : Byte) ∉ len :: [0x13] ∧ ((collecting len).linkOf .office).buffer = [] := by
  rcases h with rfl | rfl <;> decide +kernel

/-- W3 held for the office with a write under way, W1 held for it without, and a grant for it pending at W2. -/
def holding : State :=
  (((asking State.reset .office 1 (.calHold .office 1 .w2)).setChannel .w3 w3Writing).setChannel .w1 w3Held).setChannel .w2
    { w3 with slot := some (waitingOp .zero (.station .s3) 2 0x13), pendingGrant := some ⟨.office, 1, 0x50⟩ }

theorem witness_link_reset : (holding.linkOf .office).state ≠ .down ∧ (holding.channel .w3).holdOwner = some .office ∧
    (holding.channel .w3).writing = true ∧ (holding.channel .w1).holdOwner = some .office ∧
    (holding.channel .w1).writing = false ∧ (holding.channel .w2).holdOwner ≠ some .office ∧
    (holding.channel .w2).pendingGrant.map (·.port) = some .office ∧ (holding.channel .w1).isHome (.station .s3) = true := by
  decide +kernel

/-- Four slots taken on the office link. -/
def fullLink : Link :=
  upLink [⟨1, .readStatus .office 1, .taken, 0⟩, ⟨2, .readStatus .office 2, .taken, 1⟩,
    ⟨3, .readStatus .office 3, .taken, 2⟩, ⟨4, .readStatus .office 4, .taken, 3⟩]

theorem witness_FrameAdmission : (State.reset.setLink .office fullLink).LinkLaw ∧
    (asking State.reset .office 1 (.readStatus .office 1)).LinkLaw ∧
    (fullLink.state = .up ∧ fullLink.rx = [] ∧ fullLink.buffer = [] ∧ fullLink.slots.length = 4) ∧
    (readRequest .office 2 0x01 [] = some (.readStatus .office 2) ∧ accessOf 0x01 = some .any) ∧
    readRequest .office 2 0x01 [0] = none ∧ (List.replicate 240 (0 : Byte)).length ≤ 240 ∧
    State.reset.link.restart = .idle :=
  ⟨linkLaw_setLink calm_reset _ (by constructor <;> decide), (waiting_asking calm_reset _ _ _).1, by decide +kernel⟩

/-- A reply that the office's transmitter sends, from a slot or of a refused frame. -/
def sending (fromSlot : Bool) : ReadyReply := ⟨fromSlot, ⟨2, 0x01, if fromSlot then .ok else .badRequest, .empty, atClose, 0⟩⟩
def answering : Link :=
  { upLink [⟨1, .readStatus .office 1, .taken, 0⟩, ⟨2, .readStatus .office 2, .ready, 1⟩] with
    tx := some (.reply (sending true)) }
def refusing : Link := { upLink [] with buffer := [⟨2, 0x01, [0], true⟩], tx := some (.reply (sending false)) }
def telling : Link := { upLink [] with tx := some (.notice (.dayState true 1 today .opened 0) 3) }

theorem witness_transmissions : (∀ l ∈ [answering, refusing, telling, upLink []], (State.reset.setLink .office l).LinkLaw) ∧
    State.reset.link.restart = .idle ∧ (upLink []).tx = none ∧ telling.tx = some (.notice (.dayState true 1 today .opened 0) 3) ∧
    (answering.tx = some (.reply (sending true)) ∧ answering.buffer = [] ∧
      answering.slots = [⟨1, .readStatus .office 1, .taken, 0⟩] ++ ⟨2, .readStatus .office 2, .ready, 1⟩ :: [] ∧
      (sending true).reply.tag = 2) ∧
    refusing.tx = some (.reply (sending false)) ∧ refusing.buffer = [⟨2, 0x01, [0], true⟩] := by
  refine ⟨fun l hl => linkLaw_setLink calm_reset _ ?_, by decide +kernel⟩
  simp only [List.mem_cons, List.not_mem_nil, or_false] at hl
  rcases hl with rfl | rfl | rfl | rfl <;> constructor <;> decide +kernel

/-- The refusing link with a second frame in its buffer. -/
def crammed : Link := { refusing with buffer := [⟨2, 0x01, [0], true⟩, ⟨3, 0x01, [], false⟩] }

theorem witness_frames : (∀ l ∈ [refusing, crammed], (State.reset.setLink .office l).LinkLaw ∧ l.state = .up ∧ l.rx = []) ∧
    (refusing.buffer = [⟨2, 0x01, [0], true⟩] ∧ crammed.buffer = [⟨2, 0x01, [0], true⟩, ⟨3, 0x01, [], false⟩]) ∧
    (crammed.tx = some (.reply (sending false)) ∧ (sending false).fromSlot = false) ∧
    (crc16 [2, 0x13, 0x01] ≠ (0x00 : Byte) ++ (0x00 : Byte) ∧ (0xC3 : Byte) ∉ [2, 0x13, 0x01, 0, 0]) ∧
    ((0x23 : Byte).toNat / 16 ≠ 1 ∧ (242 : Byte).toNat = (List.replicate 240 (0 : Byte)).length + 2) ∧
    ((1 : Byte).toNat < 2 ∧ 242 < (243 : Byte).toNat ∧ (0xC3 : Byte) ∉ [0x13]) := by
  refine ⟨fun l hl => ?_, by decide +kernel⟩
  simp only [List.mem_cons, List.not_mem_nil, or_false] at hl
  rcases hl with rfl | rfl <;>
    exact ⟨linkLaw_setLink calm_reset _ (by constructor <;> decide +kernel), by decide +kernel, by decide +kernel⟩

/-- A bad check is counted; a third frame is an overrun; and the frame behind a refused one is examined once the refusal is
sent (R3, R4, R7). -/
theorem test_frames :
    ((after (.frameReceived .office [0xC3, 2, 0x13, 1, 0, 0]) (State.reset.setLink .office (upLink []))).linkOf .office).checkErrors = 1 ∧
    ((after (.frameReceived .office (frameBytes 1 4 1 [])) (State.reset.setLink .office crammed)).linkOf .office).overruns = 1 ∧
    ((after (.transmitComplete .office) (State.reset.setLink .office crammed)).linkOf .office).slots =
      [⟨3, .readStatus .office 3, .admitted, 0⟩] := by decide +kernel

theorem witness_replies :
    ((State.reset.setLink .office answering).linkOf .office).slots.any (Slot.waitsFor ⟨.office, 1, 0x01⟩) = true ∧
    State.reset.transit.cancellations.any (Cancellation.names ⟨.office, 1, 0x01⟩) = false ∧
    ((State.reset.setLink .office answering).linkOf .office).slots.any (Slot.waitsFor ⟨.office, 3, 0x01⟩) = false := by
  decide +kernel

/-- A WEIGHT notice of W1, and sixteen notices that wait. -/
def weight1 : Notice := .weight ⟨.w1, .stable, none, .none, false, false⟩
def crowded : Link := { upLink [] with notices := List.replicate 16 (.dayState true 1 today .opened 0) }

theorem witness_notices :
    ((State.reset.linkOf .office).state ≠ .up) ∧ Priorities.default.get .weight < 3 ∧
    (upLink []).state = .up ∧ (upLink []).threshold ≤ Priorities.default.get .weight ∧
    ([weight1] = [] ++ weight1 :: [] ∧ ∀ x ∈ ([] : List Notice), x.weightPlatter ≠ some .w1) ∧
    (∀ x ∈ crowded.notices, x.weightPlatter ≠ weight1.weightPlatter) ∧ (crowded.notices.drop 1).length = 15 ∧
    crowded.notices.head?.isSome = true ∧ (upLink []).notices.length < 16 := by decide +kernel

theorem witness_LinkRequests : Meets .readStatus (fun _ _ => True) ∧
    Meets (fun p t => .readRefusal p t (.station .s1)) (fun p _ => p = .office) ∧
    Meets (fun p t => .readRefusal p t .office) (fun p _ => ¬(p = .office ∨ p = .office)) ∧
    Meets (fun p t => .readLink p t p) (fun p _ => p = .station .s1) ∧
    Meets (fun p t => .setThreshold p t 7) (fun _ _ => 1 ≤ 7 ∧ 7 ≤ 7) ∧ Meets (fun p t => .setThreshold p t 0) (fun _ _ => ¬1 ≤ 0) ∧
    Meets (fun p t => .setNoticePriority p t .weight 1) (fun _ _ => 1 ≤ 1) ∧
    Meets (fun p t => .setNoticePriority p t .weight 8) (fun _ _ => ¬8 ≤ 7) ∧
    Meets (fun p t => .setPermissions p t (.station .s6) 0xFF) (fun _ _ => True) ∧
    Meets (fun p t => .setPermissions p t .office 0xFF) (fun _ _ => True) :=
  ⟨meets shop .office _ trivial calm_shop, meets shop .office _ rfl calm_shop, meets shop (.station .s1) _ (by decide) calm_shop,
    meets shop (.station .s1) _ rfl calm_shop, meets shop .office _ (by decide) calm_shop,
    meets shop .office _ (by decide) calm_shop, meets shop .office _ (by decide) calm_shop,
    meets shop .office _ (by decide) calm_shop, meets shop .office _ trivial calm_shop, meets shop .office _ trivial calm_shop⟩

/-- A cancellation of the office's request of tag 1 on its way, with the entry that the request left at its block. -/
def cancelling (c : Instr) (s : State) : State :=
  { s with transit := { s.transit with
      cancellations := [⟨.office, 2, .readStatus .office 2, 0, false, 0⟩, ⟨.office, 1, c, 0, true, 1⟩] } }

/-- A PRICE ITEM of the office's request of tag 1 in flight on W3. -/
def flying : InFlight := ⟨⟨.office, 1, 0x20⟩, 1, .w3, 417, 4, .no, some 42, 37⟩

theorem witness_RequestCancellation :
    ((∀ x ∈ State.reset.transit.cancellations, ¬(x.port = .office ∧ x.tag = 1))) ∧
    (∀ c : Instr, (cancelling c State.reset).transit.cancellations =
      [⟨.office, 2, .readStatus .office 2, 0, false, 0⟩] ++ ⟨.office, 1, c, 0, true, 1⟩ :: []) ∧
    (∀ y ∈ [(⟨.office, 2, .readStatus .office 2, 0, false, 0⟩ : Cancellation)], ¬(y.port = .office ∧ y.tag = 1)) ∧
    ((requestOwner (.readStatus .office 1) = .link ∧ requestOwner (.cancelJob .office 1 .p1 120) = .outlet .p1 ∧
      requestOwner (.callNext .office 1 5) = .tickets ∧ requestOwner (.priceItem .office 1 .w3 417 5 .no) = .txn ∧
      requestOwner (.calZero .office 1 .w3) = .weighing .w3) ∧
    requestCode (.priceItem .office 1 .w3 417 5 .no) = flying.requester.code ∧ [flying] = [] ++ flying :: [] ∧
    requestCode (.calZero .office 1 .w3) = 0x51 ∧ (w3Writing.slot.bind (·.replyTo)) = some ⟨.office, 1, 0x51⟩) := by
  refine ⟨by decide +kernel, fun c => rfl, by decide +kernel, by decide +kernel⟩

/-- A request whose slot a link reset dropped before its block took it. -/
def dropped (p : Port) (c : Instr) (s : State) : State :=
  { s with transit := { s.transit with cancellations := [⟨p, 1, c, 0, true, 0⟩] } }

theorem witness_dropped_requests : (∀ p c s, (dropped p c s).transit.cancellations = [] ++ ⟨p, 1, c, 0, true, 0⟩ :: []) ∧
    (∀ q, ∀ z ∈ (shop.linkOf q).slots, 0 ≤ z.order) ∧
    (w3.working.home = .s3 ∧ w3.holdOwner = none ∧ w3.pendingGrant = none ∧ w3.state ≠ .held ∧ w3.slot = none ∧
      w3.tareKind = .none) ∧
    findPlu 1 shop.plus = some ⟨1, olive, true, 0, none⟩ :=
  ⟨fun _ _ _ => rfl, fun _ _ _ => Nat.zero_le _, by decide +kernel, rfl⟩

/-- The dropped ZERO enters the slot when it is taken first, and ends with its cancellation; a PLU WITHDRAW's effect stands
(R6). -/
theorem test_dropped_requests :
    let zero := Instr.zero (.station .s3) 1 .w3
    let s := after zero (dropped (.station .s3) zero (withChannel .w3 w3))
    (s.channel .w3).slot.isSome = true ∧ (((after (.requestCancellation (.station .s3) 1) s).channel .w3).slot = none) ∧
    (findPlu 1 (after (.pluWithdraw .office 1 1) (dropped .office (.pluWithdraw .office 1 1) shop)).plus).map (·.active) =
      some false := by decide +kernel

/-! ### Hypotheses that are met: weighing, operations, calibration -/

/-- W3 with a full window of one average and five fine weights like the one it gives. -/
def steady (zi : Option Int) (fine average : Int) : Channel :=
  { w3 with
    window := List.replicate 8 average, sum := (List.replicate 8 average).sum
    extremes := ((List.replicate 8 average).filter isExtreme).length, history := List.replicate 5 fine, zi := zi
    state := if zi.isSome then .motion else .zeroing }

theorem steady_windowLaw (zi : Option Int) (fine average : Int) : (steady zi fine average).WindowLaw :=
  ⟨by simp [steady, w3, Channel.started], rfl, rfl⟩

theorem w3_empty_windowLaw : w3.WindowLaw := ⟨by decide, rfl, rfl⟩

/-- The state of W3 after one more sample of the same average. -/
def sampled (zi : Option Int) (fine average : Int) : Channel :=
  (after (.sampleArrival .w3 (BitVec.ofInt 24 average)) (withChannel .w3 (steady zi fine average))).channel .w3

/-- Arrival 13 of the worked start takes the initial zero of 1,000 mg; 10 % of Max2 is the last that does. -/
theorem test_initial_zero : (sampled none 1000 120150).state = .stable ∧ (sampled none 1000 120150).zi = some 1000 ∧
    (sampled none 1500000 345000).zi = some 1500000 ∧ (sampled none 1500007 345001).zi = none ∧
    (sampled none 1500007 345001).state = .zeroing := by decide +kernel

/-- Overload above Max2 + 9 e2, underload below −20 e1, and neither at the limits themselves (R27). -/
theorem test_weighing_limits : (sampled (some 0) 15045000 2376750).state = .stable ∧
    (sampled (some 0) 15045007 2376751).state = .overload ∧ (sampled (some 0) (-40000) 114000).state = .stable ∧
    (sampled (some 0) (-40007) 113999).state = .underload := by decide +kernel

/-- Tracking moves Zp by the 240 mg of the worked drift, and not by 1,400 mg (chapter 2). -/
theorem test_tracking : (sampled (some 1000) 1240 120186).zp = 240 ∧ (sampled (some 1000) 2400 120360).zp = 0 := by
  decide +kernel

theorem witness_SamplesAreWeighed : w3.WindowLaw ∧ 0 < w3.working.n ∧ w3.window.length + 1 < w3.working.n ∧
    (∀ zi fine average, (steady zi fine average).WindowLaw ∧
      (steady zi fine average).window.length = (steady zi fine average).working.n ∧
      (steady zi fine average).record = w3.record ∧ (steady zi fine average).slot = none ∧
      (steady zi fine average).holdOwner = none ∧ (steady zi fine average).state ≠ .held) ∧
    w3.record.valid = true ∧ w3.record.z = some 120000 ∧ w3.record.k = some 1500000 ∧ w3.record.l = some 10000000 :=
  ⟨w3_empty_windowLaw, by decide, by decide, fun zi fine average =>
    ⟨steady_windowLaw zi fine average, by simp [steady, w3, Channel.started], rfl, rfl, rfl, by cases zi <;> simp [steady]⟩,
    by decide⟩

/-- A full window on a platter that is held, has no valid record, or has a tare consumed and the interlock set. -/
def steadyHeld : Channel := { steady (some 1000) 1000 120150 with state := .held, holdOwner := some .office }
def steadyBlank : Channel := { steady none 1000 120150 with record := .blank, state := .uncalibrated }
def steadyConsumed : Channel :=
  { steady (some 1000) 2000 120300 with
    working := { w3.working with autoTareClear := true }, tare := 150000, tareKind := .preset, consumedSinceTare := true
    interlock := true, interlockRef := 2540320 }

theorem witness_evaluations : (∀ c ∈ [steadyHeld, steadyBlank, steadyConsumed],
      c.working.n ≤ c.window.length + 1 ∧ 0 < c.working.n ∧ c.window.length ≤ c.working.n ∧ c.sum = c.window.sum ∧
        c.extremes = (c.window.filter isExtreme).length) ∧
    steadyHeld.holdOwner ≠ none ∧ (steadyBlank.holdOwner = none ∧ steadyBlank.state ≠ .held ∧ steadyBlank.record.valid = false) ∧
    (steadyConsumed.record.valid = true ∧ (0 : Int) < 1500000) := by decide +kernel

/-- Near zero the consumed tare is cleared and the interlock released (R35, R57); held or without a valid record, neither
zero nor tare moves (R27, R38). -/
theorem test_evaluations :
    (let d := (after (.sampleArrival .w3 (BitVec.ofInt 24 120150)) (withChannel .w3 steadyConsumed)).channel .w3
     (d.tareKind, d.interlock)) = (.none, false) ∧
    ((after (.sampleArrival .w3 (BitVec.ofInt 24 120150)) (withChannel .w3 steadyHeld)).channel .w3).zi = some 1000 ∧
    ((after (.sampleArrival .w3 (BitVec.ofInt 24 120150)) (withChannel .w3 steadyBlank)).channel .w3).state = .uncalibrated := by
  decide +kernel

/-- A ZERO that waits completes at the evaluation: Zp takes the 299 g above the zero, within 2 % of Max2 (R53). -/
theorem test_zero_at_evaluation :
    let c := { steady (some 1000) 300000 165000 with slot := some (waitingOp .zero (.station .s3) 1 0x11) }
    let d := (after (.sampleArrival .w3 (BitVec.ofInt 24 165000)) (withChannel .w3 c)).channel .w3
    (d.state, d.zp, d.slot) = (.stable, 299000, none) := by decide +kernel

/-- W3 with a report that differs from the last sent and its timer running. -/
def w3Reporting : Channel := { w3 with reportTimer := some 200, reportPending := true }

theorem witness_ChannelTimers : w3.silence ≠ none ∧ (w3.state ≠ .uncalibrated ∧ w3.state ≠ .held ∧ w3.state ≠ .fault) ∧
    (w3Held.silence ≠ none ∧ w3Held.state = .held) ∧ w3Reporting.reportTimer ≠ none ∧
    w3Reporting.lastSent ≠ some (w3Reporting.report .w3) ∧ w3.reportTimer = none ∧ w3.lastSent ≠ some (w3.report .w3) ∧
    ({ w3 with lastSent := some (w3.report .w3) }).lastSent = some (w3.report .w3) ∧
    ((State.reset.setLink (.station .s3) (upLink [])).linkOf (.station .s3)).state = .up := by decide +kernel

theorem calm_channel (w : Platter) (c : Channel) : Calm (withChannel w c) := ⟨rfl, rfl, rfl⟩

theorem witness_TaresAndWeights :
    Meets (fun p t => .presetTare p t .w3 1) (fun p s => p = .station (s.channel .w3).working.home ∧
      (s.channel .w3).state = .motion ∧ 2 * (1 * (s.channel .w3).record.met.e1) ≤ 2 * 1 + (s.channel .w3).record.met.e1) ∧
    Meets (fun p t => .presetTare p t .w3 0) (fun _ s => 0 < (s.channel .w3).record.met.e1) ∧
    Meets (fun p t => .presetTare p t .w3 6001) (fun _ s => (s.channel .w3).record.met.max1 < 3001 * (s.channel .w3).record.met.e1) ∧
    Meets (fun p t => .presetTare p t .w3 6000) (fun p s => p ≠ .station (s.channel .w3).working.home) ∧
    Meets (fun p t => .clearTare p t .w3) (fun p s => p = .station (s.channel .w3).working.home) ∧
    Meets (fun p t => .readWeight p t .w3) (fun _ s => (s.channel .w3).state = .stable ∧ (s.channel .w3).fine = some 2541560 ∧
      (s.channel .w3).zi = some 1000 ∧ 0 < (s.channel .w3).record.met.e1 ∧ 0 < (s.channel .w3).record.met.e2) ∧
    Meets (fun p t => .readWeight p t .w3) (fun _ s => (s.channel .w3).state = .zeroing) :=
  ⟨meets (withChannel .w3 w3Tared) (.station .s3) _ (by decide +kernel) (calm_channel _ _),
    meets (withChannel .w3 w3Tared) (.station .s3) _ (by decide +kernel) (calm_channel _ _),
    meets (withChannel .w3 w3Tared) (.station .s3) _ (by decide +kernel) (calm_channel _ _),
    meets (withChannel .w3 w3Tared) .office _ (by decide +kernel) (calm_channel _ _),
    meets (withChannel .w3 w3Tared) (.station .s3) _ (by decide +kernel) (calm_channel _ _),
    meets (withChannel .w3 { w3Tared with fine := some 2541560, state := .stable }) .office _ (by decide +kernel) (calm_channel _ _),
    meets (withChannel .w3 w3) .office _ (by decide +kernel) (calm_channel _ _)⟩

/-- The state with W3 held for the office and SEAL active. -/
def sealed : State := { withChannel .w3 w3Held with sealHigh := true }

theorem witness_OperationsEnterTheSlot :
    Meets (fun p t => .zero p t .w3) (fun p s => p = .station (s.channel .w3).working.home ∧ (s.channel .w3).holdOwner = none ∧
      (s.channel .w3).slot = none ∧ (s.channel .w3).tareKind = .none) ∧
    Meets (fun p t => .zero p t .w3) (fun _ s => (s.channel .w3).tareKind ≠ .none) ∧
    Meets (fun p t => .tare p t .w3) (fun p s => p = .station (s.channel .w3).working.home ∧ (s.channel .w3).slot = none) ∧
    Meets (fun p t => .tare p t .w3) (fun _ s => (s.channel .w3).holdOwner ≠ none) ∧
    Meets (fun p t => .calZero p t .w3) (fun p s => (s.channel .w3).holdOwner = some p ∧ s.sealHigh = true) ∧
    Meets (fun p t => .calZero p t .w3) (fun p s => (s.channel .w3).holdOwner = some p ∧ s.sealHigh = false) ∧
    Meets (fun p t => .calSpan p t .w3 10000) (fun p s => (s.channel .w3).holdOwner = some p ∧ s.sealHigh = true ∧
      (s.channel .w3).record.z ≠ none) ∧
    Meets (fun p t => .calSpan p t .w3 10000) (fun p s => (s.channel .w3).holdOwner ≠ some p) :=
  ⟨meets (withChannel .w3 w3) (.station .s3) _ (by decide +kernel) (calm_channel _ _),
    meets (withChannel .w3 w3Tared) (.station .s3) _ (by decide +kernel) (calm_channel _ _),
    meets (withChannel .w3 w3) (.station .s3) _ (by decide +kernel) (calm_channel _ _),
    meets (withChannel .w3 w3Held) (.station .s3) _ (by decide +kernel) (calm_channel _ _),
    meets sealed .office _ (by decide +kernel) ⟨rfl, rfl, rfl⟩,
    meets (withChannel .w3 w3Held) .office _ (by decide +kernel) (calm_channel _ _),
    meets sealed .office _ (by decide +kernel) ⟨rfl, rfl, rfl⟩,
    meets (withChannel .w3 w3Held) (.station .s3) _ (by decide +kernel) (calm_channel _ _)⟩

/-- W3 in a state and at a gross weight, with an operation of the home station that waits. -/
def operating (kind : OpKind) (state : PlatterState) (gross : Int) : Channel :=
  { w3 with state := state, zi := some 1000, fine := some (1000 + gross), slot := some (waitingOp kind (.station .s3) 1 0x13) }

/-- W3 held, six averages in its calibration history, with a CAL SPAN of 10 kg that waits. -/
def spanning (average : Int) : Channel :=
  { w3Held with calHistory := List.replicate 6 average, slot := some (waitingOp .calSpan .office 1 0x52) }

theorem witness_OperationsComplete :
    (∀ kind state gross, ∃ op, (operating kind state gross).slot = some op ∧ op.phase = .waiting ∧ op.kind = kind ∧
      (operating kind state gross).gross = some (1000 + gross - (1000 + 0))) ∧
    ((w3.zp + 300000).natAbs : Int) ≤ 20 * w3.record.met.max2 ∧ ¬((w3.zp + 300001).natAbs : Int) ≤ 20 * w3.record.met.max2 ∧
    ((6000000 : Int) ≤ 1000 * w3.record.met.max1 ∧ 0 < w3.record.met.roundWeight 6000000) ∧
    ¬((6000001 : Int) ≤ 1000 * w3.record.met.max1) ∧ ¬0 < w3.record.met.roundWeight 999 ∧ 0 < w3.record.met.roundWeight 1000 ∧
    w3.interlock = false ∧ ({ operating .capture .stable 0 with interlock := true } : Channel).interlock = true ∧
    ((spanning 220000).calHistory = List.replicate 5 220000 ++ [220000] ∧
      (spanning 220000).calHistory.length = (spanning 220000).working.m ∧ spread (spanning 220000).calHistory ≤ 64 ∧
      (spanning 220000).extremes = 0 ∧ 100000 ≤ (220000 : Int) - 120000 ∧ ¬100000 ≤ (219999 : Int) - 120000 ∧
      100 * w3.record.met.max2 ≤ 1000 * 10000 ∧ 1000 * 10000 ≤ 1000 * w3.record.met.max2) :=
  ⟨fun _ _ _ => ⟨_, rfl, rfl, rfl, rfl⟩, by decide +kernel⟩

/-- A span test with K at its least passes; one count less is refused BAD_SPAN (R65). -/
theorem test_span_limit :
    (((withChannel .w3 (spanning 220000)).testOperation .w3).channel .w3).slot.map (·.phase) =
      some (.writing { w3.record with k := some 100000, l := some 10000000, valid := true } none) ∧
    (((withChannel .w3 (spanning 219999)).testOperation .w3).channel .w3).slot = none := by decide +kernel

/-- A CAPTURE of number 7 that waits on W3. -/
def capturing : Channel := { w3 with slot := some ⟨.capture, .station .s3, 1, none, 7, 0, .waiting, some 3000, .reweigh⟩ }

/-- Messages of a capture's end, first for W3, with its PRICE ITEM in flight. -/
def capturesEnding : State :=
  { withTransit { Transit.empty with
      captureCancels := [(.w3, 7)], captureRefusals := [⟨.w3, 1, .reweigh⟩], consumptions := [(.w3, 213)] } with
    txn := { TxnTable.cold with inFlight := [flying] } }

theorem witness_OperationsEndAndCapturesAreConsumed :
    (∃ op, (operating .zero .motion 0).slot = some op ∧ op.phase = .waiting ∧ op.kind ≠ .capture ∧
      op.replyTo = some ⟨.station .s3, 1, 0x13⟩) ∧
    (∃ op, capturing.slot = some op ∧ op.phase = .waiting ∧ op.kind = .capture ∧ op.replyTo = none ∧ op.captureRequest = 7) ∧
    capturing.pendingGrant = none ∧ capturesEnding.transit.captureCancels = (.w3, 7) :: [] ∧
    (w3.slot = none ∧ w3.pendingGrant = none) ∧
    capturesEnding.transit.captureRefusals = ⟨.w3, 1, .reweigh⟩ :: [] ∧
    (capturesEnding.txn.inFlight = [] ++ flying :: [] ∧ flying.platter = .w3 ∧ flying.request = 1) ∧
    (∀ y ∈ shop.txn.inFlight, y.platter ≠ .w3 ∨ y.request ≠ 1) ∧
    capturesEnding.transit.consumptions = (.w3, 213) :: [] ∧
    ({ w3 with openCapture := some (213, 2540320) } : Channel).openCapture = some (213, 2540320) ∧
    (∀ g, w3.openCapture ≠ some (213, g)) :=
  ⟨⟨_, rfl, rfl, by decide, rfl⟩, ⟨_, rfl, rfl, rfl, rfl, rfl⟩, rfl, rfl, ⟨rfl, rfl⟩, rfl, ⟨rfl, rfl, rfl⟩, by decide +kernel, rfl,
    rfl, by simp [w3, Channel.started]⟩

/-- A pending grant of the office is given when the operation before it times out (R52, R58). -/
theorem test_pending_grant :
    (holding.channel .w2).pendingGrant = some ⟨.office, 1, 0x50⟩ ∧
    ((after (.operationTimeout .w2) holding).channel .w2).holdOwner = some .office ∧
    ((after (.operationTimeout .w2) holding).channel .w2).state = .held := by decide +kernel

theorem witness_CalibrationHold :
    Meets (fun p t => .calHold p t .w3) (fun p s => (s.channel .w3).holdOwner = some p) ∧
    Meets (fun p t => .calHold p t .w3) (fun p s => (s.channel .w3).holdOwner ≠ some p ∧ (s.channel .w3).holdOwner ≠ none) ∧
    Meets (fun p t => .calHold p t .w3) (fun _ s => (s.channel .w3).holdOwner = none ∧ (s.channel .w3).state ≠ .held ∧
      (s.channel .w3).slot = none) ∧
    Meets (fun p t => .calHold p t .w3) (fun _ s => (s.channel .w3).holdOwner = none ∧ (s.channel .w3).state ≠ .held ∧
      (s.channel .w3).slot ≠ none) ∧
    Meets (fun p t => .calRelease p t .w3) (fun p s => (s.channel .w3).holdOwner = some p ∧ (s.channel .w3).slot = none ∧
      (s.channel .w3).record.valid = true) ∧
    Meets (fun p t => .calRelease p t .w3) (fun p s => (s.channel .w3).holdOwner = some p ∧ (s.channel .w3).slot = none ∧
      (s.channel .w3).record.valid = false) :=
  ⟨meets (withChannel .w3 w3Held) .office _ (by decide +kernel) (calm_channel _ _),
    meets (withChannel .w3 w3Held) (.station .s3) _ (by decide +kernel) (calm_channel _ _),
    meets (withChannel .w3 w3) .office _ (by decide +kernel) (calm_channel _ _),
    meets (withChannel .w3 capturing) .office _ (by decide +kernel) (calm_channel _ _),
    meets (withChannel .w3 w3Held) .office _ (by decide +kernel) (calm_channel _ _),
    meets (withChannel .w3 { w3Held with record := .blank }) .office _ (by decide +kernel) (calm_channel _ _)⟩

/-- W3 with a write under way whose owner's link was reset. -/
def w3Orphan : Channel := { w3Writing with
  holdOwner := none
  slot := some { waitingOp .calZero .office 1 0x51 with replyTo := none, phase := .writing w3.record none } }

theorem witness_StoreWritesAndSeal :
    (∃ op record, w3Writing.slot = some op ∧ op.phase = .writing record none ∧ w3Writing.pendingGrant = none ∧
      w3Writing.holdOwner ≠ none ∧ op.replyTo = some ⟨.office, 1, 0x51⟩) ∧
    (∃ op record, w3Orphan.slot = some op ∧ op.phase = .writing record none ∧ w3Orphan.pendingGrant = none ∧
      w3Orphan.holdOwner = none ∧ w3Orphan.state = .held ∧ op.replyTo = none) ∧
    (∃ op record f, ({ w3Writing with slot := some { waitingOp .configure .office 1 0x54 with
        phase := .writing w3.record (some ⟨none, none, none, none, some 4, none, none, none, none, none, none⟩) } } : Channel).slot =
      some op ∧ op.phase = .writing record f ∧ f ≠ none) ∧
    State.reset.sealHigh = false ∧ sealed.sealHigh = true ∧ (∀ w, (sealed.channel w).pendingGrant = none) :=
  ⟨⟨_, _, rfl, rfl, rfl, by decide, rfl⟩, ⟨_, _, rfl, rfl, rfl, rfl, rfl, rfl⟩, ⟨_, _, _, rfl, rfl, by decide⟩, rfl, rfl,
    by intro w; cases w <;> rfl⟩

/-- The office's CAL SPAN of tag 1 taken, and waiting at W3 under an active SEAL. -/
def spanTaken : Link := upLink [⟨1, .calSpan .office 1 .w3 10000, .taken, 0⟩]
def sealedSpan : State := { (withChannel .w3 (spanning 220000)).setLink .office spanTaken with sealHigh := true }

theorem witness_sealed_reply : sealedSpan.sealHigh = true ∧ (∀ w ∈ Platter.all, (sealedSpan.channel w).pendingGrant = none) ∧
    (sealedSpan.channel .w3).slot = some (waitingOp .calSpan .office 1 0x52) ∧
    (waitingOp .calSpan .office 1 0x52).replyTo = some ⟨.office, 1, 0x52⟩ ∧
    (sealedSpan.linkOf .office).slots.any (Slot.waitsFor ⟨.office, 1, 0x52⟩) = true ∧
    sealedSpan.transit.cancellations.any (Cancellation.names ⟨.office, 1, 0x52⟩) = false := by decide +kernel

/-- The fall of SEAL refuses it SEALED (R62). -/
theorem test_sealed_reply :
    ((after .sealFalls sealedSpan).channel .w3).slot = none ∧
    ((after .sealFalls sealedSpan).linkOf .office).replies.map (fun r => (r.reply.tag, r.reply.code, r.reply.result)) =
      [(1, 0x52, .sealed)] := by decide +kernel

/-- CONFIGURE PLATTER fields: a second range, a window length, and a home port. -/
def ranged (max2 : Option Nat) (n : Option Nat) (home : Option Port) : PlatterFields :=
  ⟨none, none, max2, none, n, none, none, none, none, home, none⟩

theorem witness_ConfigurePlatter :
    Meets (fun p t => .configurePlatter p t .w3 (ranged none (some 32) none)) (fun p s => (s.channel .w3).holdOwner = some p) ∧
    Meets (fun p t => .configurePlatter p t .w3 (ranged none (some 5) none)) (fun p s => (s.channel .w3).holdOwner = some p) ∧
    Meets (fun p t => .configurePlatter p t .w3 (ranged none none (some .office))) (fun p s => (s.channel .w3).holdOwner = some p) ∧
    Meets (fun p t => .configurePlatter p t .w3 (ranged (some 15000) none none)) (fun p s =>
      (s.channel .w3).holdOwner = some p ∧ (s.channel .w3).slot = none ∧ s.sealHigh = true ∧ 15000 / 5 ≤ 3000) ∧
    Meets (fun p t => .configurePlatter p t .w3 (ranged (some 15005) none none)) (fun p s =>
      (s.channel .w3).holdOwner = some p ∧ s.sealHigh = true ∧ ¬15005 / 5 ≤ 3000) ∧
    Meets (fun p t => .configurePlatter p t .w3 (ranged (some 15000) none none)) (fun _ s => s.sealHigh = false) ∧
    Meets (fun p t => .configurePlatter p t .w3 (ranged none none none)) (fun p s => (s.channel .w3).holdOwner ≠ some p) ∧
    Meets (fun p t => .readCalibration p t .w3) (fun _ _ => True) :=
  ⟨meets sealed .office _ (by decide +kernel) ⟨rfl, rfl, rfl⟩, meets sealed .office _ (by decide +kernel) ⟨rfl, rfl, rfl⟩,
    meets sealed .office _ (by decide +kernel) ⟨rfl, rfl, rfl⟩, meets sealed .office _ (by decide +kernel) ⟨rfl, rfl, rfl⟩,
    meets sealed .office _ (by decide +kernel) ⟨rfl, rfl, rfl⟩,
    meets (withChannel .w3 w3Held) .office _ (by decide +kernel) (calm_channel _ _),
    meets sealed (.station .s3) _ (by decide +kernel) ⟨rfl, rfl, rfl⟩, meets sealed (.station .s3) _ trivial ⟨rfl, rfl, rfl⟩⟩

/-- The fields of a CONFIGURE PLATTER as the statements say them and as the model applies them. -/
theorem test_working_fields :
    let c := { steady (some 1000) 1000 120150 with calHistory := [1, 2, 3, 4, 5, 6] }
    let f : PlatterFields := ⟨none, none, none, none, none, some 3, some 9, some 1, some 65535, some (.station .s1), some true⟩
    c.withWorking f = c.applyWorking f ∧ c.withWorking { f with n := some 32 } = c.applyWorking { f with n := some 32 } ∧
    (c.applyWorking f).calHistory = [4, 5, 6] ∧ (c.applyWorking f).working = ⟨8, 3, 6, 500, 1000, .s1, true⟩ := by decide +kernel

/-! ### Hypotheses that are met: PLU table, pricing, transactions -/

theorem asking_salesLaw {s : State} (h : s.SalesLaw) (p : Port) (t : Tag) (c : Instr) : (asking s p t c).SalesLaw := h

theorem asking_tableLaw {s : State} (h : s.TableLaw) (p : Port) (t : Tag) (c : Instr) : (asking s p t c).TableLaw :=
  ⟨h.sales, h.next, h.parkedOnce, h.parkedRoom, h.parked, h.openTxns, h.closedRoom, h.closedOnce, h.apart, h.flights, h.flightRoom⟩

theorem asking_stockLaw {s : State} (h : s.StockLaw) (p : Port) (t : Tag) (c : Instr) : (asking s p t c).StockLaw :=
  ⟨h.order, h.room, h.counts, h.present, h.accounts⟩

/-- A request of the office at the shop, or of S3, and what else holds there. -/
theorem office {i : Port → Tag → Instr} {more : Port → State → Prop}
    (h : more .office (asking shop .office 1 (i .office 1))) : Meets i more := meets shop .office i h calm_shop
theorem atS3 {i : Port → Tag → Instr} {more : Port → State → Prop}
    (h : more (.station .s3) (asking shop (.station .s3) 1 (i (.station .s3) 1))) : Meets i more :=
  meets shop (.station .s3) i h calm_shop

theorem witness_PluReads :
    Meets (fun p t => .pluRead p t 1) (fun _ s => s.plus.Pairwise (fun x y => x.number < y.number) ∧ ∃ r ∈ s.plus, r.number = 1) ∧
    Meets (fun p t => .pluRead p t 9999) (fun _ s => ∃ r ∈ s.plus, r.number = 9999) ∧
    Meets (fun p t => .pluRead p t 2) (fun _ s => ∀ r ∈ s.plus, r.number ≠ 2) ∧
    Meets (fun p t => .pluRead p t 0) (fun _ _ => 0 < 1) ∧ Meets (fun p t => .pluRead p t 10000) (fun _ _ => 9999 < 10000) ∧
    Meets (fun p t => .pluReadNext p t 0) (fun _ s => s.plus.Pairwise (fun x y => x.number < y.number) ∧
      ∃ r ∈ s.plus, 0 < r.number ∧ ∀ y ∈ s.plus, 0 < y.number → r.number ≤ y.number) ∧
    Meets (fun p t => .pluReadNext p t 9999) (fun _ s => ∀ r ∈ s.plus, r.number ≤ 9999) ∧
    Meets (fun p t => .pluReadNext p t 10000) (fun _ _ => 9999 < 10000) :=
  ⟨office (by decide +kernel), office (by decide +kernel), office (by decide +kernel), office (by decide +kernel),
    office (by decide +kernel), office (by decide +kernel), office (by decide +kernel), office (by decide +kernel)⟩

/-- A table of 1000 records. -/
def fullTable : State := { shop with plus := (List.range 1000).map fun n => ⟨n + 1, olive, true, 0, none⟩ }

theorem witness_PluWrite :
    Meets (fun p t => .pluWrite p t 2 ham) (fun _ s => findPlu 2 s.plus = none ∧ s.plus.length < 1000) ∧
    Meets (fun p t => .pluWrite p t 9999 ham) (fun _ s => ∃ r, findPlu 9999 s.plus = some r ∧ ham.kind = r.fields.kind) ∧
    Meets (fun p t => .pluWrite p t 417 olive) (fun _ s => ∃ r, findPlu 417 s.plus = some r ∧ olive.kind ≠ r.fields.kind ∧
      r.openLines ≠ 0) ∧
    Meets (fun p t => .pluWrite p t 1001 ham) (fun _ s => findPlu 1001 s.plus = none ∧ ¬s.plus.length < 1000) ∧
    Meets (fun p t => .pluWrite p t 0 ham) (fun _ _ => ¬1 ≤ 0) ∧
    Meets (fun p t => .pluWrite p t 1 { ham with unitPrice := 1000000 }) (fun _ _ => ¬1000000 ≤ 999999) ∧
    (1 ≤ 9999 ∧ (1 ≤ ham.name.length ∧ ham.name.length ≤ 24) ∧ ham.second = none ∧ ham.unitPrice ≤ 999999 ∧
      ham.promotion = none ∧ 1 ≤ ham.department ∧ ham.department ≤ 16 ∧ ham.presetTare = none ∧ ham.shelfLife = some 5) :=
  ⟨office (by decide +kernel), office ⟨_, rfl, by decide⟩, office ⟨_, rfl, by decide, by decide⟩,
    meets fullTable .office _ (by decide +kernel) ⟨rfl, rfl, rfl⟩, office (by decide), office (by decide), by decide +kernel⟩

theorem witness_PluStatus :
    Meets (fun p t => .pluDelete p t 9999) (fun _ s => ∃ r, findPlu 9999 s.plus = some r ∧ r.openLines = 0) ∧
    Meets (fun p t => .pluDelete p t 417) (fun _ s => ∃ r, findPlu 417 s.plus = some r ∧ r.openLines ≠ 0) ∧
    Meets (fun p t => .pluWithdraw p t 1) (fun _ s => ∃ r, findPlu 1 s.plus = some r) ∧
    Meets (fun p t => .pluRestore p t 9999) (fun _ s => ∃ r, findPlu 9999 s.plus = some r) ∧
    Meets (fun p t => .pluRestore p t 2) (fun _ s => findPlu 2 s.plus = none) ∧
    Meets (fun p t => .pluWithdraw p t 10000) (fun _ _ => 9999 < 10000) :=
  ⟨office ⟨_, rfl, rfl⟩, office ⟨_, rfl, by decide⟩, office ⟨_, rfl⟩, office ⟨_, rfl⟩, office (by decide +kernel),
    office (by decide)⟩

theorem witness_StockLoads :
    Meets (fun p t => .stockLoad p t 417 99999999 .keep) (fun _ s => ∃ r, findPlu 417 s.plus = some r ∧ r.stock ≠ none) ∧
    Meets (fun p t => .stockLoad p t 1 0 (.given 99999999)) (fun _ s => ∃ r, findPlu 1 s.plus = some r ∧ r.openLines = 0) ∧
    Meets (fun p t => .stockLoad p t 1 100000000 .absent) (fun _ _ => 99999999 < 100000000) ∧
    Meets (fun p t => .stockLoad p t 2 0 .absent) (fun _ s => findPlu 2 s.plus = none) ∧
    Meets (fun p t => .stockLoadNone p t 417) (fun _ s => ∃ r a, findPlu 417 s.plus = some r ∧ r.stock = some a ∧ a.held ≠ 0) ∧
    Meets (fun p t => .stockLoadNone p t 9999) (fun _ s => ∃ r, findPlu 9999 s.plus = some r ∧ r.stock = none) ∧
    Meets (fun p t => .stockLoadNone p t 0) (fun _ _ => 0 < 1) :=
  ⟨office ⟨_, rfl, by decide⟩, office ⟨_, rfl, rfl⟩, office (by decide), office (by decide +kernel),
    office ⟨_, _, rfl, rfl, by decide⟩, office ⟨_, rfl, rfl⟩, office (by decide)⟩

/-- A capture without a tare at a net weight. -/
def weighing (grams : Int) : CaptureRecord := ⟨1, .w3, 1000 * grams, 1000 * grams, grams, 2, 0, .none, ⟨6000, 2, 15000, 5⟩, 1⟩

theorem witness_PricingByWeight : ham.kind = .byWeight ∧ (weighing 40).tareKind = .none ∧ ham.presetTare = none ∧
    (weighing (-2)).net < 0 ∧ (weighing 38).net < 20 * (weighing 38).met.e1 ∧ 20 * (weighing 40).met.e1 ≤ (weighing 40).net ∧
    (weighing 15000).netFine ≤ 1000 * (weighing 15000).met.max2 ∧ 1000 * (weighing 15005).met.max2 < (weighing 15005).netFine ∧
    0 < untared.met.e1 ∧ tared.tareKind = .preset ∧ (1 : Nat) ≤ PricingSettings.step ⟨0, 1⟩ := by decide +kernel

/-- Net weights at the least and the most that are priced, and just outside (R90). -/
theorem test_price_limits :
    (priceByWeight ⟨1, 1⟩ none today ham (weighing (-2))).toOption = none ∧
    amountOf (priceByWeight ⟨1, 1⟩ none today ham (weighing 40)) = some (76, some ⟨2031, 3, 3⟩) ∧
    (priceByWeight ⟨1, 1⟩ none today ham (weighing 38)).toOption = none ∧
    amountOf (priceByWeight ⟨1, 1⟩ none today ham (weighing 15000)) = some (28485, some ⟨2031, 3, 3⟩) ∧
    (priceByWeight ⟨1, 1⟩ none today ham (weighing 15005)).toOption = none := by decide +kernel

/-- CONFIGURE STATION fields: a primary outlet and a rounding step. -/
def routed (primary : Option (Option OutletId)) (step : Option Nat) : StationFields := ⟨primary, none, none, none, none, step⟩

theorem witness_ClerksAndStations :
    Meets (fun p t => .clerkWrite p t 1 (List.replicate 12 0x41) true) (fun _ _ => 1 = (0 : ClerkNo).val + 1) ∧
    Meets (fun p t => .clerkWrite p t 16 [] false) (fun _ s => (s.clerk 15).openTxn = none ∧ ∀ x ∈ s.txn.held, x.clerk ≠ 15) ∧
    Meets (fun p t => .clerkWrite p t 5 [] false) (fun _ s => (s.clerk 4).openTxn ≠ none) ∧
    Meets (fun p t => .clerkWrite p t 17 [] true) (fun _ _ => 16 < 17) ∧
    Meets (fun p t => .clerkWrite p t 1 (List.replicate 13 0x41) true) (fun _ _ => 12 < (List.replicate 13 (0x41 : Byte)).length) ∧
    Meets (fun p t => .configureStation p t (.station .s3) (routed (some none) (some 10))) (fun p _ => p = .office) ∧
    Meets (fun p t => .configureStation p t (.station .s3) (routed (some (some .p4)) none)) (fun p _ => p = .station .s3) ∧
    Meets (fun p t => .configureStation p t (.station .s3) (routed none (some 10))) (fun p _ => p ≠ .office) ∧
    Meets (fun p t => .configureStation p t .office (routed none none)) (fun _ _ => True) ∧
    Meets (fun p t => .readClerk p t 7) (fun _ _ => 7 = (6 : ClerkNo).val + 1) ∧
    Meets (fun p t => .readClerk p t 0) (fun _ _ => 0 < 1) :=
  ⟨office (by decide), office (by decide +kernel), office (by decide +kernel), office (by decide), office (by decide),
    office rfl, atS3 rfl, atS3 (by decide), office trivial, office (by decide), office (by decide)⟩

/-- The shop with W3 weighing. -/
def shopW3 : State := shop.setChannel .w3 w3

theorem witness_PriceItemArrives :
    Meets (fun p t => .priceItem p t .w3 417 5 .dflt) (fun p s => s.totals.day.opened ≠ none ∧ 5 = (4 : ClerkNo).val + 1 ∧
      (s.clerk 4).enabled = true ∧ (∃ r, findPlu 417 s.plus = some r ∧ r.active = true ∧ r.fields.kind = .byWeight) ∧
      p = .station (s.channel .w3).working.home ∧ (s.channel .w3).slot = none ∧ (s.channel .w3).holdOwner = none) ∧
    Meets (fun p t => .priceItem p t .w3 9999 5 .dflt) (fun _ s => ∃ r, findPlu 9999 s.plus = some r ∧ r.active = false) ∧
    Meets (fun p t => .priceItem p t .w3 233 5 .dflt) (fun _ s => ∃ r, findPlu 233 s.plus = some r ∧ r.fields.kind ≠ .byWeight) ∧
    Meets (fun p t => .priceItem p t .w3 417 1 .dflt) (fun _ s => (s.clerk 0).enabled = false) ∧
    Meets (fun p t => .priceItem p t .w3 417 17 .dflt) (fun _ _ => 16 < 17) ∧
    Meets (fun p t => .priceItem p t .w3 417 5 .dflt) (fun _ s => s.totals.day.opened = none) :=
  ⟨meets shopW3 (.station .s3) _ ⟨by decide +kernel, by decide, by decide +kernel, ⟨_, rfl, rfl, rfl⟩, by decide +kernel, rfl, rfl⟩
      ⟨rfl, rfl, rfl⟩,
    office ⟨_, rfl, rfl⟩, office ⟨_, rfl, by decide⟩, office (by decide +kernel), office (by decide),
    meets State.reset (.station .s3) _ rfl calm_reset⟩

/-- The worked capture on its way to the transaction table, with its PRICE ITEM in flight. -/
def captured : State :=
  { shopW3 with
    transit := { Transit.empty with captures := [tared] }
    txn := { shop.txn with inFlight := [flying] } }

/-- A PRICE ITEM on a platter whose last capture is on its way, and the same once that capture has been taken. -/
theorem witness_price_item_waits :
    Meets (fun p t => .priceItem p t .w3 417 5 .dflt) (fun p s => s.totals.day.opened ≠ none ∧ (s.clerk 4).enabled = true ∧
      (∃ r, findPlu 417 s.plus = some r ∧ r.active = true ∧ r.fields.kind = .byWeight) ∧
      p = .station (s.channel .w3).working.home ∧ (s.channel .w3).slot = none ∧ (s.channel .w3).holdOwner = none ∧
      ∃ e ∈ s.txn.inFlight, e.platter = .w3) :=
  meets captured (.station .s3) _ ⟨by decide +kernel, by decide +kernel, ⟨_, rfl, rfl, rfl⟩, by decide +kernel, rfl, rfl, flying, .head _, rfl⟩
    ⟨rfl, rfl, rfl⟩

/-- It waits in its slot, and enters the in-flight list once the capture is taken (R109). -/
theorem test_price_item_waits :
    let i := Instr.priceItem (.station .s3) 1 .w3 417 5 .no
    let s := asking captured (.station .s3) 1 i
    after i s = s ∧ (after i (after (.captureTaken .w3) s)).txn.inFlight.map (·.platter) = [.w3] := by decide +kernel

theorem captured_tableLaw : captured.TableLaw :=
  have h := shop_tableLaw
  ⟨h.sales, h.next, h.parkedOnce, h.parkedRoom, h.parked, h.openTxns, h.closedRoom, h.closedOnce, h.apart, by decide +kernel,
    by decide +kernel⟩

theorem witness_CapturesArePriced : captured.TableLaw ∧ captured.transit.captures = tared :: [] ∧ tared.platter = .w3 ∧
    captured.txn.inFlight = [] ++ flying :: [] ∧ flying.platter = .w3 ∧ flying.request = tared.request ∧
    (captured.totals.day.opened ≠ none ∧ captured.totals.day.number = flying.day ∧ (captured.clerk flying.clerk).enabled = true ∧
      (captured.clerk flying.clerk).openTxn = flying.target) ∧
    (∃ r item, findPlu flying.plu captured.plus = some r ∧ r.active = true ∧ r.fields.kind = .byWeight ∧
      priceByWeight captured.pricing (captured.totals.day.opened.map (·.date)) captured.clock.now.date r.fields tared = .ok item ∧
      item.amount = 4539 ∧ r.stock.any (fun a => a.remaining < item.quantity) = false) ∧
    (∀ e ∈ shop.txn.inFlight, e.platter ≠ .w3 ∨ e.request ≠ tared.request) :=
  ⟨captured_tableLaw, rfl, rfl, rfl, rfl, rfl, by decide +kernel, ⟨_, _, rfl, rfl, rfl, rfl, by decide +kernel, by decide +kernel⟩,
    by decide +kernel⟩

/-- The worked capture taken: line 4 of transaction 42, PLU 417 at remaining 4,220, and its consumption reported. -/
theorem test_capture_taken :
    (((after (.captureTaken .w3) captured).findTxn 42).map fun x => (x.subtotal, x.itemCount, x.lines.length)) =
      some (9825, 3, 4) ∧
    ((findPlu 417 (after (.captureTaken .w3) captured).plus).bind (·.stock)).map (fun a => (a.remaining, a.held)) =
      some (4220, 4780) ∧
    (after (.captureTaken .w3) captured).transit.consumptions = [(.w3, 213)] := by decide +kernel

/-- The worked capture at an office that is UP, the ham's watch level at what it leaves or one less. -/
def scarce (level : Nat) : State :=
  { captured.setLink .office (upLink []) with
    plus := [⟨417, ham, true, 1, some ⟨9000, 6610, 2390, 0, some level, false⟩⟩] }

theorem witness_low_stock : (∀ level, (scarce level).hears .office .stockLow) ∧
    (∀ level, (findPlu 417 (scarce level).plus).bind (·.stock) = some ⟨9000, 6610, 2390, 0, some level, false⟩) ∧
    6610 - 2390 ≤ 4220 ∧ ¬6610 - 2390 ≤ 4219 :=
  ⟨fun _ => ⟨rfl, show (1 : Nat) ≤ Priorities.default.get .stockLow by decide⟩, fun _ => rfl, by decide, by decide⟩

/-- STOCK_LOW goes to the office with remaining and held at the watch level, and not above it (R81, R84). -/
theorem test_low_stock :
    ((after (.captureTaken .w3) (scarce 4220)).linkOf .office).outbox = [.stockLow 417 4220 4780 4220] ∧
    ((after (.captureTaken .w3) (scarce 4219)).linkOf .office).outbox = [] := by decide +kernel

theorem witness_takes : shop.TableLaw ∧ (shop.clerk 8).openTxn = none ∧ (shop.clerk 4).openTxn ≠ none :=
  ⟨shop_tableLaw, by decide +kernel⟩

/-- The shop with 9999, the next number, held, and 1 closed. -/
def atLastNumber : State :=
  { shop with txn := { shop.txn with nextNumber := 9999, held := [{ txn49 with number := 9999 }], closed := [{ closed41 with number := 1 }] } }

/-- An opening goes on over 9999 to the first number in no use, and the next number is the one after it (R107). -/
theorem test_takes : (atLastNumber.openTxn 8 none .office).txn.held.map (·.number) = [2, 9999] ∧
    (atLastNumber.openTxn 8 none .office).txn.nextNumber = 3 := by decide +kernel

theorem witness_CountItemsAreAdded :
    Meets (fun p t => .addCountItem p t 233 15 5 .yes) (fun _ s => s.TableLaw ∧ s.totals.day.opened ≠ none ∧
      (s.clerk 4).enabled = true ∧ (∃ r, findPlu 233 s.plus = some r ∧ r.active = true ∧ r.fields.kind = .byCount ∧
        r.stock.any (fun a => a.remaining < 15) = false)) ∧
    Meets (fun p t => .addCountItem p t 233 16 5 .yes) (fun _ s => s.TableLaw ∧ ∃ r, findPlu 233 s.plus = some r ∧
      r.stock.any (fun a => a.remaining < 16) = true) ∧
    Meets (fun p t => .addCountItem p t 1 99 5 .yes) (fun _ s => s.TableLaw ∧ ∃ r, findPlu 1 s.plus = some r ∧ r.stock = none) ∧
    Meets (fun p t => .addCountItem p t 1 100 5 .yes) (fun _ s => s.TableLaw ∧ 99 < 100) ∧
    Meets (fun p t => .addCountItem p t 1 1 1 .yes) (fun _ s => s.TableLaw ∧ (s.clerk 0).enabled = false) :=
  ⟨office ⟨asking_tableLaw shop_tableLaw _ _ _, by decide +kernel, by decide +kernel, _, rfl, rfl, rfl, by decide⟩,
    office ⟨asking_tableLaw shop_tableLaw _ _ _, _, rfl, by decide⟩, office ⟨asking_tableLaw shop_tableLaw _ _ _, _, rfl, rfl⟩,
    office ⟨asking_tableLaw shop_tableLaw _ _ _, by decide⟩, office ⟨asking_tableLaw shop_tableLaw _ _ _, by decide +kernel⟩⟩

/-- A HOLD watch that fires at an item requires approval of the transaction it opens (R119, R185). -/
theorem test_hold_at_a_line :
    let s := { shop with totals := { shop.totals with watches := shop.totals.watches.set 1 ⟨.txnAmount 5000, .hold, true, 0⟩ } }
    let i := Instr.addCountItem .office 1 1 99 9 .no
    ((after i (asking s .office 1 i)).openOf 8).map (fun x => (x.subtotal, x.approval)) = some (24651, .required) := by
  decide +kernel

theorem witness_VoidLine :
    Meets (fun p t => .voidLine p t 5 1) (fun _ s => s.TableLaw ∧ ∃ x, s.openOf 4 = some x ∧
      x.lines = [] ++ soldHam :: [soldOlives, voidedHam] ∧ soldHam.index = 1 ∧ soldHam.voided = false) ∧
    Meets (fun p t => .voidLine p t 5 3) (fun _ s => s.TableLaw ∧ ∃ x, s.openOf 4 = some x ∧
      ∀ l ∈ x.lines, l.index = 3 → l.voided = true) ∧
    Meets (fun p t => .voidLine p t 7 1) (fun _ s => s.TableLaw ∧ s.openOf 6 = none) ∧
    Meets (fun p t => .voidLine p t 17 1) (fun _ s => s.TableLaw ∧ 16 < 17) :=
  ⟨office ⟨asking_tableLaw shop_tableLaw _ _ _, _, rfl, rfl, rfl, rfl⟩,
    office ⟨asking_tableLaw shop_tableLaw _ _ _, txn42, rfl, by decide +kernel⟩,
    office ⟨asking_tableLaw shop_tableLaw _ _ _, by decide +kernel⟩, office ⟨asking_tableLaw shop_tableLaw _ _ _, by decide⟩⟩

/-- The worked VOID LINE at S3: subtotal 5286 − 4539, and the ham's stock returned. -/
theorem test_void_line :
    let t := after (.voidLine (.station .s3) 1 5 1) (asking shop (.station .s3) 1 (.voidLine (.station .s3) 1 5 1))
    (t.findTxn 42).map (fun x => (x.subtotal, x.itemCount)) = some (747, 1) ∧
      ((findPlu 417 t.plus).bind (·.stock)).map (fun a => (a.remaining, a.held)) = some (9000, 0) := by decide +kernel

theorem witness_ParkAndResume :
    Meets (fun p t => .park p t 5) (fun _ s => ∃ x, s.openOf 4 = some x ∧ ¬8 ≤ s.txn.parked.length ∧ x.clerk = 4) ∧
    Meets (fun p t => .park p t 7) (fun _ s => s.openOf 6 = none) ∧ Meets (fun p t => .park p t 0) (fun _ _ => 0 < 1) ∧
    Meets (fun p t => .resume p t 7 .oldest) (fun _ s => s.openOf 6 = none ∧
      (s.txn.parked.filterMap s.findTxn).find? (fun x => x.clerk = 6) = some txn49) ∧
    Meets (fun p t => .resume p t 7 (.number 49)) (fun _ s => s.findTxn 49 = some txn49) ∧
    Meets (fun p t => .resume p t 5 (.number 49)) (fun _ s => s.findTxn 49 = some txn49 ∧ txn49.clerk ≠ 4) :=
  ⟨office ⟨txn42, rfl, by decide +kernel, rfl⟩, office (by decide +kernel), office (by decide), office (by decide +kernel),
    office (by decide +kernel), office (by decide +kernel)⟩

theorem witness_ApproveGrants :
    Meets (fun p t => .approve p t 42) (fun _ s => s.SalesLaw ∧ s.txn.held = [] ++ txn42 :: [txn49] ∧ txn42.approval = .required) ∧
    Meets (fun p t => .approve p t 49) (fun _ s => s.SalesLaw ∧ s.txn.held = [txn42] ++ txn49 :: [] ∧ txn49.approval ≠ .required) ∧
    Meets (fun p t => .approve p t 1) (fun _ s => s.SalesLaw ∧ ∀ x ∈ s.txn.held, x.number ≠ 1) ∧
    Meets (fun p t => .approve p t 9999) (fun _ s => s.SalesLaw ∧ ∀ x ∈ s.txn.held, x.number ≠ 9999) ∧
    Meets (fun p t => .approve p t 0) (fun _ s => s.SalesLaw ∧ 0 < 1) ∧
    Meets (fun p t => .approve p t 10000) (fun _ s => s.SalesLaw ∧ 9999 < 10000) :=
  ⟨office ⟨asking_salesLaw shop_txns _ _ _, rfl, rfl⟩, office ⟨asking_salesLaw shop_txns _ _ _, rfl, by decide⟩,
    office ⟨asking_salesLaw shop_txns _ _ _, by decide +kernel⟩, office ⟨asking_salesLaw shop_txns _ _ _, by decide +kernel⟩,
    office ⟨asking_salesLaw shop_txns _ _ _, by decide⟩, office ⟨asking_salesLaw shop_txns _ _ _, by decide⟩⟩

/-- The shop once the approval is granted and P1 takes labels. -/
def granted : State :=
  { shop.setOutlet .p1 p1 with txn := { shop.txn with held := [{ txn42 with approval := .granted }, txn49] } }

theorem granted_tableLaw : granted.TableLaw where
  sales := by
    constructor
    · intro x hx
      simp only [granted, List.mem_cons, List.not_mem_nil, or_false] at hx
      rcases hx with rfl | rfl <;> constructor <;> decide +kernel
    · decide +kernel
  next := by decide
  parkedOnce := shop_tableLaw.parkedOnce
  parkedRoom := shop_tableLaw.parkedRoom
  parked := by
    intro n
    rw [show granted.txn.held = [{ txn42 with approval := .granted }, txn49] from rfl, show granted.txn.parked = [49] from rfl]
    simp [txn42, txn49]
    exact eq_comm
  openTxns := by
    intro c n
    rw [show granted.txn.held = [{ txn42 with approval := .granted }, txn49] from rfl,
      show (granted.clerk c).openTxn = (shop.clerk c).openTxn from rfl]
    by_cases h : c = 4
    · subst h
      rw [show (shop.clerk 4).openTxn = some 42 by decide +kernel]
      simp [txn42, txn49]
    · rw [shop_clerks c h]
      simp [txn42, txn49, Ne.symm h]
  closedRoom := shop_tableLaw.closedRoom
  closedOnce := shop_tableLaw.closedOnce
  apart := by decide +kernel
  flights := by decide +kernel
  flightRoom := by decide +kernel

theorem granted_openLines (n : Nat) : granted.openLinesOf n = shop.openLinesOf n := rfl

theorem granted_stockLaw : granted.StockLaw :=
  have h := shop_stockLaw
  ⟨h.order, h.room, h.counts, h.present, h.accounts⟩

theorem witness_CloseTransaction :
    Meets (fun p t => .closeTransaction p t 5 true) (fun p s => s.TableLaw ∧ s.StockLaw ∧ ∃ x, s.openOf 4 = some x ∧
      x.approval ≠ .required ∧ (x.lines.filter fun l => l.voided = false) ≠ [] ∧
      (s.labelOutlets p).any (fun o => ((s.outletOf o).offer (totalLabel s.pricing false x.number 4 (s.clerk 4).name x.ticket
        x.subtotal x.lines s.now p)).isSome) = true) ∧
    Meets (fun p t => .closeTransaction p t 5 false) (fun _ s => s.TableLaw ∧ s.StockLaw) ∧
    Meets (fun p t => .closeTransaction p t 5 true) (fun _ s => s.TableLaw ∧ s.StockLaw ∧ ∃ x, s.openOf 4 = some x ∧
      x.approval = .required) ∧
    Meets (fun p t => .closeTransaction p t 9 true) (fun _ s => s.TableLaw ∧ s.StockLaw ∧ s.openOf 8 = none) :=
  ⟨meets granted (.station .s3) _ ⟨asking_tableLaw granted_tableLaw _ _ _, asking_stockLaw granted_stockLaw _ _ _,
      { txn42 with approval := .granted }, rfl, by decide, by decide, by decide +kernel⟩ ⟨rfl, rfl, rfl⟩,
    meets granted (.station .s3) _ ⟨asking_tableLaw granted_tableLaw _ _ _, asking_stockLaw granted_stockLaw _ _ _⟩ ⟨rfl, rfl, rfl⟩,
    office ⟨asking_tableLaw shop_tableLaw _ _ _, asking_stockLaw shop_stockLaw _ _ _, txn42, rfl, rfl⟩,
    office ⟨asking_tableLaw shop_tableLaw _ _ _, asking_stockLaw shop_stockLaw _ _ _, by decide +kernel⟩⟩

/-- A PLU totals table without room, and the entry a line makes in one with room (R181). -/
theorem test_plu_totals : soldHam.department = (2 : Fin 16).val + 1 ∧
    (postPluTotal 5 1 0 10 ((List.range 1000).map fun n => ⟨n + 1000, 0, 0, 0, false⟩)).2 = true ∧
    (postPluTotal 417 1 2390 4539 [⟨233, 3, 0, 747, false⟩]).1 = [⟨233, 3, 0, 747, false⟩, ⟨417, 1, 2390, 4539, false⟩] := by
  decide +kernel

/-- The worked close: the ham's 2390 g sold, clerk 5 freed, A17's sale reported, the closed list's tail entry 42. -/
theorem test_close :
    let t := after (.closeTransaction (.station .s3) 1 5 true) (asking granted (.station .s3) 1 (.closeTransaction (.station .s3) 1 5 true))
    (t.clerk 4).openTxn = none ∧ t.txn.closed.map (fun e => (e.number, e.subtotal)) = [(41, 747), (42, 5286)] ∧
      ((findPlu 417 t.plus).bind (·.stock)).map (fun a => (a.remaining, a.held, a.sold)) = some (6610, 0, 2390) ∧
      t.transit.ticketReports = [(⟨.a, 17⟩, .outcome .sale)] := by decide +kernel

theorem witness_ReprintsReadingsAndJobs :
    Meets (fun p t => .reprintTotal p t 41) (fun p s => (s.txn.closed.find? fun e => e.number = 41) = some closed41 ∧
      ((s.labelOutlets p).find? fun o => ((s.outletOf o).offer (totalLabel s.pricing true 41 4 (asText "EARLY-1") none 747
        closed41.lines atClose p)).isSome) = some .p1) ∧
    Meets (fun p t => .reprintTotal p t 41) (fun p s =>
      ((s.labelOutlets p).find? fun o => ((s.outletOf o).offer (totalLabel s.pricing true 41 4 (asText "EARLY-1") none 747
        closed41.lines atClose p)).isSome) = none) ∧
    Meets (fun p t => .reprintTotal p t 9999) (fun _ s => (s.txn.closed.find? fun e => e.number = 9999) = none) ∧
    Meets (fun p t => .reprintTotal p t 10000) (fun _ _ => 9999 < 10000) ∧
    Meets (fun p t => .readTransaction p t (.byClerk 5) 1) (fun _ s => s.openOf 4 = some txn42) ∧
    Meets (fun p t => .readTransaction p t (.byNumber 41) 40) (fun _ s => s.findTxn 41 = none ∧
      (s.txn.closed.find? fun e => e.number = 41) = some closed41) ∧
    Meets (fun p t => .readTransaction p t (.byNumber 41) 41) (fun _ _ => 40 < 41) :=
  ⟨meets granted (.station .s3) _ (by decide +kernel) ⟨rfl, rfl, rfl⟩, atS3 (by decide +kernel), office (by decide +kernel),
    office (by decide), office (by decide +kernel), office (by decide +kernel), office (by decide)⟩

/-- The figures of R97's examples, and the check digit of the worked code (R95). -/
theorem test_figures : moneyFigure 4539 = asText "45.39" ∧ moneyFigure 5 = asText "0.05" ∧ moneyFigure 0 = asText "0.00" ∧
    figureOf 2 5 = asText "05" ∧ figureOf 4 42 = asText "0042" ∧ momentFigure atClose = asText "2031-02-26 10:42:07" ∧
    portFigure (.station .s3) = asText "S3" ∧ ticketFigure ⟨.a, 17⟩ = asText "A17" := by decide +kernel

theorem test_code : LabelCode 1 417 4539 (asText "2100417045392") := ⟨2, by decide, by decide, by decide +kernel⟩

/-- Arguments of every kind of job, at the ends of their ranges. -/
def dearest : PricedItem := ⟨.byWeight, 14999, some 5, none, 999999, true, 99999, ⟨2032, 2, 29⟩, some ⟨2099, 12, 31⟩⟩

theorem witness_jobs : (9 ≤ 9 ∧ 9999 ≤ 9999 ∧ dearest.quantity < 1000000000 ∧ dearest.unitPrice ≤ 999999 ∧ dearest.amount ≤ 99999 ∧
      dearest.packed.real = true ∧ (∃ d, dearest.sellBy = some d ∧ d.real = true)) ∧
    ((∃ k, txn42.ticket = some k ∧ k.number ≤ 99) ∧ txn42.subtotal ≤ 9999999 ∧ txn42.lines.length ≤ 40 ∧
      (∀ l ∈ txn42.lines, l.amount ≤ 99999) ∧ atClose.date.real = true ∧ atClose.time.real = true) ∧
    (∀ e ∈ shop.queue.recent, e.1.number ≤ 99) := by
  refine ⟨⟨by decide, by decide, by decide, by decide, by decide, by decide, _, rfl, by decide⟩, ⟨⟨_, rfl, by decide⟩, ?_⟩, ?_⟩ <;>
    decide +kernel

/-- No line of another transaction shares a label with those of transaction 42. -/
theorem witness_apart : shop.findTxn 49 = some txn49 ∧ (∀ l ∈ txn49.lines, l.label = none) ∧
    ∀ e ∈ shop.txn.closed, ∀ l ∈ e.lines, l.label = none := by decide +kernel

theorem witness_VoidTransaction :
    Meets (fun p t => .voidTransaction p t (.byClerk 5)) (fun _ s => s.TableLaw ∧ s.StockLaw ∧ s.openOf 4 = some txn42) ∧
    Meets (fun p t => .voidTransaction p t (.byNumber 49)) (fun _ s => s.TableLaw ∧ s.StockLaw ∧ s.findTxn 49 = some txn49) ∧
    Meets (fun p t => .voidTransaction p t (.byNumber 9999)) (fun _ s => s.TableLaw ∧ s.StockLaw ∧ s.findTxn 9999 = none) ∧
    Meets (fun p t => .voidTransaction p t (.byClerk 17)) (fun _ s => s.TableLaw ∧ s.StockLaw ∧ 16 < 17) :=
  ⟨office ⟨asking_tableLaw shop_tableLaw _ _ _, asking_stockLaw shop_stockLaw _ _ _, by decide +kernel⟩,
    office ⟨asking_tableLaw shop_tableLaw _ _ _, asking_stockLaw shop_stockLaw _ _ _, by decide +kernel⟩,
    office ⟨asking_tableLaw shop_tableLaw _ _ _, asking_stockLaw shop_stockLaw _ _ _, by decide +kernel⟩,
    office ⟨asking_tableLaw shop_tableLaw _ _ _, asking_stockLaw shop_stockLaw _ _ _, by decide⟩⟩

/-! ### Hypotheses that are met: tickets -/

theorem asking_ticketLaw {s : State} (h : s.TicketLaw) (p : Port) (t : Tag) (c : Instr) : (asking s p t c).TicketLaw :=
  ⟨h.once, h.own, h.order, h.apart, h.ahead, h.missed, h.recent⟩

/-- CONFIGURE CLASS entries that give a class a rank and a line. -/
def ranked (k : TicketClass) (rank : Option Nat) (line : Option (Option DispenserLine)) : ClassEntry :=
  ⟨k, some true, rank, none, some 301, line, none, none⟩

theorem witness_ClassesAndQueueReading :
    Meets (fun p t => .configureClass p t [ranked .a (some 2) none, ranked .b (some 1) none]) (fun _ _ =>
      ([ranked .a (some 2) none, ranked .b (some 1) none].map (·.cls)).Nodup) ∧
    Meets (fun p t => .configureClass p t [ranked .a (some 2) none]) (fun _ s => (s.classOf .b).rank = 2) ∧
    Meets (fun p t => .configureClass p t [ranked .c none (some (some .d1))]) (fun _ s => (s.classOf .a).line = some .d1) ∧
    Meets (fun p t => .configureClass p t [ranked .a none none, ranked .a none none]) (fun _ _ =>
      ¬([ranked .a none none, ranked .a none none].map (·.cls)).Nodup) ∧
    Meets (fun p t => .configureClass p t [ranked .a (some 5) none]) (fun _ _ => 4 < 5) ∧
    Meets (fun p t => .configureClass p t [ranked .a (some 0) none]) (fun _ _ => 0 < 1) ∧
    Meets .readQueue (fun _ s => ∃ y ∈ s.queue.called, y.ticket.id = ⟨.a, 17⟩) :=
  ⟨office (by decide), office (by decide +kernel), office (by decide +kernel), office (by decide), office (by decide),
    office (by decide), office ⟨a17, .head _, rfl⟩⟩

/-- A shop whose next A numbers, 99 and then 1, are both held, and one whose issue counter is at its end. -/
def wrapping : State :=
  { shop with queue := { shop.queue with
      classes := ⟨{ shop.queue.classes.a with next := 99 }, shop.queue.classes.b, shop.queue.classes.c, shop.queue.classes.d⟩
      missed := [⟨⟨.a, 99⟩, 5, 0, none, none⟩, ⟨⟨.a, 1⟩, 6, 0, none, none⟩] } }
def spent : State := { shop with queue := { shop.queue with issueCounter := 4294967295 } }
def allHeld : State :=
  { shop with queue := { shop.queue with missed := (List.range 99).map fun n => ⟨⟨.a, n + 1⟩, n, 0, none, none⟩ } }

theorem witness_IssueTicket :
    Meets (fun p t => .issueTicket p t .a) (fun _ s => 1 ≤ (s.classOf .a).next ∧ (s.classOf .a).next ≤ 99 ∧
      s.queue.holds ⟨.a, (99 - 1 + 0) % 99 + 1⟩ = true ∧ s.queue.holds ⟨.a, (99 - 1 + 1) % 99 + 1⟩ = true ∧
      s.queue.holds ⟨.a, (99 - 1 + 2) % 99 + 1⟩ = false ∧ (s.classOf .a).next = 99) ∧
    Meets (fun p t => .issueTicket p t .b) (fun _ s => s.totals.day.opened ≠ none ∧ (s.classOf .b).enabled = true ∧
      s.queue.holds ⟨.b, (8 - 1 + 0) % 99 + 1⟩ = false ∧ (s.classOf .b).next = 8) ∧
    Meets (fun p t => .issueTicket p t .a) (fun _ s => ∀ d, d < 99 → s.queue.holds ⟨.a, (19 - 1 + d) % 99 + 1⟩ = true) ∧
    Meets (fun p t => .issueTicket p t .b) (fun _ s => 4294967295 ≤ s.queue.issueCounter) ∧
    Meets (fun p t => .issueTicket p t .c) (fun _ s => (s.classOf .c).enabled = false) ∧
    Meets (fun p t => .issueTicket p t .a) (fun _ s => s.totals.day.opened = none ∧ (s.classOf .a).next = 1) :=
  ⟨meets wrapping .office _ (by decide +kernel) ⟨rfl, rfl, rfl⟩, office (by decide +kernel),
    meets allHeld .office _ (by decide +kernel) ⟨rfl, rfl, rfl⟩, meets spent .office _ (by decide +kernel) ⟨rfl, rfl, rfl⟩,
    office (by decide +kernel), meets State.reset .office _ (by decide +kernel) calm_reset⟩

/-- The shop with a TICKET outlet that takes jobs. -/
def dispensing : State := shop.setOutlet .p3 (.cold .ticket true false)

theorem witness_DispenserLines : (shop.queue.lines.get .d1).level ≠ true ∧ (shop.classOf .a).line = some .d1 ∧
    (∀ j ∈ [TicketClass.b, .c, .d], (shop.classOf j).line ≠ some .d1) ∧
    (∀ j ∈ TicketClass.all, (shop.classOf j).line ≠ some .d4) ∧ (shop.queue.lines.get .d1).holdOff = none ∧
    (shop.classOf .a).edge = .rising ∧ shop.issueTests .a = .ok 19 ∧
    ([OutletId.p1, .p2, .p3, .p4].find? fun o => (dispensing.outletOf o).kind = .ticket &&
      ((dispensing.outletOf o).offer (ticketJob ⟨.a, 19⟩ 2 atClose)).isSome) = some .p3 ∧
    ([OutletId.p1, .p2, .p3, .p4].find? fun o => (shop.outletOf o).kind = .ticket &&
      ((shop.outletOf o).offer (ticketJob ⟨.a, 19⟩ 2 atClose)).isSome) = none ∧
    (shop.queue.lines.get .d1).level = false := by decide +kernel

/-- A press of class A's dispenser: A19 joins the tail, with its hold-off running (R134, R137). -/
theorem test_press :
    ((after (.dispenserLineChange .d1 true) dispensing).classOf .a).waiting.map (·.id.number) = [14, 18, 19] ∧
    (after (.dispenserLineChange .d1 true) dispensing).queue.lines.get .d1 = ⟨true, some 1000⟩ ∧
    ((after (.dispenserLineChange .d1 true) dispensing).outletOf .p3).jobs.length = 1 := by decide +kernel

/-- The counter of the worked four calls (chapter 7) at a moment of the day, with its lists and call sets. -/
def fourCalls (now : Nat) (a b : List Ticket) : State :=
  { shop with
    clock := { shop.clock with daySeconds := now }
    queue := { shop.queue with
      classes := ⟨{ ClassRecord.cold true 1 none with waiting := a }, { ClassRecord.cold true 2 none with waitLimit := 5, waiting := b },
        { ClassRecord.cold true 3 none with waiting := [⟨⟨.c, 3⟩, 41, 3710, none, none⟩] },
        { ClassRecord.cold false 4 none with waiting := [⟨⟨.d, 2⟩, 39, 3690, none, none⟩] }⟩
      callSets := ⟨0b0011, 0b0110, 0b0001, 0b1100, 0b0001, 0b0001⟩ } }
def a21 : Ticket := ⟨⟨.a, 21⟩, 40, 3700, none, none⟩
def b8 : Ticket := ⟨⟨.b, 8⟩, 44, 3850, none, none⟩
def b7Old : Ticket := ⟨⟨.b, 7⟩, 38, 3650, none, none⟩

theorem test_four_calls :
    (fourCalls 4000 [a21] [b7Old, b8]).choose (.station .s1) = some b7Old ∧
    (fourCalls 4010 [a21] [b8]).choose (.station .s2) = some b8 ∧
    ((fourCalls 4020 [a21] []).choose (.station .s4)).map (·.id) = some ⟨.c, 3⟩ ∧
    (fourCalls 4030 [a21] []).choose (.station .s1) = some a21 := by decide +kernel

theorem witness_CallNext :
    Meets (fun p t => .callNext p t 9) (fun _ s => s.totals.day.opened ≠ none ∧ 9 = (8 : ClerkNo).val + 1 ∧
      (s.clerk 8).enabled = true ∧ (s.clerk 8).openTxn = none ∧ (s.classOf .a).enabled = true ∧
      (s.classOf .a).waiting.head? = some a14 ∧ a14.id.cls = .a ∧ (s.classOf .b).waiting.head? = some b7 ∧
      60 * (s.classOf .b).waitLimit ≤ s.clock.daySeconds - b7.issuedAt) ∧
    Meets (fun p t => .callNext p t 9) (fun _ s => ∀ k ∈ [TicketClass.a, .b], (s.classOf k).waiting.head? = none) ∧
    Meets (fun p t => .callNext p t 5) (fun _ s => (s.clerk 4).openTxn ≠ none) ∧
    Meets (fun p t => .callNext p t 1) (fun _ s => (s.clerk 0).enabled = false) ∧
    Meets (fun p t => .callNext p t 17) (fun _ _ => 16 < 17) ∧
    Meets (fun p t => .callNext p t 1) (fun _ s => s.totals.day.opened = none) :=
  ⟨office (by decide +kernel), meets (fourCalls 4000 [] []) (.station .s1) _ (by decide +kernel) ⟨rfl, rfl, rfl⟩,
    office (by decide +kernel), office (by decide +kernel), office (by decide), meets State.reset .office _ rfl calm_reset⟩

/-- A14 chosen for a clerk, on its way between the opening test and the open bound. -/
def calling (c : ClerkNo) : State :=
  { shop with queue := { shop.queue with
      classes := shop.queue.classes.set .a { shop.queue.classes.a with waiting := [a18] }
      calls := [⟨a14, c, .station .s3, ⟨.station .s3, 1, 0x30⟩⟩] } }

theorem witness_OpenBound :
    (calling 8).queue.calls = ⟨a14, 8, .station .s3, ⟨.station .s3, 1, 0x30⟩⟩ :: [] ∧
    ((calling 8).clerk 8).enabled = true ∧ ((calling 8).clerk 8).openTxn = none ∧
    (calling 0).queue.calls.length = 1 ∧ ((calling 0).clerk 0).enabled = false ∧
    (calling 4).queue.calls.length = 1 ∧ ((calling 4).clerk 4).openTxn ≠ none ∧ (calling 8).transit.cancellations = [] := by
  decide +kernel

theorem witness_call_heard : (((calling 8).setLink (.station .s1) (upLink [])).queue.callSets.get .s1).getLsbD 0 = true ∧
    ((calling 8).setLink (.station .s1) (upLink [])).hears (.station .s1) .queueChange ∧
    (((calling 8).setLink (.station .s3) (upLink [⟨1, .callNext (.station .s3) 1 9, .taken, 0⟩])).linkOf (.station .s3)).slots.any
      (Slot.waitsFor ⟨.station .s3, 1, 0x30⟩) = true := ⟨by decide +kernel, by constructor <;> decide, by decide +kernel⟩

/-- A call cancelled before its open bound leaves nothing behind (R6). -/
theorem test_cancelled_call :
    let t := after (.requestCancellation (.station .s3) 1) { calling 8 with transit := { Transit.empty with
      cancellations := [⟨.station .s3, 1, .callNext (.station .s3) 1 9, 0, false, 0⟩] } }
    (t.classOf .a).waiting = [a14, a18] ∧ t.queue.calls = [] ∧ t.transit.cancellations = [] := by decide +kernel

/-- The open bound confirms the call: transaction 50 for clerk 9, and A14 called; a clerk who has one open meanwhile sends
A14 back to the head of its list. -/
theorem test_open_bound :
    ((after (.openBound ⟨.a, 14⟩) (calling 8)).findTxn 50).bind (·.ticket) = some ⟨.a, 14⟩ ∧
    (after (.openBound ⟨.a, 14⟩) (calling 8)).queue.called.map (·.ticket.id.number) = [17, 14] ∧
    ((after (.openBound ⟨.a, 14⟩) (calling 4)).classOf .a).waiting = [a14, a18] := by decide +kernel

/-- A17 called with an empty transaction, some recalls behind it and its timer running. -/
def waitingCall (recalls : Nat) : State :=
  { shop with
    txn := { shop.txn with held := [{ txn42 with lines := [], subtotal := 0, itemCount := 0 }, txn49] }
    queue := { shop.queue with called := [{ a17 with recalls := recalls, bound := .openEmpty, timer := some 60 }] } }

theorem witness_Recalls :
    (∃ x, (waitingCall 2).findCalled ⟨.a, 17⟩ = some x ∧ x.timer ≠ none ∧ x.recalls < 3) ∧
    (∃ x, (waitingCall 3).findCalled ⟨.a, 17⟩ = some x ∧ x.timer ≠ none ∧ ¬x.recalls < 3) ∧
    Meets (fun p t => .recall p t 5) (fun _ s => ∃ y x, s.openOf 4 = some y ∧ y.ticket.bind s.findCalled = some x ∧ ¬3 ≤ x.recalls) ∧
    Meets (fun p t => .recall p t 5) (fun _ s => ∃ y x, s.openOf 4 = some y ∧ y.ticket.bind s.findCalled = some x ∧ 3 ≤ x.recalls) ∧
    Meets (fun p t => .recall p t 9) (fun _ s => s.openOf 8 = none) ∧ Meets (fun p t => .recall p t 0) (fun _ _ => 0 < 1) :=
  ⟨⟨_, rfl, by decide, by decide⟩, ⟨_, rfl, by decide, by decide⟩, office ⟨_, _, rfl, rfl, by decide⟩,
    meets (waitingCall 3) .office _ ⟨_, _, rfl, rfl, by decide⟩ ⟨rfl, rfl, rfl⟩, office (by decide +kernel), office (by decide)⟩

/-- A discard order of an automatic skip on its way. -/
def discarding (s : State) : State := { s with transit := { Transit.empty with discards := [⟨⟨.a, 17⟩, 42, true, none⟩] } }

theorem witness_SkipsAndReinstates :
    Meets (fun p t => .skip p t 5) (fun _ s => ∃ y x, s.openOf 4 = some y ∧ y.ticket.bind s.findCalled = some x ∧ y.lines = []) ∧
    Meets (fun p t => .skip p t 5) (fun _ s => ∃ y x, s.openOf 4 = some y ∧ y.ticket.bind s.findCalled = some x ∧ y.lines ≠ []) ∧
    Meets (fun p t => .skip p t 9) (fun _ s => s.openOf 8 = none) ∧
    (∃ y x, (discarding (waitingCall 3)).transit.discards = ⟨⟨.a, 17⟩, 42, true, none⟩ :: [] ∧
      (discarding (waitingCall 3)).findTxn 42 = some y ∧ y.parkedAt = none ∧ y.ticket = some ⟨.a, 17⟩ ∧ y.lines = [] ∧
      (discarding (waitingCall 3)).findCalled ⟨.a, 17⟩ = some x ∧
      ((discarding (waitingCall 3)).clerk y.clerk).openTxn = some y.number ∧
      (discarding (waitingCall 3)).queue.missed.length ≤ 8) ∧
    (∃ y, (discarding shop).findTxn 42 = some y ∧ y.lines ≠ []) ∧ (discarding State.reset).findTxn 42 = none ∧
    Meets (fun p t => .reinstate p t ⟨.a, 15⟩) (fun _ s => s.TicketLaw ∧ s.queue.missed = [] ++ a15 :: [] ∧ a15.id = ⟨.a, 15⟩) ∧
    Meets (fun p t => .reinstate p t ⟨.a, 99⟩) (fun _ s => s.TicketLaw ∧ ∀ x ∈ s.queue.missed, x.id ≠ ⟨.a, 99⟩) ∧
    Meets (fun p t => .reinstate p t ⟨.a, 100⟩) (fun _ s => s.TicketLaw ∧ 99 < 100) :=
  ⟨meets (waitingCall 0) .office _ ⟨_, _, rfl, rfl, rfl⟩ ⟨rfl, rfl, rfl⟩, office ⟨_, _, rfl, rfl, by decide⟩,
    office (by decide +kernel), ⟨_, _, rfl, rfl, rfl, rfl, rfl, rfl, by decide +kernel, by decide +kernel⟩, ⟨txn42, rfl, by decide⟩, rfl,
    office ⟨asking_ticketLaw shop_ticketLaw _ _ _, rfl, rfl⟩,
    office ⟨asking_ticketLaw shop_ticketLaw _ _ _, by decide +kernel⟩, office ⟨asking_ticketLaw shop_ticketLaw _ _ _, by decide⟩⟩

/-- The automatic skip of the worked call that runs out: A17 joins the missed list and clerk 5 is free. -/
theorem test_discard :
    (after (.discard ⟨.a, 17⟩) (discarding (waitingCall 3))).queue.missed.map (·.id.number) = [15, 17] ∧
    ((after (.discard ⟨.a, 17⟩) (discarding (waitingCall 3))).clerk 4).openTxn = none := by decide +kernel

/-- A15 reinstated stands behind A14 and before A18. -/
theorem test_reinstate :
    ((after (.reinstate .office 1 ⟨.a, 15⟩) (asking shop .office 1 (.reinstate .office 1 ⟨.a, 15⟩))).classOf .a).waiting.map
      (·.id.number) = [14, 15, 18] := by decide +kernel

/-- A report on A17 on its way to the ticket queue. -/
def reporting (r : TicketReport) : State := { shop with transit := { Transit.empty with ticketReports := [(⟨.a, 17⟩, r)] } }

theorem witness_TicketReports :
    ((reporting (.bound .parked)).transit.ticketReports = (⟨.a, 17⟩, .bound .parked) :: [] ∧
      (reporting (.bound .parked)).findCalled ⟨.a, 17⟩ = some a17) ∧
    ((reporting (.outcome .sale)).transit.ticketReports = (⟨.a, 17⟩, .outcome .sale) :: [] ∧
      (reporting (.outcome .sale)).findCalled ⟨.a, 17⟩ = some a17) := ⟨⟨rfl, rfl⟩, rfl, rfl⟩

/-- The worked wait of A17, 2290 − 1915 = 375 s, posted at its sale. -/
theorem test_wait : (after (.ticketOutcomeReport ⟨.a, 17⟩) (reporting (.outcome .sale))).totals.acc.grand.waitSum = 375 := by
  decide +kernel

/-- The worked mean of three waits (R179). -/
theorem test_mean_wait : ({ Accumulators.zero.grand with waitSum := 527, waitCount := 3 } : GrandRecord).meanWait = 176 := by
  decide +kernel

/-! ### Hypotheses that are met: outlets -/

/-- P1 at other moments: between lines, with a cancel that waits, printed to the end, held, stalled, without paper. -/
def p1Between : Outlet := { p1 with lineQueue := job120.movedLines.drop 2, jobs := [{ job120 with taken := 6 }, job121], transfer := false }
def p1Cancelling : Outlet := { p1 with jobs := [{ job120 with cancelWaiting := true, cancels := [⟨.office, 1, 0x41⟩] }, job121] }
def p1Done : Outlet :=
  { p1 with jobs := [{ job120 with moved := 9, taken := 9 }], lineQueue := [], transfer := false, labelCount := 1, mode := .drain }
def p1Held : Outlet := { p1 with state := .held, hold := true, holdTimer := some 8000 }
def p1Stalled : Outlet := { p1 with state := .stalled, lineQueue := [], transfer := false, jobs := [{ job120 with moved := 0, taken := 0 }, job121] }

/-- Offered to a READY outlet, the worked nine lines fill the line queue and the first is sent; after four lines taken the
queue holds lines 5 to 8 (chapter 8). -/
theorem test_line_flow :
    ((p1Between.pump.lineQueue.map (·.last)) = [false, false, true] ∧ p1Between.pump.transfer = true) ∧
    (((Outlet.cold .label true false).offer job120.job).map fun x => (x.1.state, x.1.lineQueue.length, x.1.transfer)) =
      some (.printing, 4, true) := by decide +kernel

/-- The stall of the worked case: the line queue emptied, job 120 returned, one stall counted (R162). -/
theorem test_stall :
    let t := after (.holdTimerExpiry .p1) (withOutlet .p1 p1Held)
    (t.outletOf .p1).state = .stalled ∧ (t.outletOf .p1).stalls = 1 ∧ (t.outletOf .p1).lineQueue = [] ∧
      (t.outletOf .p1).jobs.map (fun j => (j.id, j.moved, j.taken, j.passes)) = [(120, 0, 0, 1), (121, 0, 0, 0)] := by
  decide +kernel

theorem witness_LineFlow :
    (p1Between.jobs = { job120 with taken := 6 } :: [job121] ∧ p1Between.state = .printing ∧ p1Between.lineQueue.length = 2 ∧
      job120.moved ≤ job120.job.lines.length) ∧
    (p1.lineQueue.length = 4 ∧ p1.jobs = job120 :: [job121] ∧ p1.transfer = true ∧ job120.cancelWaiting = false) ∧
    p1Between.transfer = false ∧
    (p1Cancelling.jobs.head?.any (fun j => j.cancelWaiting && (j.cancels == [⟨.office, 1, 0x41⟩])) = true ∧ p1Cancelling.transfer = true) ∧
    (p1Done.jobs = { job120 with moved := 9, taken := 9 } :: [] ∧ (9 = job120.job.lines.length) ∧ p1Done.state = .printing ∧
      p1Done.mode = .drain ∧ p1.mode = .each ∧ job120.job.origin = some (.station .s3)) ∧
    job120.taken ≠ job120.job.lines.length ∧ (upLink []).state = .up ∧
    (upLink []).threshold ≤ Priorities.default.outletDrained := by decide +kernel

/-- A line taken with a cancel waiting: the outlet with nothing left is READY, and the next job follows where there is one
(R158, R168). -/
theorem test_cancel_at_line_taken :
    let alone := { p1Cancelling with jobs := p1Cancelling.jobs.take 1 }
    (let x := (after (.lineTaken .p1) (withOutlet .p1 alone)).outletOf .p1
     (x.jobs, x.state, x.transfer, x.sent)) = ([], .ready, false, [.abortJob]) ∧
    (let x := (after (.lineTaken .p1) (withOutlet .p1 { alone with state := .held })).outletOf .p1
     (x.jobs, x.state, x.sent)) = ([], .held, [.abortJob]) ∧
    (after (.lineTaken .p1) (withOutlet .p1 p1Cancelling)).outletOf .p1 =
      ({ p1Cancelling with lineQueue := [], transfer := false, jobs := [job121], labelCount := 1, sent := [.abortJob] } : Outlet).pump := by
  decide +kernel

/-- Outside PRINTING a held line queue stays where it is (R161). -/
theorem witness_not_printing : p1Held.state ≠ .printing ∧ p1Held.lineQueue ≠ [] ∧ p1Held.pump = p1Held := by decide +kernel

theorem witness_HoldAndStall :
    Meets (fun p t => .resumeOutlet p t .p1) (fun _ s => (s.outletOf .p1).state = .stalled) ∧
    Meets (fun p t => .resumeOutlet p t .p1) (fun _ s => (s.outletOf .p1).state ≠ .stalled) ∧
    (p1Held.holdTimer ≠ none ∧ p1Held.jobs = job120 :: [job121] ∧ job120.cancelWaiting = false) ∧
    (({ p1Held with jobs := [] } : Outlet).holdTimer ≠ none) ∧
    ({ p1Cancelling with holdTimer := some 8000 } : Outlet).holdTimer ≠ none ∧
    p1Cancelling.jobs.head?.any (·.cancelWaiting) = true :=
  ⟨meets (withOutlet .p1 p1Stalled) .office _ (by decide +kernel) ⟨rfl, rfl, rfl⟩, meets (withOutlet .p1 p1) .office _ (by decide +kernel) ⟨rfl, rfl, rfl⟩,
    by decide +kernel⟩

theorem witness_PaperAndPresence : (Outlet.cold .label false false).state = .offline ∧ p1.state ≠ .offline ∧
    p1Stalled.state = .stalled ∧ (∀ j ∈ p1.jobs.head?, j.cancelWaiting = false) ∧
    ({ p1Stalled with state := .noPaper } : Outlet).state = .noPaper := by decide +kernel

/-- The printing outlet with the office's CANCEL JOB waiting on its head job, whose label S3's sale names. -/
def paperless : State := (withOutlet .p1 p1Cancelling).setLink .office (upLink [⟨1, .cancelJob .office 1 .p1 120, .taken, 0⟩])

theorem witness_cancel_at_paper_out : (∃ j, p1Cancelling.jobs = j :: [job121] ∧ j.cancelWaiting = true ∧
      j.cancels = [⟨.office, 1, 0x41⟩]) ∧ p1Cancelling.state = .printing ∧ paperless.hears .office .outletState ∧
    paperless.transit.cancellations = [] ∧ (paperless.linkOf .office).slots.any (Slot.waitsFor ⟨.office, 1, 0x41⟩) = true :=
  ⟨⟨_, rfl, rfl, rfl⟩, rfl, by constructor <;> decide, rfl, by decide +kernel⟩

/-- Paper out and a falling present line each complete the cancel; only the first sends "abort job" (R164, R165, R168). -/
theorem test_cancel_at_paper_out :
    (let t := after (.paperOut .p1) paperless
     ((t.outletOf .p1).jobs, (t.outletOf .p1).state, (t.outletOf .p1).sent, (t.linkOf .office).replies.map (·.reply.result))) =
      ([job121], .noPaper, [.abortJob], [.cancelled]) ∧
    (let t := after (.outletPresentFalls .p1) paperless
     ((t.outletOf .p1).jobs, (t.outletOf .p1).state, (t.outletOf .p1).sent)) = ([job121], .offline, []) := by decide +kernel

/-- The same at a hold timer that runs out. -/
def stalling : State :=
  (withOutlet .p1 { p1Cancelling with state := .held, hold := true, holdTimer := some 8000 }).setLink .office
    (upLink [⟨1, .cancelJob .office 1 .p1 120, .taken, 0⟩])

theorem witness_cancel_at_stall : (stalling.outletOf .p1).holdTimer ≠ none ∧
    (∃ j, (stalling.outletOf .p1).jobs = j :: [job121] ∧ j.cancelWaiting = true ∧ j.cancels = [⟨.office, 1, 0x41⟩]) ∧
    stalling.hears .office .outletState ∧ stalling.transit.cancellations = [] ∧
    (stalling.linkOf .office).slots.any (Slot.waitsFor ⟨.office, 1, 0x41⟩) = true :=
  ⟨by decide +kernel, ⟨_, rfl, rfl, rfl⟩, by constructor <;> decide, rfl, by decide +kernel⟩

/-- The stall completes the cancel, and OUTLET_STATE follows (R162, R166, R168). -/
theorem test_cancel_at_stall :
    let t := after (.holdTimerExpiry .p1) stalling
    ((t.outletOf .p1).jobs, (t.outletOf .p1).labelCount, (t.outletOf .p1).sent, (t.linkOf .office).replies.map (·.reply.result)) =
      ([job121], 1, [.abortJob], [.cancelled]) ∧
    .outletState .p1 .held .stalled 1 (some (121, 0)) 1 ∈ (t.linkOf .office).outbox := by decide +kernel

theorem witness_CancelJob :
    Meets (fun p t => .cancelJob p t .p1 7) (fun _ s => (s.outletOf .p1).Lawful ∧ ∀ j ∈ (s.outletOf .p1).jobs, j.id ≠ 7) ∧
    Meets (fun p t => .cancelJob p t .p1 122) (fun _ s => (s.outletOf .p1).Lawful ∧ ∃ j,
      (s.outletOf .p1).jobs = job120 :: ([job121] ++ j :: []) ∧ j.id = 122 ∧ j.job.kind ≠ .item) ∧
    Meets (fun p t => .cancelJob p t .p1 120) (fun _ s => (s.outletOf .p1).Lawful ∧
      (s.outletOf .p1).jobs = job120 :: [job121] ∧ (s.outletOf .p1).transfer = true) ∧
    Meets (fun p t => .cancelJob p t .p1 120) (fun _ s => (s.outletOf .p1).Lawful ∧ ∃ j,
      (s.outletOf .p1).jobs = j :: [] ∧ j.id = 120 ∧ (s.outletOf .p1).transfer = false ∧ j.started = true) :=
  ⟨meets (withOutlet .p1 p1) .office _ ⟨p1_lawful, by decide +kernel⟩ ⟨rfl, rfl, rfl⟩,
    meets (withOutlet .p1 { p1 with jobs := [job120, job121, { job120 with id := 122, moved := 0, taken := 0, started := false }], labelCount := 3 })
      .office _ ⟨by
        constructor
        case head => intro j rest h; cases h; exact ⟨rfl, by decide, by decide, by decide⟩
        all_goals decide +kernel, _, rfl, rfl, by decide⟩ ⟨rfl, rfl, rfl⟩,
    meets (withOutlet .p1 p1) .office _ ⟨p1_lawful, rfl, rfl⟩ ⟨rfl, rfl, rfl⟩,
    meets (withOutlet .p1 p1Done) .office _ ⟨by
      constructor
      case head => intro j rest h; cases h; exact ⟨rfl, by decide, by decide, by decide⟩
      all_goals decide +kernel, _, rfl, rfl, rfl, rfl⟩ ⟨rfl, rfl, rfl⟩⟩

/-- The cancel order for the item label behind the head, at the head in transfer, and at a head not begun (R167). -/
def itemHead (transfer : Bool) : Outlet :=
  { p1 with jobs := [{ job121 with moved := 4 }], lineQueue := ({ job121 with moved := 4 } : QueuedJob).movedLines
            transfer := transfer, labelCount := 1 }

theorem witness_cancel_order : p1.Lawful ∧ p1.jobs = job120 :: ([] ++ job121 :: []) ∧ job121.job.kind = .item ∧
    (∀ transfer, (itemHead transfer).Lawful ∧ (itemHead transfer).jobs = { job121 with moved := 4 } :: [] ∧
      (itemHead transfer).transfer = transfer) := by
  refine ⟨p1_lawful, rfl, rfl, fun transfer => ⟨?_, rfl, rfl⟩⟩
  constructor
  case head => intro j rest h; cases h; exact ⟨rfl, by decide, by decide, by simp [job121]⟩
  all_goals cases transfer <;> decide +kernel

theorem test_cancel_order :
    (((withOutlet .p1 p1).cancelOrder .p1 121).outletOf .p1).jobs = [job120] ∧
    (((withOutlet .p1 (itemHead true)).cancelOrder .p1 121).outletOf .p1).jobs.map (·.cancelWaiting) = [true] ∧
    ((((withOutlet .p1 (itemHead false)).cancelOrder .p1 121).outletOf .p1).jobs,
      (((withOutlet .p1 (itemHead false)).cancelOrder .p1 121).outletOf .p1).sent) = ([], []) ∧
    (((withOutlet .p1 p1).cancelOrder .p1 120).outletOf .p1) = p1 := by decide +kernel

/-- CONFIGURE OUTLET fields: a kind and a prescale. -/
def configured (kind : Option OutletKind) (prescale limit : Option Nat) : OutletFields := ⟨kind, prescale, limit, none⟩

theorem witness_OutletSettings :
    Meets (fun p t => .configureOutlet p t .p1 (configured (some .ticket) (some 128) (some 17))) (fun _ s => (s.outletOf .p1).jobs = []) ∧
    Meets (fun p t => .configureOutlet p t .p1 (configured (some .ticket) none (some 0))) (fun _ s => (s.outletOf .p1).jobs ≠ [] ∧
      (s.outletOf .p1).kind ≠ .ticket) ∧
    Meets (fun p t => .configureOutlet p t .p1 (configured none (some 3) none)) (fun _ _ => 3 ∉ [1, 2, 4, 8, 16, 32, 64, 128]) ∧
    Meets (fun p t => .readOutlet p t .p1) (fun _ s => (s.outletOf .p1).holdTimer = some 8000) ∧
    Meets (fun p t => .readOutlet p t .p1) (fun _ s => (s.outletOf .p1).holdTimer = none) :=
  ⟨meets shop .office _ (by decide +kernel) calm_shop, meets (withOutlet .p1 p1) .office _ (by decide +kernel) ⟨rfl, rfl, rfl⟩, office (by decide),
    meets (withOutlet .p1 p1Held) .office _ (by decide +kernel) ⟨rfl, rfl, rfl⟩, office (by decide +kernel)⟩

/-- A display with eight jobs, the first begun, and one more to offer. -/
def called8 : Job := ⟨.display, false, some (.station .s3), [asText "A17 > S3"]⟩
def display8 : Outlet :=
  { Outlet.cold .display true false with
    state := .held, nextId := 65535
    jobs := (List.range 8).map fun n => ⟨n + 1, called8, if n = 0 then 1 else 0, 0, false, 0, false, []⟩ }

theorem witness_offers : display8.jobs.length = 8 ∧ display8.kind = .display ∧ display8.state = .held ∧
    (∃ before old after, display8.jobs = before ++ old :: after ∧ old.moved = 0 ∧ old.started = false ∧
      ∀ j ∈ before, j.moved ≠ 0) :=
  ⟨rfl, rfl, rfl, [⟨1, called8, 1, 0, false, 0, false, []⟩], ⟨2, called8, 0, 0, false, 0, false, []⟩, _, rfl, rfl, rfl,
    by decide⟩

/-- The oldest job not begun leaves, and ids go on at 1 after 65,535 past those held (R154, R155). -/
theorem test_offers :
    (display8.offer called8).map (fun x => (x.1.jobs.map (·.id), x.2, x.1.nextId)) =
      some ([1, 3, 4, 5, 6, 7, 8, 65535], 65535, 1) ∧
    (({ display8 with nextId := 1 } : Outlet).offer called8).map (fun x => x.2) = some 2 ∧
    (p1.offer called8).isNone = true := by decide +kernel

/-! ### Hypotheses that are met: the day, watches, clocks, starts -/

/-- A closed day with the clock set. -/
def shut : State := { State.reset with clock := ⟨atClose, false, 900, .cold⟩ }

theorem witness_OpenDay :
    Meets (fun p t => .openDay p t today) (fun _ s => s.totals.day.opened = none ∧ s.clock.unset = false ∧ today.real = true) ∧
    Meets (fun p t => .openDay p t ⟨2099, 12, 31⟩) (fun _ s => s.totals.day.opened = none ∧ (⟨2099, 12, 31⟩ : Date).real = true) ∧
    Meets (fun p t => .openDay p t ⟨2031, 2, 29⟩) (fun _ s => s.clock.unset = false ∧ (⟨2031, 2, 29⟩ : Date).real = false) ∧
    Meets (fun p t => .openDay p t ⟨2100, 1, 1⟩) (fun _ _ => (⟨2100, 1, 1⟩ : Date).real = false) ∧
    Meets (fun p t => .openDay p t today) (fun _ s => s.totals.day.opened = none ∧ s.clock.unset = true) ∧
    Meets (fun p t => .openDay p t today) (fun _ s => s.totals.day.opened ≠ none) :=
  ⟨meets shut .office _ (by decide +kernel) ⟨rfl, rfl, rfl⟩, meets shut .office _ (by decide +kernel) ⟨rfl, rfl, rfl⟩,
    meets shut .office _ (by decide +kernel) ⟨rfl, rfl, rfl⟩, meets shut .office _ (by decide +kernel) ⟨rfl, rfl, rfl⟩,
    meets State.reset .office _ (by decide +kernel) calm_reset, office (by decide +kernel)⟩

/-- The first opening after a cold start takes day number 1 (R172). -/
theorem test_first_opening : (after (.openDay .office 1 today) (asking shut .office 1 (.openDay .office 1 today))).totals.day =
    ⟨some ⟨today, atClose⟩, 1, 0, 0, 0, 0, false⟩ := by decide +kernel

theorem witness_CloseDay : (calling 8).queue.calls ≠ [] ∧ (discarding (waitingCall 3)).transit.discards ≠ [] ∧
    Meets (fun p t => .closeDay p t .force) (fun _ s => s.queue.calls = [] ∧ s.transit.discards = [] ∧ s.TableLaw ∧ s.StockLaw ∧
      (∃ d, s.totals.day.opened = some d) ∧ (∀ y ∈ s.queue.called, ∃ x ∈ s.txn.held, x.ticket = some y.ticket.id) ∧
      s.totals.day.forcedVoids + s.txn.held.length ≤ 999999) ∧
    Meets (fun p t => .closeDay p t .normal) (fun _ s => s.queue.calls = [] ∧ s.transit.discards = [] ∧ s.TableLaw ∧ s.StockLaw ∧
      s.totals.day.opened ≠ none ∧ s.txn.held ≠ []) :=
  ⟨by decide +kernel, by decide +kernel,
    office ⟨rfl, rfl, asking_tableLaw shop_tableLaw _ _ _, asking_stockLaw shop_stockLaw _ _ _, ⟨_, rfl⟩, by decide +kernel, by decide +kernel⟩,
    office ⟨rfl, rfl, asking_tableLaw shop_tableLaw _ _ _, asking_stockLaw shop_stockLaw _ _ _, by decide +kernel, by decide +kernel⟩⟩

theorem asking_boundLaw {s : State} (h : s.BoundLaw) (p : Port) (t : Tag) (c : Instr) : (asking s p t c).BoundLaw :=
  ⟨h.bound, h.called, h.once, h.gone, h.closed⟩

theorem witness_snapshot : Meets (fun p t => .closeDay p t .force) (fun _ s => s.BoundLaw ∧ s.txn.held ≠ []) :=
  office ⟨asking_boundLaw shop_boundLaw _ _ _, by decide +kernel⟩

/-- The snapshot of that close: transactions 42 and 49 voided, A17 abandoned, then A14, A18, B7 and A15. -/
theorem test_snapshot :
    let t := after (.closeDay .office 1 .force) (asking shop .office 1 (.closeDay .office 1 .force))
    let standing := [TicketClass.a, .a, .b, .a].foldl (fun x k => x.postTicket k .abandoned)
      (((shop.totals.postForcedVoid 4 5286).postTicket .a .abandoned).postForcedVoid 6 498)
    t.totals.snapshot.map (fun n => (n.acc, n.day)) = some (standing.acc, standing.day) := by decide +kernel

/-- A skip begun before the close is ended before it: the close waits, and then abandons the ticket as MISSED (R173). -/
theorem test_close_waits_for_skip :
    let i := Instr.closeDay .office 1 .force
    let s := asking (discarding (waitingCall 3)) .office 1 i
    after i s = s ∧ (after i (after (.discard ⟨.a, 17⟩) s)).totals.day.opened = none ∧
    (after i (after (.discard ⟨.a, 17⟩) s)).totals.snapshot.map (fun n => (n.acc.grand.classes.a.missed, n.day.forcedVoids)) =
      some (1, 1) := by decide +kernel

/-- A forced close at the shop: both transactions voided with their 5784 units, the tickets abandoned, day 38 next, and the
figures in the snapshot alone (R174). -/
theorem test_forced_close :
    let t := after (.closeDay .office 1 .force) (asking shop .office 1 (.closeDay .office 1 .force))
    t.txn.held = [] ∧ t.queue.inHand = [] ∧ t.totals.day = ⟨none, 38, 0, 0, 0, 0, false⟩ ∧
      t.totals.snapshot.map (fun n => (n.day.forcedVoids, n.acc.grand.voids, n.acc.grand.voidAmount, n.acc.grand.amount)) =
        some (2, 2, 5784, 5286) ∧
      t.totals.snapshot.map (fun n => (n.acc.grand.classes.a.abandoned, n.acc.grand.classes.b.abandoned)) = some (4, 1) ∧
      ((findPlu 417 t.plus).bind (·.stock)).map (fun a => (a.remaining, a.held)) = some (9000, 0) := by decide +kernel

/-- Reports on their way to the totals unit, and a day that was closed. -/
def reported : State :=
  { withTransit { Transit.empty with totals := [.refusal .s1, .captureCompleted .s3, .labelPrinted .s3, .labelLost] } with
    totals := { shop.totals with snapshot := some ⟨shop.totals.day, shop.totals.acc, .normal, atClose⟩ } }

theorem witness_TotalsReportsAndReadings :
    (∀ r ∈ [TotalsReport.captureCompleted .s3, .labelPrinted .s3, .labelLost, .refusal .s1], r ∉ State.reset.transit.totals) ∧
    (reported.transit.totals = [.refusal .s1] ++ .captureCompleted .s3 :: [.labelPrinted .s3, .labelLost] ∧
      TotalsReport.captureCompleted .s3 ∉ [TotalsReport.refusal .s1]) ∧
    (reported.transit.totals = [.refusal .s1, .captureCompleted .s3, .labelPrinted .s3] ++ .labelLost :: [] ∧
      TotalsReport.labelLost ∉ [TotalsReport.refusal .s1, .captureCompleted .s3, .labelPrinted .s3]) ∧
    Meets (fun p t => .readTotals p t .clerk 1) (fun _ _ => 1 ≤ 16) ∧ Meets (fun p t => .readTotals p t .clerk 16) (fun _ _ => 16 + 8 > 16) ∧
    Meets (fun p t => .readTotals p t .clerk 17) (fun _ _ => 16 < 17) ∧ Meets (fun p t => .readTotals p t .clerk 0) (fun _ _ => 0 < 1) ∧
    Meets (fun p t => .readTotals p t .plu 9999) (fun _ _ => ¬9999 < 9999) ∧
    Meets (fun p t => .readTotals p t .plu 10000) (fun _ _ => 9999 < 10000) ∧
    Meets (fun p t => .readTotals p t .grand 65535) (fun _ s => s.totals.acc.grand.waitCount = 0) ∧
    Meets (fun p t => .readClosedDay p t .day 0) (fun _ s => ∃ n, s.totals.snapshot = some n) ∧
    Meets (fun p t => .readClosedDay p t .day 0) (fun _ s => s.totals.snapshot = none) ∧
    Meets (fun p t => .readClosedDay p t .plu 10000) (fun _ _ => 9999 < 10000) :=
  ⟨by decide +kernel, by decide +kernel, by decide +kernel, office (by decide), office (by decide), office (by decide), office (by decide),
    office (by decide), office (by decide), office (by decide +kernel), meets reported .office _ ⟨_, rfl⟩ ⟨rfl, rfl, rfl⟩,
    office rfl, office (by decide)⟩

theorem test_report_posted :
    (after (.totalsReport (.captureCompleted .s3)) reported).totals.acc.stations.s3 = ⟨1, 0, 0, false⟩ ∧
    (after (.totalsReport .labelLost) reported).totals.day = ⟨some ⟨today, atClose⟩, 37, 5, 0, 1, 0, false⟩ := by decide +kernel

/-- The shop with four armed watches, one of each kind. -/
def watched : State :=
  { shop with totals := { shop.totals with watches := ((((shop.totals.watches.set 0 ⟨.pluSale 417, .notice, true, 0⟩).set 1
      ⟨.txnAmount 5000, .hold, true, 0⟩).set 2 ⟨.clerkAmount 4 5000, .notice, true, 0⟩).set 3 ⟨.queueLength .a 3, .notice, true, 0⟩) } }

theorem witness_Watches :
    Meets (fun p t => .setWatch p t 1 .off 0 0 .hold) (fun _ _ => 1 = (0 : Fin 4).val + 1) ∧
    Meets (fun p t => .setWatch p t 4 .pluSale 9999 0 .hold) (fun _ _ => 4 = (3 : Fin 4).val + 1 ∧ 9999 ≤ 9999) ∧
    Meets (fun p t => .setWatch p t 4 .pluSale 10000 0 .hold) (fun _ _ => ¬10000 ≤ 9999) ∧
    Meets (fun p t => .setWatch p t 2 .txnAmount 0 9999999 .hold) (fun _ _ => 9999999 ≤ 9999999) ∧
    Meets (fun p t => .setWatch p t 3 .clerkAmount 16 999999999 .notice) (fun _ _ => 16 = (15 : ClerkNo).val + 1) ∧
    Meets (fun p t => .setWatch p t 3 .clerkAmount 17 0 .notice) (fun _ _ => 16 < 17) ∧
    Meets (fun p t => .setWatch p t 3 .queueLength 4 99 .notice) (fun _ _ => (4, TicketClass.d) ∈ [(1, .a), (2, .b), (3, .c), (4, .d)]) ∧
    Meets (fun p t => .setWatch p t 3 .queueLength 4 100 .notice) (fun _ _ => 99 < 100) ∧
    Meets (fun p t => .setWatch p t 5 .off 0 0 .notice) (fun _ _ => 4 < 5) ∧ Meets .readWatch (fun _ _ => True) ∧
    (watched.totals.watches[0].armed = true ∧ watched.totals.watches[0].cond = .pluSale 417 ∧
      watched.totals.watches[1].cond = .txnAmount 5000 ∧ 5286 - 747 ≤ 5000 ∧ 5000 < 5286 ∧
      watched.totals.watches[1].action = .hold) ∧
    (watched.totals.watches[3].cond = .queueLength .a 3 ∧ watched.totals.watches[3].armed = true ∧ 3 ≤ 3 ∧ 2 < 3) ∧
    (watched.totals.watches[2].armed = true ∧ watched.totals.watches[2].cond = .clerkAmount 4 5000 ∧
      5000 < watched.totals.acc.clerks[(4 : ClerkNo)].amount) :=
  ⟨office (by decide), office (by decide), office (by decide), office (by decide), office (by decide), office (by decide),
    office (by decide), office (by decide), office (by decide), office trivial, by decide +kernel⟩

/-- WATCH_FIRED reaches an office that is UP, with the value and the new fire count (R184). -/
theorem test_watch_fired :
    let s := watched.setLink .office (upLink [])
    s.hears .office .watchFired ∧ ((s.queueWatches .a 3).linkOf .office).outbox = [.watchFired 4 (.queueLength .a 3) 3 none 1] :=
  ⟨by constructor <;> decide, by decide +kernel⟩

/-- The threshold 5000 is crossed by the olives of the worked sale, from 4539 to 5286; a count of 3 fires the queue watch once. -/
theorem test_watches : (watched.lineWatches 233 747 5286 42 4).2 = true ∧
    ((watched.lineWatches 233 747 5286 42 4).1.totals.watches[1]).fires = 1 ∧ (watched.lineWatches 233 747 5747 42 4).2 = true ∧
    (watched.lineWatches 233 747 5748 42 4).2 = false ∧
    ((watched.queueWatches .a 3).queueWatches .a 4).totals.watches[3] = ⟨.queueLength .a 3, .notice, false, 1⟩ := by decide +kernel

theorem witness_Clocks :
    Meets (fun p t => .setClock p t ⟨2032, 2, 29⟩ ⟨23, 59, 59⟩) (fun _ _ => 29 ≤ daysIn 2032 2) ∧
    Meets (fun p t => .setClock p t ⟨2031, 2, 29⟩ ⟨0, 0, 0⟩) (fun _ _ => ¬29 ≤ daysIn 2031 2) ∧
    Meets (fun p t => .setClock p t today ⟨24, 0, 0⟩) (fun _ _ => ¬24 ≤ 23) :=
  ⟨office (by decide), office (by decide), office (by decide)⟩

/-- One second on at the ends of minutes, days, February and the century (R94, R188). -/
theorem test_clock_second :
    (⟨today, ⟨10, 59, 59⟩⟩ : DateTime).tick = ⟨today, ⟨11, 0, 0⟩⟩ ∧
    (⟨⟨2031, 2, 28⟩, ⟨23, 59, 59⟩⟩ : DateTime).tick = ⟨⟨2031, 3, 1⟩, ⟨0, 0, 0⟩⟩ ∧
    (⟨⟨2032, 2, 28⟩, ⟨23, 59, 59⟩⟩ : DateTime).tick = ⟨⟨2032, 2, 29⟩, ⟨0, 0, 0⟩⟩ ∧
    (⟨⟨2031, 12, 31⟩, ⟨23, 59, 59⟩⟩ : DateTime).tick = ⟨⟨2032, 1, 1⟩, ⟨0, 0, 0⟩⟩ ∧ clockEnd.tick = clockEnd := by decide +kernel

/-- The office link with RESTART's reply in transmission. -/
def restarting : State :=
  let s := State.reset.setLink .office { upLink [⟨1, .restart .office 1, .ready, 0⟩] with
    tx := some (.reply ⟨true, ⟨1, 0x7F, .ok, .empty, atClose, 0⟩⟩) }
  { s with link := { s.link with restart := .replying 1 } }
def due : State := { State.reset with link := { State.reset.link with restart := .due } }

theorem witness_Starts : due.link.restart = .due ∧ due.queue.calls = [] ∧ due.transit.discards = [] ∧
    State.reset.link.restart ≠ .due ∧ Meets .restart (fun _ s => s.link.restart = .idle) ∧
    (restarting.link.restart = .replying 1 ∧ (restarting.linkOf .office).tx = some (.reply ⟨true, ⟨1, 0x7F, .ok, .empty, atClose, 0⟩⟩) ∧
      (restarting.linkOf .office).state ≠ .down) ∧
    shop.queue.calls = [] ∧ shop.transit.ticketReports = [] ∧ TotalsReport.labelLost ∉ shop.transit.totals ∧
    (calling 8).queue.calls ≠ [] ∧ (discarding shop).transit.discards ≠ [] :=
  ⟨rfl, rfl, rfl, by decide, office rfl, by decide +kernel⟩

/-- A start that finds A14's call in progress, A17's sale on its way to the ticket queue, and a report on its way to the
totals unit. -/
def between : State :=
  { calling 8 with transit := { Transit.empty with
      ticketReports := [(⟨.b, 99⟩, .bound .parked), (⟨.a, 17⟩, .outcome .sale)], totals := [.captureCompleted .s3] } }

theorem witness_settled : (∃ call, between.queue.calls = [call] ∧ call.ticket = a14) ∧
    between.transit.ticketReports = (⟨.b, 99⟩, .bound .parked) :: [(⟨.a, 17⟩, .outcome .sale)] ∧
    between.findCalled ⟨.b, 99⟩ = none ∧ between.findCalled ⟨.a, 17⟩ = some a17 ∧
    between.transit.totals = .captureCompleted .s3 :: [] := ⟨⟨_, rfl, rfl⟩, by decide +kernel⟩

/-- A14 is back at its place, A17 sold with its wait posted, and the capture posted (R192). -/
theorem test_settled :
    let t := after (.powerUp true lowLevels) between
    (t.classOf .a).waiting = [a14, a18] ∧ t.queue.calls = [] ∧ t.queue.called = [] ∧ t.totals.acc.grand.waitSum = 375 ∧
      t.totals.acc.stations.s3 = ⟨1, 0, 0, false⟩ := by decide +kernel

/-- A warm start loses the two labels of P1's queue and counts them; a cold start keeps the calibration store (R66, R193). -/
theorem test_starts : (after (.powerUp true lowLevels) (withOutlet .p1 p1)).totals.day.labelsLost = 2 ∧
    ((after (.powerUp false lowLevels) (withChannel .w3 w3)).channel .w3).record = w3.record ∧
    (after (.transmitComplete .office) restarting).link.restart = .due := by decide +kernel

end Sys2Proof.Machine.Tests
end

section
/-! PROOF. The test of a waiting operation at an evaluation, and what each operation does when it completes (O22). -/

namespace Sys2Proof.Machine.PlatterOps

/-! ### The test of a waiting operation (R50) -/

section Waiting
variable {s : State} {w : Platter} {op : OpEntry}

/-- A waiting operation with an unmet condition records it and nothing else (R50). -/
theorem testOperation_of_unmet {u : Unmet} (hslot : (s.channel w).slot = some op) (hwait : op.phase = .waiting)
    (hu : (s.channel w).unmetFor op.kind = some u) :
    s.testOperation w = s.setChannel w { s.channel w with slot := some { op with lastUnmet := u } } := by
  simp only [State.testOperation, hslot, hwait, hu]

/-- A waiting operation whose conditions all hold completes (R50). -/
theorem testOperation_of_met (hslot : (s.channel w).slot = some op) (hwait : op.phase = .waiting)
    (hu : (s.channel w).unmetFor op.kind = none) : s.testOperation w = s.completeOperation w op := by
  simp only [State.testOperation, hslot, hwait, hu]

end Waiting

/-! ### What each operation does when it completes (R53 to R55, R64, R65) -/

section Completes
variable {s : State} {w : Platter} {op : OpEntry} {g : Int}

theorem completeOperation_zero (hk : op.kind = .zero) (hg : (s.channel w).gross = some g) :
    s.completeOperation w op =
      if (((s.channel w).zp + g).natAbs : Int) ≤ 20 * (s.channel w).record.met.max2 then
        (s.setChannel w { s.channel w with zp := (s.channel w).zp + g }).endOperation w op .ok .empty
      else s.endOperation w op .zeroRange .empty := by
  simp only [State.completeOperation, hk, hg]

theorem completeOperation_tare (hk : op.kind = .tare) (hg : (s.channel w).gross = some g) :
    s.completeOperation w op =
      if g ≤ 1000 * (s.channel w).record.met.max1 ∧ 0 < (s.channel w).record.met.roundWeight g then
        (s.setChannel w ((s.channel w).setTare (((s.channel w).record.met.roundWeight g).toNat * 1000) .weighed)).endOperation
          w op .ok (.tareApplied ((s.channel w).record.met.roundWeight g).toNat)
      else s.endOperation w op .tareLimit .empty := by
  simp only [State.completeOperation, hk, hg]

theorem completeOperation_capture (hk : op.kind = .capture) (hg : (s.channel w).gross = some g) :
    s.completeOperation w op =
      ({ s.setChannel w { s.channel w with
          openCapture := some ((s.channel w).nextCapture, g)
          nextCapture := nextCaptureNumber (s.channel w).nextCapture } with
        transit := { s.transit with
          captures := s.transit.captures ++ [(s.channel w).captureRecord w g op.captureRequest]
          totals := s.transit.totals ++ captureReports op.port } }).endOperation w op .ok .empty := by
  simp only [State.completeOperation, hk, hg]; rfl

theorem completeOperation_calZero (hk : op.kind = .calZero) :
    s.completeOperation w op = s.beginWrite w op { (s.channel w).record with z := some (s.channel w).average } := by
  simp only [State.completeOperation, hk]

theorem completeOperation_calSpan {z : Int} (hk : op.kind = .calSpan) (hz : (s.channel w).record.z = some z) :
    s.completeOperation w op =
      if Config.spanMin ≤ (s.channel w).average - z ∧
          100 * (s.channel w).record.met.max2 ≤ 1000 * op.loadGrams ∧
          1000 * op.loadGrams ≤ 1000 * (s.channel w).record.met.max2 then
        s.beginWrite w op { (s.channel w).record with
          k := some ((s.channel w).average - z), l := some (1000 * op.loadGrams), valid := true }
      else s.endOperation w op .badSpan .empty := by
  simp only [State.completeOperation, hk, hz]

end Completes

theorem average_of_newest {c : Channel} {older : List Int} {a : Int} (h : c.calHistory = older ++ [a]) : c.average = a := by
  simp [Channel.average, h]

theorem nextCaptureNumber_eq (n : Nat) : nextCaptureNumber n = if n < 65535 then n + 1 else 1 := by
  simp only [nextCaptureNumber]; split <;> split <;> omega

theorem captureReports_eq (p : Port) : captureReports p = (p.station?.map TotalsReport.captureCompleted).toList := by
  cases p <;> rfl

/-- Settles O22: for each kind of operation, the first unmet condition is recorded, and with none the operation
completes as its rule says. -/
theorem operationsComplete : Obligations.OperationsComplete := by
  intro s w op c hslot hwait unmet named writes uncalibrated
  have hnamed : c.state.unmet = named := by
    simp only [named]
    cases c.state <;> rfl
  have huncal : uncalibrated = c.calibrationUnmet := rfl
  have hunmet {u : Unmet} (hu : c.unmetFor op.kind = some u) : unmet u := testOperation_of_unmet hslot hwait hu
  have hmet (hu : c.unmetFor op.kind = none) : s.testOperation w = s.completeOperation w op :=
    testOperation_of_met hslot hwait hu
  cases hk : op.kind with
  | zero =>
    simp only [hk, Channel.unmetFor] at hunmet hmet
    by_cases hstate : c.state ≠ .stable
    · simp only [if_pos hstate, hnamed] at hunmet ⊢
      exact hunmet rfl
    by_cases htare : c.tareKind ≠ .none
    · simp only [if_neg hstate, if_pos htare] at hunmet ⊢
      exact hunmet rfl
    simp only [if_neg hstate, if_neg htare] at hmet ⊢
    intro g hg
    rw [hmet trivial, completeOperation_zero hk hg]
    split_ifs <;> rfl
  | tare =>
    simp only [hk, Channel.unmetFor] at hunmet hmet
    by_cases hstate : c.state ≠ .stable
    · simp only [if_pos hstate, hnamed] at hunmet ⊢
      exact hunmet rfl
    simp only [if_neg hstate] at hmet ⊢
    intro g hg
    rw [hmet trivial, completeOperation_tare hk hg, Nat.mul_comm]
    split_ifs <;> rfl
  | capture =>
    simp only [hk, Channel.unmetFor] at hunmet hmet
    by_cases hstate : c.state ≠ .stable
    · simp only [if_pos hstate, hnamed] at hunmet ⊢
      exact hunmet rfl
    by_cases hlock : c.interlock
    · simp only [if_neg hstate, if_pos hlock] at hunmet ⊢
      exact hunmet rfl
    simp only [if_neg hstate, if_neg hlock] at hmet ⊢
    intro g hg
    refine ⟨c.captureRecord w g op.captureRequest, rfl, rfl, rfl, rfl, rfl, rfl, rfl, rfl, rfl, rfl, ?_⟩
    rw [hmet trivial, completeOperation_capture hk hg, nextCaptureNumber_eq, captureReports_eq]
  | calZero =>
    simp only [hk, Channel.unmetFor] at hunmet hmet
    rw [huncal]
    cases hu : c.calibrationUnmet with
    | some u => exact hunmet hu
    | none =>
      intro a older ha
      have hdone := (hmet hu).trans (completeOperation_calZero hk)
      rwa [average_of_newest ha] at hdone
  | calSpan =>
    simp only [hk, Channel.unmetFor] at hunmet hmet
    rw [huncal]
    cases hu : c.calibrationUnmet with
    | some u => exact hunmet hu
    | none =>
      intro a older z ha hz
      have hdone := (hmet hu).trans (completeOperation_calSpan hk hz)
      rw [average_of_newest ha] at hdone
      split_ifs with hspan
      · exact hdone.trans (if_pos hspan)
      · exact hdone.trans (if_neg hspan)
  | configure => trivial
end Sys2Proof.Machine.PlatterOps
end

section
/-! PROOF. PRICE ITEM at its arrival: its own tests, the channel's, and the in-flight list (O33). -/

namespace Sys2Proof.Machine.PlatterOps

/-! ### The tests of PRICE ITEM (R49, R80, R109) -/

@[simp] theorem require_true (e : Result) : require true e = .ok () := rfl
@[simp] theorem require_false (e : Result) : require false e = .error e := rfl

@[simp] theorem ok_bind {α β : Type} (a : α) (f : α → Except Result β) : (Except.ok a >>= f) = f a := rfl
@[simp] theorem error_bind {α β : Type} (e : Result) (f : α → Except Result β) :
    ((Except.error e : Except Result α) >>= f) = .error e := rfl
@[simp] theorem pure_eq_ok {α : Type} (a : α) : (pure a : Except Result α) = .ok a := rfl

theorem namedClerk_of_val {n : Nat} {c : ClerkNo} (h : n = c.val + 1) : namedClerk n = .ok c := by
  have hr : 1 ≤ n ∧ n ≤ 16 := by omega
  simp only [namedClerk, clerkOf, dif_pos hr, orRefuse, Except.ok.injEq]
  exact Fin.ext (by simp [h])

theorem namedClerk_of_out {n : Nat} (h : n < 1 ∨ 16 < n) : namedClerk n = .error .badValue := by
  have hr : ¬(1 ≤ n ∧ n ≤ 16) := by omega
  simp only [namedClerk, clerkOf, dif_neg hr, orRefuse]

/-- The channel's tests of a CAPTURE: no hold, owned, asked for or still standing, then an empty slot (R49). -/
theorem admitOperation_capture (c : Channel) (sealHigh : Bool) (p : Port) :
    c.admitOperation sealHigh p .capture =
      if c.holdOwner ≠ none ∨ c.pendingGrant ≠ none ∨ c.state = .held then .error .held
      else if c.slot ≠ none then .error .platterBusy
      else .ok () := by
  have hfree : (c.holdOwner.isNone && c.pendingGrant.isNone && decide (c.state ≠ .held)) =
      !decide (c.holdOwner ≠ none ∨ c.pendingGrant ≠ none ∨ c.state = .held) := by
    rw [Bool.eq_iff_iff]; simp [and_assoc]
  unfold Channel.admitOperation
  simp only [hfree]
  by_cases hheld : c.holdOwner ≠ none ∨ c.pendingGrant ≠ none ∨ c.state = .held
  · simp [hheld]
  · cases hslot : c.slot with
    | none => simp [hheld]
    | some op => simp [hheld]

section PricingRead
variable {n : Nat} {kind : PluKind} {table : List PluRecord} {r : PluRecord}

theorem pricingRead_missing (h : findPlu n table = none) : pricingRead n kind table = .error .noSuch := by
  simp [pricingRead, h, orRefuse]

theorem pricingRead_withdrawn (h : findPlu n table = some r) (hact : r.active = false) :
    pricingRead n kind table = .error .withdrawn := by
  simp [pricingRead, h, orRefuse, hact]

theorem pricingRead_otherKind (h : findPlu n table = some r) (hact : ¬r.active = false) (hk : r.fields.kind ≠ kind) :
    pricingRead n kind table = .error .badValue := by
  simp [pricingRead, h, orRefuse, hact, hk]

theorem pricingRead_found (h : findPlu n table = some r) (hact : ¬r.active = false) (hk : r.fields.kind = kind) :
    pricingRead n kind table = .ok r := by
  simp [pricingRead, h, orRefuse, hact, hk]

end PricingRead

section Tests
variable {s : State} {p : Port} {w : Platter} {n clerk : Nat} {c : ClerkNo}

theorem priceItemTests_closed (h : s.totals.day.opened = none) :
    s.priceItemTests p w n clerk = .error .dayClosed := by
  simp [State.priceItemTests, State.dayOpen, h]

theorem priceItemTests_noClerk (hday : s.totals.day.opened ≠ none) (h : clerk < 1 ∨ 16 < clerk) :
    s.priceItemTests p w n clerk = .error .badValue := by
  simp [State.priceItemTests, State.dayOpen, Option.isSome_iff_ne_none.2 hday, namedClerk_of_out h]

theorem priceItemTests_disabled (hday : s.totals.day.opened ≠ none) (hc : clerk = c.val + 1)
    (hen : (s.clerk c).enabled = false) : s.priceItemTests p w n clerk = .error .noSuch := by
  simp [State.priceItemTests, State.dayOpen, Option.isSome_iff_ne_none.2 hday, namedClerk_of_val hc, hen]

/-- With the day OPEN and an enabled clerk, the pricing read and then the home station decide (R109 tests 4 and 5). -/
theorem priceItemTests_enabled (hday : s.totals.day.opened ≠ none) (hc : clerk = c.val + 1)
    (hen : ¬(s.clerk c).enabled = false) :
    s.priceItemTests p w n clerk =
      (pricingRead n .byWeight s.plus).bind fun _ =>
        if p = .station (s.channel w).working.home then .ok c else .error .denied := by
  have henabled : (s.clerk c).enabled = true := by simpa using hen
  simp only [State.priceItemTests, State.dayOpen, Option.isSome_iff_ne_none.2 hday, namedClerk_of_val hc, henabled,
    require_true, ok_bind, pure_eq_ok]
  cases pricingRead n .byWeight s.plus with
  | error e => rfl
  | ok r =>
    by_cases hp : p = .station (s.channel w).working.home <;> simp [Except.bind, Channel.isHome, hp]

end Tests

theorem nextCaptureRequest_eq (n : Nat) : nextCaptureRequest n = if n < 4294967295 then n + 1 else 1 := by
  simp only [nextCaptureRequest, Config.sequenceMax, ge_iff_le, ← not_lt, ite_not]

/-- The tests of PRICE ITEM read nothing that taking a request changes. -/
theorem priceItemTests_taken (s : State) (p q : Port) (t : Tag) (i : Instr) (w : Platter) (plu clerk : Nat) :
    (s.taken q t i).priceItemTests p w plu clerk = s.priceItemTests p w plu clerk := rfl

section PriceItem
variable {s : State} {p : Port} {t : Tag} {w : Platter} {n clerk : Nat} {label : LabelChoice}

/-- A PRICE ITEM whose own tests fail is refused with the first failing one's code (R109). -/
theorem priceItem_refuses {e : Result} (hw : Waiting s p t (.priceItem p t w n clerk label))
    (htests : s.priceItemTests p w n clerk = .error e) : Refuses (.priceItem p t w n clerk label) p t s e := by
  have hout : s.captureOutstanding p w n clerk = false := by
    simp [State.captureOutstanding, htests, Except.toBool]
  refine answers_of hw.1 hw.2 rfl rfl ?_
  show execPriceItem p t w n clerk label s = _
  rw [execPriceItem, hout, if_neg Bool.false_ne_true, takeRequest_of_awaits hw.2]
  simp only [priceItemTests_taken, htests]; rfl

/-- A PRICE ITEM that passes its own tests takes the next capture request number even where the channel refuses the
CAPTURE (R109). -/
theorem priceItem_channelRefuses {e : Result} {c : ClerkNo} (hw : Waiting s p t (.priceItem p t w n clerk label))
    (htests : s.priceItemTests p w n clerk = .ok c)
    (hadmit : (s.channel w).admitOperation s.sealHigh p .capture = .error e) :
    Answers (.priceItem p t w n clerk label) p t s e .empty
      { s with txn := { s.txn with nextRequest := nextCaptureRequest s.txn.nextRequest } } := by
  have hout : s.captureOutstanding p w n clerk = false := by
    simp [State.captureOutstanding, hadmit, Except.toBool]
  refine answers_of hw.1 hw.2 rfl rfl ?_
  show execPriceItem p t w n clerk label s = _
  rw [execPriceItem, hout, if_neg Bool.false_ne_true, takeRequest_of_awaits hw.2]
  simp only [priceItemTests_taken, htests]
  dsimp only [State.channel, State.taken, State.mapLink, State.setLink]
  dsimp only [State.channel] at hadmit
  rw [hadmit]; rfl

/-- While the platter's last entry is listed, a PRICE ITEM that would be accepted waits (R109, log entry 51). -/
theorem priceItem_waits {c : ClerkNo} (htests : s.priceItemTests p w n clerk = .ok c)
    (hadmit : (s.channel w).admitOperation s.sealHigh p .capture = .ok ()) (hlisted : ∃ e ∈ s.txn.inFlight, e.platter = w) :
    exec (.priceItem p t w n clerk label) s = .next s := by
  have hout : s.captureOutstanding p w n clerk = true := by
    simp [State.captureOutstanding, htests, hadmit, Except.toBool, hlisted]
  show execPriceItem p t w n clerk label s = _
  rw [execPriceItem, hout, if_pos rfl]

/-- A PRICE ITEM accepted: its entry joins the in-flight list and a CAPTURE of its number the slot (R49, R109). -/
theorem priceItem_defers {c : ClerkNo} (hw : Waiting s p t (.priceItem p t w n clerk label))
    (htests : s.priceItemTests p w n clerk = .ok c)
    (hadmit : (s.channel w).admitOperation s.sealHigh p .capture = .ok ())
    (hlisted : ¬∃ e ∈ s.txn.inFlight, e.platter = w) :
    let i := Instr.priceItem p t w n clerk label
    let r : Requester := ⟨p, t, requestCode i⟩
    let k := s.txn.nextRequest
    let e : InFlight := ⟨r, k, w, n, c, label, (s.clerk c).openTxn, s.totals.day.number⟩
    let u := { s with txn := { s.txn with nextRequest := nextCaptureRequest k, inFlight := s.txn.inFlight ++ [e] } }
    Defers i p t s (u.setChannel w { s.channel w with slot := some ((s.channel w).newEntry .capture r k 0) }) := by
  have hout : s.captureOutstanding p w n clerk = false := by
    simpa [State.captureOutstanding, htests, hadmit, Except.toBool] using hlisted
  refine defers_of hw.1 hw.2 rfl ?_
  show execPriceItem p t w n clerk label s = _
  rw [execPriceItem, hout, if_neg Bool.false_ne_true, takeRequest_of_awaits hw.2]
  simp only [priceItemTests_taken, htests]
  dsimp only [State.channel, State.taken, State.mapLink, State.setLink]
  dsimp only [State.channel] at hadmit
  rw [hadmit]; rfl

end PriceItem

/-- Settles O33: the tests in the order of R109, then the channel's in the order of R49, each by the lemma of its own
outcome. -/
theorem priceItemArrives : Obligations.PriceItemArrives := by
  intro s p t w n clerk label i hw ch
  by_cases hday : s.totals.day.opened = none
  · rw [if_pos hday]
    exact priceItem_refuses hw (priceItemTests_closed hday)
  rw [if_neg hday]
  by_cases hrange : clerk < 1 ∨ 16 < clerk
  · rw [if_pos hrange]
    exact priceItem_refuses hw (priceItemTests_noClerk hday hrange)
  rw [if_neg hrange]
  intro c hc
  by_cases hen : (s.clerk c).enabled = false
  · rw [if_pos hen]
    exact priceItem_refuses hw (priceItemTests_disabled hday hc hen)
  rw [if_neg hen]
  have htests := priceItemTests_enabled (p := p) (w := w) (n := n) hday hc hen
  cases hplu : findPlu n s.plus with
  | none =>
    rw [pricingRead_missing hplu] at htests
    exact priceItem_refuses hw htests
  | some r =>
    dsimp only
    by_cases hact : r.active = false
    · rw [pricingRead_withdrawn hplu hact] at htests
      rw [if_pos hact]
      exact priceItem_refuses hw htests
    rw [if_neg hact]
    by_cases hkind : r.fields.kind ≠ .byWeight
    · rw [pricingRead_otherKind hplu hact hkind] at htests
      rw [if_pos hkind]
      exact priceItem_refuses hw htests
    rw [pricingRead_found hplu hact (not_not.1 hkind), Except.bind] at htests
    rw [if_neg hkind]
    by_cases hhome : p ≠ .station ch.working.home
    · rw [if_neg hhome] at htests
      rw [if_pos hhome]
      exact priceItem_refuses hw htests
    rw [if_pos (not_not.1 hhome)] at htests
    rw [if_neg hhome]
    have hadmit := admitOperation_capture ch s.sealHigh p
    rw [← nextCaptureRequest_eq]
    by_cases hheld : ch.holdOwner ≠ none ∨ ch.pendingGrant ≠ none ∨ ch.state = .held
    · rw [if_pos hheld] at hadmit ⊢
      exact priceItem_channelRefuses hw htests hadmit
    rw [if_neg hheld] at hadmit ⊢
    by_cases hslot : ch.slot ≠ none
    · rw [if_pos hslot] at hadmit ⊢
      exact priceItem_channelRefuses hw htests hadmit
    rw [if_neg hslot] at hadmit ⊢
    by_cases hlisted : ∃ e ∈ s.txn.inFlight, e.platter = w
    · rw [if_pos hlisted]
      exact priceItem_waits htests hadmit hlisted
    rw [if_neg hlisted]
    exact priceItem_defers hw htests hadmit hlisted

end Sys2Proof.Machine.PlatterOps
end

section
/-! PROOF. Which commands leave the weighing channels, or at least their records of the calibration store, as they
were (O12). -/

namespace Sys2Proof.Machine.PlatterOps

/-! ### Operations of the other blocks leave every channel as it was -/

@[simp] theorem channel_mk (w : Platter) (pending : List Instr) (link : LinkController) (weigh : PerPlatter Channel)
    (sealHigh : Bool) (plus : List PluRecord) (pricing : PricingSettings) (txn : TxnTable) (queue : TicketQueue)
    (outlets : PerOutlet Outlet) (totals : Totals) (clock : Clock) (transit : Transit) (readings : Nat) :
    (State.mk pending link weigh sealHigh plus pricing txn queue outlets totals clock transit readings).channel w =
      weigh.get w := rfl

@[simp] theorem weigh_get (s : State) (w : Platter) : s.weigh.get w = s.channel w := rfl

/-- What every step of a fold keeps, the fold keeps. -/
theorem foldl_keeps {α β : Type} {f : State → α → State} {g : State → β} (h : ∀ s a, g (f s a) = g s) (l : List α)
    (s : State) : g (l.foldl f s) = g s := by
  induction l generalizing s with
  | nil => rfl
  | cons a l ih => exact (ih (f s a)).trans (h s a)

section Replies
variable (s : State) (w : Platter)

@[simp] theorem notifyAll_channel (ps : List Port) (n : Notice) : (s.notifyAll ps n).channel w = s.channel w :=
  foldl_keeps (g := fun s => s.channel w) (fun s p => State.notify_channel s p n w) ps s

@[simp] theorem ok_channel (r : Requester) (payload : Payload) : (s.ok r payload).channel w = s.channel w :=
  State.reply_channel s r .ok payload w

@[simp] theorem refuse_channel (r : Requester) (e : Result) : (s.refuse r e).channel w = s.channel w :=
  State.reply_channel s r e .empty w

@[simp] theorem replyTo_channel (r : Option Requester) (e : Result) (payload : Payload) :
    (s.replyTo r e payload).channel w = s.channel w := by
  cases r with
  | none => rfl
  | some r => exact State.reply_channel s r e payload w

@[simp] theorem takenDropped_channel (p : Port) (t : Tag) (c : Instr) : (s.takenDropped p t c).channel w = s.channel w := rfl

end Replies

section Outlets
variable (s : State) (w : Platter) (o : OutletId)

@[simp] theorem tellOutletState_channel (before : OutletState) : (s.tellOutletState o before).channel w = s.channel w := by
  simp [State.tellOutletState]

@[simp] theorem jobLeft_channel (j : QueuedJob) (wasHead : Bool) : (s.jobLeft o j wasHead).channel w = s.channel w := by
  unfold State.jobLeft
  dsimp only
  split_ifs <;> split <;> simp

@[simp] theorem dropHead_channel (j : QueuedJob) : (s.dropHead o j).channel w = s.channel w := by simp [State.dropHead]

@[simp] theorem answerCancels_channel (rs : List Requester) : (s.answerCancels rs).channel w = s.channel w :=
  foldl_keeps (g := fun s => s.channel w) (fun s r => refuse_channel s w r .cancelled) rs s

@[simp] theorem completeCancel_channel (j : QueuedJob) : (s.completeCancel o j).channel w = s.channel w := by
  simp [State.completeCancel]

@[simp] theorem returnOrCancel_channel : (s.returnOrCancel o).channel w = s.channel w := by
  unfold State.returnOrCancel
  split
  · rfl
  · split <;> simp

@[simp] theorem cancelQueued_channel (id : Nat) (r : Option Requester) : (s.cancelQueued o id r).channel w = s.channel w := by
  unfold State.cancelQueued
  dsimp only
  split
  · rfl
  · split_ifs
    · simp
    · simp
    · simp
    · split <;> simp

@[simp] theorem cancelOrder_channel (id : Nat) : (s.cancelOrder o id).channel w = s.channel w := by
  unfold State.cancelOrder; split <;> simp

@[simp] theorem tellJobDone_channel (j : QueuedJob) : (s.tellJobDone o j).channel w = s.channel w := by
  unfold State.tellJobDone; split <;> simp

variable {s} {o}

theorem offer_channel {t : State} {job : Job} {id : Nat} (h : s.offer o job = some (t, id)) : t.channel w = s.channel w := by
  unfold State.offer at h
  split at h
  · cases h
  · cases h; simp

theorem offerInOrder_channel {t : State} {job : Job} {id : Nat} {os : List OutletId}
    (h : s.offerInOrder job os = some (t, o, id)) : t.channel w = s.channel w := by
  induction os with
  | nil => cases h
  | cons x os ih =>
    unfold State.offerInOrder at h
    split at h
    · next hx => cases h; exact offer_channel w hx
    · exact ih h

end Outlets

section Stock
variable (s : State) (w : Platter)

@[simp] theorem lowTest_channel (r : PluRecord) : (s.lowTest r).channel w = s.channel w := by
  unfold State.lowTest
  split
  · rfl
  · split <;> simp

@[simp] theorem reserve_channel (r : PluRecord) (q : Nat) : (s.reserve r q).channel w = s.channel w := by
  simp [State.reserve]

@[simp] theorem returnStock_channel (n q : Nat) : (s.returnStock n q).channel w = s.channel w := by
  unfold State.returnStock; split <;> simp

@[simp] theorem sellStock_channel (n q : Nat) : (s.sellStock n q).channel w = s.channel w := by
  unfold State.sellStock; split <;> simp

end Stock

section Watches
variable (s : State) (w : Platter)

@[simp] theorem fireWatch_channel (i : Fin 4) (value : Nat) (txn : Option Nat) (armed : Bool) :
    (s.fireWatch i value txn armed).channel w = s.channel w := by simp [State.fireWatch]

@[simp] theorem evaluateLine_channel (plu amount subtotal txn : Nat) (is : List (Fin 4)) :
    (s.evaluateLine plu amount subtotal txn is).1.channel w = s.channel w := by
  induction is generalizing s with
  | nil => rfl
  | cons i is ih =>
    unfold State.evaluateLine
    dsimp only
    split
    · exact ih s
    · exact (ih _).trans (fireWatch_channel s w i _ _ _)

@[simp] theorem lineWatches_channel (plu amount subtotal txn : Nat) (c : ClerkNo) :
    (s.lineWatches plu amount subtotal txn c).1.channel w = s.channel w := by
  unfold State.lineWatches
  dsimp only
  split <;> simp

@[simp] theorem clerkWatches_channel (c : ClerkNo) : (s.clerkWatches c).channel w = s.channel w := by
  refine foldl_keeps (g := fun s => s.channel w) (fun s i => ?_) _ s
  unfold State.clerkWatch
  dsimp only
  split
  · split <;> simp
  all_goals rfl

@[simp] theorem queueWatches_channel (k : TicketClass) (n : Nat) : (s.queueWatches k n).channel w = s.channel w := by
  refine foldl_keeps (g := fun s => s.channel w) (fun s i => ?_) _ s
  unfold State.queueWatch
  dsimp only
  split
  · split_ifs <;> simp
  all_goals rfl

end Watches

section Transactions
variable (s : State) (w : Platter)

@[simp] theorem openTxn_channel (c : ClerkNo) (ticket : Option TicketId) (p : Port) :
    (s.openTxn c ticket p).channel w = s.channel w := rfl

@[simp] theorem removeTxn_channel (x : Txn) : (s.removeTxn x).channel w = s.channel w := by
  unfold State.removeTxn
  dsimp only
  split <;> rfl

@[simp] theorem reportTicket_channel (k : Option TicketId) (m : TicketReport) :
    (s.reportTicket k m).channel w = s.channel w := by
  cases k <;> rfl

@[simp] theorem mapTxn_channel (n : Nat) (f : Txn → Txn) : (s.mapTxn n f).channel w = s.channel w := by
  unfold State.mapTxn; split <;> simp

@[simp] theorem labelLine_channel (r : Requester) (n : Nat) (l : Line) (f : PluFields) (item : PricedItem) (c : ClerkNo)
    (choice : LabelChoice) : (s.labelLine r n l f item c choice).1.channel w = s.channel w := by
  unfold State.labelLine
  split
  · split
    · rfl
    · next h => exact (mapTxn_channel _ w _ _).trans (offerInOrder_channel w h)
  · rfl

@[simp] theorem takeLine_channel (r : Requester) (c : ClerkNo) (target : Option Nat) (plu : Nat) (f : PluFields)
    (item : PricedItem) (capture : Option (Platter × Nat)) (choice : LabelChoice) :
    (s.takeLine r c target plu f item capture choice).channel w = s.channel w := by
  unfold State.takeLine
  dsimp only
  split
  · split <;> simp
  · split_ifs <;> simp

@[simp] theorem cancelLabel_channel (l : Line) : (s.cancelLabel l).channel w = s.channel w := by
  unfold State.cancelLabel; split <;> simp

@[simp] theorem voidAll_channel (x : Txn) : (s.voidAll x).channel w = s.channel w :=
  foldl_keeps (g := fun s => s.channel w) (fun s l => by simp [State.voidOne]) _ s

@[simp] theorem closeSteps_channel (x : Txn) (p : Port) : (s.closeSteps x p).channel w = s.channel w := by
  have hsell (v : State) := foldl_keeps (g := fun s => s.channel w) (f := fun s (l : Line) => s.sellStock l.plu l.quantity)
    (fun s l => sellStock_channel s w l.plu l.quantity) (unvoided x.lines) v
  simp [State.closeSteps, hsell]

variable {s}

theorem closeLabel_channel {t : State} {x : Txn} {label : Bool} {p : Port} {status : LabelStatus}
    (h : s.closeLabel x label p = .ok (t, status)) : t.channel w = s.channel w := by
  unfold State.closeLabel at h
  split at h
  · split at h
    · cases h
    · next hr => cases h; exact offerInOrder_channel w hr
  · cases h; rfl

theorem discard_channel {t : State} {n : Nat} {k : TicketId} (h : s.discard n k = .ok t) : t.channel w = s.channel w := by
  unfold State.discard at h
  cases hx : s.findTxn n with
  | none => simp [hx, orRefuse] at h
  | some x =>
    by_cases hk : (x.parkedAt.isNone && decide (x.ticket = some k)) = true
    · by_cases hl : x.lines.isEmpty = true
      · simp only [hx, orRefuse, hk, hl, require_true, ok_bind, pure_eq_ok, Except.ok.injEq] at h
        rw [← h, removeTxn_channel]
      · simp [hx, orRefuse, hk, hl] at h
    · simp [hx, orRefuse, hk] at h

end Transactions

section Tickets
variable (s : State) (w : Platter)

@[simp] theorem queueChange_channel (k : TicketClass) (cause : QueueCause) :
    (s.queueChange k cause).channel w = s.channel w := by simp [State.queueChange]

@[simp] theorem issue_channel (k : TicketClass) (n : Nat) : (s.issue k n).channel w = s.channel w := by
  simp [State.issue]

@[simp] theorem dispenserIssue_channel (k : TicketClass) : (s.dispenserIssue k).channel w = s.channel w := by
  unfold State.dispenserIssue
  split
  · simp
  · split
    · simp
    · next h => simp [offerInOrder_channel w h]

@[simp] theorem enlist_channel (t : Ticket) : (s.enlist t).channel w = s.channel w := rfl

@[simp] theorem delist_channel (k : TicketId) : (s.delist k).channel w = s.channel w := rfl

@[simp] theorem showCall_channel (k : TicketId) (p : Port) : (s.showCall k p).channel w = s.channel w := by
  have hoffer (job : Job) (os : List OutletId) (v : State) : (v.offerEach job os).channel w = v.channel w := by
    refine foldl_keeps (g := fun s => s.channel w) (fun s o => ?_) os v
    cases h : s.offer o job with
    | none => rfl
    | some x => exact offer_channel w h
  simp [State.showCall, hoffer]

@[simp] theorem confirmCall_channel (t : Ticket) (txn : Nat) (p : Port) :
    (s.confirmCall t txn p).channel w = s.channel w := by simp [State.confirmCall]

@[simp] theorem skipTicket_channel (x : CalledTicket) : (s.skipTicket x).channel w = s.channel w := by
  unfold State.skipTicket State.missTicket
  dsimp only
  split
  · simp
  · split <;> simp

@[simp] theorem endTicket_channel (k : TicketId) (o : TicketOutcome) : (s.endTicket k o).channel w = s.channel w := by
  unfold State.endTicket; split <;> simp

@[simp] theorem hearBound_channel (k : TicketId) (m : BoundReport) : (s.hearBound k m).channel w = s.channel w := by
  unfold State.hearBound; split <;> simp

@[simp] theorem settleTickets_channel : s.settleTickets.channel w = s.channel w := by
  refine foldl_keeps (g := fun s => s.channel w) (fun s m => ?_) s.transit.ticketReports s
  unfold State.hearReport
  split <;> simp

@[simp] theorem abandonTickets_channel (ts : List Ticket) : (s.abandonTickets ts).channel w = s.channel w :=
  foldl_keeps (g := fun s => s.channel w) (fun s _ => State.mapTotals_channel s _ w) ts s

@[simp] theorem endDay_channel : s.endDay.channel w = s.channel w := by
  have hclass (v : State) (k : TicketClass) : (v.abandonClass k).channel w = v.channel w := by
    unfold State.abandonClass
    dsimp only
    split <;> simp
  have hall := foldl_keeps (g := fun s => s.channel w) hclass TicketClass.all s
  simp [State.endDay, hall]

@[simp] theorem settleUnits_channel : s.settleUnits.channel w = s.channel w := by
  have hcalls (calls : List Call) (v : State) :=
    foldl_keeps (g := fun s => s.channel w) (f := fun s (x : Call) => s.enlist x.ticket) (fun _ _ => rfl) calls v
  simp [State.settleUnits, hcalls]

@[simp] theorem afterDiscard_channel (m : DiscardOrder) : (s.afterDiscard m).channel w = s.channel w := by
  unfold State.afterDiscard
  split
  · simp
  · dsimp only
    split <;> simp

variable {s}

theorem takeReport_channel {t : State} {k : TicketId} {m : TicketReport} (h : s.takeReport k = some (m, t)) :
    t.channel w = s.channel w := by
  unfold State.takeReport at h
  split at h
  · cases h
  · cases h; rfl

end Tickets

section Day
variable (s : State) (w : Platter)

@[simp] theorem openDay_channel (date : Date) : (s.openDay date).channel w = s.channel w := by simp [State.openDay]

@[simp] theorem forceVoidAll_channel : s.forceVoidAll.channel w = s.channel w := by
  refine foldl_keeps (g := fun s => s.channel w) (fun s n => ?_) _ s
  unfold State.forceVoid
  split
  · rfl
  · dsimp only
    split <;> simp

@[simp] theorem clearCounter_channel (mode : CloseMode) : (s.clearCounter mode).channel w = s.channel w := by
  cases mode <;> simp [State.clearCounter]

@[simp] theorem sealDay_channel (mode : CloseMode) (d : OpenDay) : (s.sealDay mode d).channel w = s.channel w := by
  simp [State.sealDay]

end Day

section Links
variable (s : State) (w : Platter)

@[simp] theorem admitFrames_channel (p : Port) (fuel : Nat) : (s.admitFrames p fuel).channel w = s.channel w := by
  induction fuel generalizing s with
  | zero => rfl
  | succ fuel ih =>
    unfold State.admitFrames
    dsimp only
    split
    · rfl
    · split
      · rfl
      · split
        · exact ih _
        · rfl

@[simp] theorem admitAll_channel (p : Port) : (s.admitAll p).channel w = s.channel w := admitFrames_channel s w p _

@[simp] theorem receiveAll_channel (p : Port) (events : List HuntEvent) :
    (s.receiveAll p events).channel w = s.channel w :=
  foldl_keeps (g := fun s => s.channel w) (fun s e => by simp) events s

@[simp] theorem replySent_channel (p : Port) (r : ReadyReply) : (s.replySent p r).channel w = s.channel w := rfl

@[simp] theorem cancelPriceItem_channel (r : Requester) : (s.cancelPriceItem r).channel w = s.channel w := by
  unfold State.cancelPriceItem; split <;> rfl

@[simp] theorem cancelAtTickets_channel (r : Requester) : (s.cancelAtTickets r).channel w = s.channel w := by
  unfold State.cancelAtTickets; split <;> rfl

@[simp] theorem cancelAtOutlet_channel (o : OutletId) (r : Requester) : (s.cancelAtOutlet o r).channel w = s.channel w := rfl

end Links

/-! ### Operations of a weighing channel keep its record of the calibration store -/

section OneChannel
variable (c : Channel)

@[simp] theorem setTare_record (mg : Nat) (kind : TareKind) : (c.setTare mg kind).record = c.record := (rfl)
@[simp] theorem granted_record (p : Port) : (c.granted p).record = c.record := (rfl)
@[simp] theorem consume_record (gross : Int) : (c.consume gross).record = c.record := (rfl)
@[simp] theorem emptyWindow_record : c.emptyWindow.record = c.record := (rfl)

@[simp] theorem addSample_record (v : Int) : (c.addSample v).record = c.record := by
  unfold Channel.addSample
  dsimp only
  split
  · split <;> rfl
  · rfl

@[simp] theorem measure_record : c.measure.record = c.record := by
  unfold Channel.measure
  dsimp only
  split <;> rfl

@[simp] theorem settle_record : c.settle.1.record = c.record := by
  unfold Channel.settle
  dsimp only
  split
  · rfl
  · split <;> rfl

@[simp] theorem zeroAndTare_record : c.zeroAndTare.1.record = c.record := by
  have hzero : c.initialZero.1.record = c.record := by
    unfold Channel.initialZero
    split
    · rfl
    · split_ifs <;> rfl
  have htrack : c.track.record = c.record := by
    unfold Channel.track
    split
    · rfl
    · split <;> rfl
  have hclear (c : Channel) : c.autoClear.record = c.record := by
    unfold Channel.autoClear
    split
    · rfl
    · split <;> rfl
  unfold Channel.zeroAndTare
  split_ifs <;> simp [hzero, htrack, hclear]

@[simp] theorem releaseInterlock_record : c.releaseInterlock.record = c.record := by
  unfold Channel.releaseInterlock
  split
  · split
    · rfl
    · split <;> rfl
  · rfl

@[simp] theorem weigh_record : c.weigh.1.record = c.record := by simp [Channel.weigh]

@[simp] theorem silenceSlot_record : c.silenceSlot.record = c.record := by
  unfold Channel.silenceSlot
  split
  · split <;> rfl
  · rfl

@[simp] theorem silenceState_record : c.silenceState.1.record = c.record := by
  unfold Channel.silenceState; split <;> rfl

@[simp] theorem released_record : c.released.record = c.record := by
  unfold Channel.released
  dsimp only
  split <;> rfl

@[simp] theorem applyWorking_record (f : PlatterFields) : (c.applyWorking f).record = c.record := by
  have hn (c : Channel) : (c.setN f.n).record = c.record := by unfold Channel.setN; split <;> rfl
  have hm (c : Channel) : (c.setM f.m).record = c.record := by unfold Channel.setM; split <;> rfl
  have hhome (c : Channel) : (c.setHome f.home).record = c.record := by unfold Channel.setHome; split <;> rfl
  simp [Channel.applyWorking, hn, hm, hhome]

@[simp] theorem forgetPort_record (p : Port) : (c.forgetPort p).record = c.record := by
  unfold Channel.forgetPort
  dsimp only
  split_ifs <;> rfl

end OneChannel

section Weighing
variable (s : State) (v w : Platter)

/-- A channel replaced by one with the same record. -/
@[simp] theorem setChannel_record {c : Channel} (h : c.record = (s.channel v).record) :
    ((s.setChannel v c).channel w).record = (s.channel w).record := by
  by_cases hw : w = v
  · subst hw; rw [State.channel_setChannel_same, h]
  · rw [State.channel_setChannel_of_ne s c hw]

@[simp] theorem alert_channel (a : AlertReason) : (s.alert v a).channel w = s.channel w := by simp [State.alert]

@[simp] theorem sendReport_record : ((s.sendReport v).channel w).record = (s.channel w).record := by
  unfold State.sendReport
  dsimp only
  split <;> simp

@[simp] theorem reportCheck_record : ((s.reportCheck v).channel w).record = (s.channel w).record := by
  rcases s.reportCheck_cases v with ⟨_, _, _, h⟩ | ⟨_, _, _, _, h⟩ <;> simp [h]

@[simp] theorem grantHold_record (p : Port) : ((s.grantHold v p).channel w).record = (s.channel w).record := by
  simp [State.grantHold]

@[simp] theorem endHold_record : ((s.endHold v).channel w).record = (s.channel w).record := by
  unfold State.endHold
  dsimp only
  split <;> simp

@[simp] theorem givePending_record : ((s.givePending v).channel w).record = (s.channel w).record := by
  unfold State.givePending
  split <;> simp

@[simp] theorem clearSlot_record : ((s.clearSlot v).channel w).record = (s.channel w).record := by
  simp [State.clearSlot]

@[simp] theorem endOperation_record (op : OpEntry) (e : Result) (payload : Payload) :
    ((s.endOperation v op e payload).channel w).record = (s.channel w).record := by
  simp [State.endOperation]

@[simp] theorem beginWrite_record (op : OpEntry) (record : StoreRecord) :
    ((s.beginWrite v op record).channel w).record = (s.channel w).record := by
  simp [State.beginWrite]

@[simp] theorem completeOperation_record (op : OpEntry) :
    ((s.completeOperation v op).channel w).record = (s.channel w).record := by
  unfold State.completeOperation
  dsimp only
  split
  · split <;> simp
  · split <;> simp
  · exact (endOperation_record _ v w op _ _).trans (setChannel_record s v w rfl)
  · simp
  · split
    · simp
    · split <;> simp
  · rfl

@[simp] theorem testOperation_record : ((s.testOperation v).channel w).record = (s.channel w).record := by
  unfold State.testOperation
  dsimp only
  split
  · rfl
  · split
    · rfl
    · split <;> simp

@[simp] theorem evaluate_record : ((s.evaluate v).channel w).record = (s.channel w).record := by
  have halerts (u : State) (as : List AlertReason) :=
    foldl_keeps (g := fun s => s.channel w) (fun s a => alert_channel s v w a) as u
  simp [State.evaluate, halerts]

@[simp] theorem askOperation_record (kind : OpKind) (load : Nat) (r : Requester) :
    ((s.askOperation v kind load r).channel w).record = (s.channel w).record := by
  unfold State.askOperation
  dsimp only
  split <;> simp

@[simp] theorem refuseOperation_record (op : OpEntry) (e : Result) :
    ((s.refuseOperation v op e).channel w).record = (s.channel w).record := by
  unfold State.refuseOperation
  dsimp only
  split <;> simp

@[simp] theorem sealOff_record : ((s.sealOff v).channel w).record = (s.channel w).record := by
  unfold State.sealOff
  split
  · split <;> simp
  · rfl

@[simp] theorem resetChannel_record (p : Port) : ((s.resetChannel p v).channel w).record = (s.channel w).record := by
  unfold State.resetChannel
  dsimp only
  split
  · split
    · split <;> simp
    · simp
  · simp

@[simp] theorem cancelAtChannel_record (r : Requester) : ((s.cancelAtChannel v r).channel w).record = (s.channel w).record := by
  unfold State.cancelAtChannel
  dsimp only
  split
  · simp
  · split
    · split <;> simp
    · simp

@[simp] theorem cancelAt_record (r : Requester) (b : Block) : ((s.cancelAt r b).channel w).record = (s.channel w).record := by
  cases b <;> simp [State.cancelAt]

/-- A start keeps the calibration store (R66, R193). -/
@[simp] theorem coldStart_record (levels : Levels) : ((s.coldStart levels).channel w).record = (s.channel w).record := by
  cases w <;> rfl

@[simp] theorem warmStart_record (kind : StartKind) (levels : Levels) :
    ((s.warmStart kind levels).channel w).record = (s.channel w).record := by
  rw [← settleUnits_channel s]
  cases w <;> rfl

end Weighing

/-! ### Commands that keep every record of the calibration store -/

/-- Whatever state the outcome answers, every platter's record of the calibration store is as it was in `s`. -/
def KeepsRecords (s : State) (o : Outcome) : Prop := ∀ t, o = .next t → ∀ w, (t.channel w).record = (s.channel w).record

@[simp] theorem keepsRecords_next (s u : State) :
    KeepsRecords s (.next u) ↔ ∀ w, (u.channel w).record = (s.channel w).record :=
  ⟨fun h => h u rfl, by rintro h _ ⟨⟩; exact h⟩

@[simp] theorem keepsRecords_done (s u : State) :
    KeepsRecords s (done u) ↔ ∀ w, (u.channel w).record = (s.channel w).record := keepsRecords_next s u.transmitAll

/-- A request keeps the records when its effect does. -/
theorem keepsRecords_takeRequest {p : Port} {t : Tag} {c : Instr} {s : State} {effect : Requester → State → State}
    (h : ∀ r u w, ((effect r u).channel w).record = (u.channel w).record) : KeepsRecords s (takeRequest p t c s effect) := by
  rcases takeRequest_cases p t c s effect with ⟨-, he⟩ | ⟨-, he⟩ | ⟨-, -, he⟩ <;> simp [he, h]

section Commands
variable (s : State)

theorem linkReset_keepsRecords (p : Port) : KeepsRecords s (execLinkReset p s) := by
  unfold execLinkReset
  dsimp only
  split
  · simp
  · refine (keepsRecords_done _ _).2 fun w => ?_
    exact foldl_keeps (g := fun s => (s.channel w).record) (fun s v => resetChannel_record s v w p) Platter.all _

theorem rateLearningCharacter_keepsRecords (p : Port) (lowNs : Nat) (decoded : Byte) :
    KeepsRecords s (execRateLearningCharacter p lowNs decoded s) := by
  unfold execRateLearningCharacter
  dsimp only
  split
  · split
    · split <;> simp
    · simp
  · simp

theorem captureCancellation_keepsRecords (w : Platter) : KeepsRecords s (execCaptureCancellation w s) := by
  unfold execCaptureCancellation
  dsimp only
  split
  · simp
  · split
    · split <;> simp
    · simp

theorem captureConsumed_keepsRecords (w : Platter) : KeepsRecords s (execCaptureConsumed w s) := by
  unfold execCaptureConsumed
  dsimp only
  split
  · simp
  · split
    · split
      · exact (keepsRecords_done _ _).2 fun v => (reportCheck_record _ w v).trans (setChannel_record _ w v rfl)
      · simp
    · simp

theorem sealFalls_keepsRecords : KeepsRecords s (execSealFalls s) := by
  unfold execSealFalls
  split
  · refine (keepsRecords_done _ _).2 fun w => ?_
    exact foldl_keeps (g := fun s => (s.channel w).record) (fun s v => sealOff_record s v w) Platter.all _
  · simp

theorem priceItem_keepsRecords (p : Port) (t : Tag) (v : Platter) (plu clerk : Nat) (label : LabelChoice) :
    KeepsRecords s (execPriceItem p t v plu clerk label s) := by
  unfold execPriceItem
  split
  · simp
  · refine keepsRecords_takeRequest fun r u w => ?_
    dsimp only
    split
    · simp
    · split
      · simp
      · exact setChannel_record u v w rfl

theorem captureTaken_keepsRecords (w : Platter) : KeepsRecords s (execCaptureTaken w s) := by
  unfold execCaptureTaken
  dsimp only
  split
  · simp
  · split
    · simp
    · split <;> simp

theorem closeTransaction_keepsRecords (p : Port) (t : Tag) (clerk : Nat) (label : Bool) :
    KeepsRecords s (execCloseTransaction p t clerk label s) := by
  unfold execCloseTransaction
  refine keepsRecords_takeRequest fun r u w => ?_
  split
  · simp
  · split
    · simp
    · next h => simp [closeLabel_channel w h]

theorem reprintTotal_keepsRecords (p : Port) (t : Tag) (n : Nat) : KeepsRecords s (execReprintTotal p t n s) := by
  unfold execReprintTotal
  refine keepsRecords_takeRequest fun r u w => ?_
  split
  · simp
  · split
    · simp
    · next h => simp [offerInOrder_channel w h]

theorem discard_keepsRecords (k : TicketId) : KeepsRecords s (execDiscard k s) := by
  unfold execDiscard
  dsimp only
  split
  · simp
  · split
    · simp
    · next h => simp [discard_channel _ h]

theorem boundTxnReport_keepsRecords (k : TicketId) : KeepsRecords s (execBoundTxnReport k s) := by
  unfold execBoundTxnReport
  split
  · next h => simp [takeReport_channel _ h]
  · simp
  · simp

theorem ticketOutcomeReport_keepsRecords (k : TicketId) : KeepsRecords s (execTicketOutcomeReport k s) := by
  unfold execTicketOutcomeReport
  split
  · next h => simp [takeReport_channel _ h]
  · simp
  · simp

theorem dispenserLineChange_keepsRecords (d : DispenserLine) (high : Bool) :
    KeepsRecords s (execDispenserLineChange d high s) := by
  unfold execDispenserLineChange
  dsimp only
  split
  · simp
  · split
    · simp
    · split <;> simp

theorem closeDay_keepsRecords (p : Port) (t : Tag) (mode : CloseMode) : KeepsRecords s (execCloseDay p t mode s) := by
  unfold execCloseDay
  split
  · refine keepsRecords_takeRequest fun r u w => ?_
    split <;> simp
  · simp

theorem powerUp_keepsRecords (good : Bool) (levels : Levels) : KeepsRecords s (execPowerUp good levels s) := by
  cases good <;> simp [execPowerUp]

end Commands

/-- Every command but the end of a store write keeps the records. Requests and events are taken together by the tests
that stand before their effects; the ones with a fold or with an effect of several answers have their own lemmas. -/
theorem exec_keepsRecords (s : State) (c : Instr) (hc : ∀ v success, c ≠ .storeWriteEnd v success) :
    KeepsRecords s (exec c s) := by
  cases c
  all_goals dsimp only [exec]
  case storeWriteEnd v success => exact absurd rfl (hc v success)
  case readStatus | readWeight | calZero | calSpan | readCalibration | readQueue | readOutlet | readWatch =>
    exact keepsRecords_takeRequest fun r u w => by simp
  case readRefusal | setThreshold | setNoticePriority | setPermissions | zero | tare | pluWrite | pluWithdraw |
      pluRestore | stockLoad | clerkWrite | addCountItem | configureStation | approve | readTransaction | readClerk |
      configureClass | issueTicket | callNext | skip | cancelJob | openDay | readTotals | readClosedDay | setWatch |
      setClock =>
    exact keepsRecords_takeRequest fun r u w => by split <;> simp
  case presetTare | clearTare =>
    exact keepsRecords_takeRequest fun r u w => by dsimp only; split <;> simp
  case calHold | calRelease =>
    exact keepsRecords_takeRequest fun r u w => by dsimp only; split_ifs <;> simp
  case pluRead | pluReadNext =>
    exact keepsRecords_takeRequest fun r u w => by
      split
      · split <;> simp
      · simp
  case stockLoadNone =>
    exact keepsRecords_takeRequest fun r u w => by
      split
      · simp
      · split
        · simp
        · split <;> simp
  case voidTransaction p t name =>
    exact keepsRecords_takeRequest fun r u w => by
      split
      · simp
      · cases name <;> simp [State.noteNamed]
  case configurePlatter =>
    exact keepsRecords_takeRequest fun r u w => by
      dsimp only
      split
      · simp
      · split <;> simp
  case pluDelete =>
    exact keepsRecords_takeRequest fun r u w => by
      split
      · simp
      · split <;> simp
  case resumeOutlet | configureOutlet | reinstate | voidLine | park | resume | readLink | restart =>
    exact keepsRecords_takeRequest fun r u w => by dsimp only; split <;> simp
  case sealRises | holdOffExpiry | holdAsserted | holdReleased | clockSecond | daySecondsAdvance =>
    dsimp only [execSealRises, execHoldOffExpiry, execHoldAsserted, execHoldReleased, execClockSecond,
      execDaySecondsAdvance]
    simp
  case presentLineRises | frameReceived | frameGapTimeout | transmitComplete | requestCancellation | sampleArrival |
      operationTimeout | holdTimerExpiry | paperOut | paperReady | outletPresentFalls | outletPresentRises |
      totalsReport | restartEffects =>
    dsimp only [execPresentLineRises, execFrameReceived, execFrameGapTimeout, execTransmitComplete,
      execRequestCancellation, execSampleArrival, execOperationTimeout, execHoldTimerExpiry, execPaperOut,
      execPaperReady, execOutletPresentFalls, execOutletPresentRises, execTotalsReport, execRestartEffects]
    split <;> simp
  case silenceTimerExpiry | reportTimerExpiry | captureRefusalTaken | openBound | deviceJobDone =>
    dsimp only [execSilenceTimerExpiry, execReportTimerExpiry, execCaptureRefusalTaken, execOpenBound,
      execDeviceJobDone]
    split
    · simp
    · split <;> simp
  case lineTaken | callTimerExpiry =>
    dsimp only [execLineTaken, execCallTimerExpiry]
    split
    · simp
    · split_ifs <;> simp
  case linkReset p => exact linkReset_keepsRecords s p
  case rateLearningCharacter p lowNs decoded => exact rateLearningCharacter_keepsRecords s p lowNs decoded
  case captureCancellation w => exact captureCancellation_keepsRecords s w
  case captureConsumed w => exact captureConsumed_keepsRecords s w
  case sealFalls => exact sealFalls_keepsRecords s
  case priceItem p t v plu clerk label => exact priceItem_keepsRecords s p t v plu clerk label
  case captureTaken w => exact captureTaken_keepsRecords s w
  case closeTransaction p t clerk label => exact closeTransaction_keepsRecords s p t clerk label
  case reprintTotal p t n => exact reprintTotal_keepsRecords s p t n
  case discard k => exact discard_keepsRecords s k
  case boundTxnReport k => exact boundTxnReport_keepsRecords s k
  case ticketOutcomeReport k => exact ticketOutcomeReport_keepsRecords s k
  case dispenserLineChange d high => exact dispenserLineChange_keepsRecords s d high
  case closeDay p t mode => exact closeDay_keepsRecords s p t mode
  case powerUp good levels => exact powerUp_keepsRecords s good levels
  -- The one command left is RECALL, whose constructor's name is a keyword here.
  · exact keepsRecords_takeRequest fun r u w => by dsimp only; split <;> simp

/-! ### The end of a store write -/

theorem storeWritten_counter (c : Channel) (record : StoreRecord) (working : Option PlatterFields) :
    (c.storeWritten record working).record.counter = saturate Config.calibrationCounterCap c.record.counter := by
  cases working with
  | none => rfl
  | some f => simp [Channel.storeWritten]

/-- The end of a store write keeps every record, or, the write having succeeded, changes no record but by the written
one (R67). -/
theorem storeWriteEnd_cases (s : State) (v : Platter) (success : Bool) :
    KeepsRecords s (execStoreWriteEnd v success s) ∨
    (success = true ∧ ∃ record working,
      KeepsRecords (s.setChannel v ((s.channel v).storeWritten record working)) (execStoreWriteEnd v success s)) := by
  have hend (u : State) (b : Prop) [Decidable b] (w : Platter) :
      ((if b then u.endHold v else u).channel w).record = (u.channel w).record := by split <;> simp
  unfold execStoreWriteEnd
  dsimp only
  split
  · simp
  · split
    · simp
    · next record working _ =>
      cases success with
      | false => left; simp [hend]
      | true => exact .inr ⟨rfl, record, working, by simp [hend]⟩

/-- Settles O12: every command but the end of a store write keeps all the records, and that end changes only the
record of its own platter. -/
theorem onlyStoreWritesChangeTheRecord : Obligations.OnlyStoreWritesChangeTheRecord := by
  intro s t c w h
  by_cases hc : ∃ v success, c = .storeWriteEnd v success
  · obtain ⟨v, success, rfl⟩ := hc
    rcases storeWriteEnd_cases s v success with hkeeps | ⟨rfl, record, working, hkeeps⟩
    · exact .inl (hkeeps t h w)
    · have hrecord := hkeeps t h w
      by_cases hw : w = v
      · subst hw
        rw [State.channel_setChannel_same] at hrecord
        exact .inr ⟨rfl, hrecord ▸ storeWritten_counter _ record working⟩
      · exact .inl (hrecord.trans (by rw [State.channel_setChannel_of_ne s _ hw]))
  · exact .inl (exec_keepsRecords s c (fun v success hv => hc ⟨v, success, hv⟩) t h w)

end Sys2Proof.Machine.PlatterOps
end

section
/-! PROOF. Tables kept in ascending order of a number: what putting an entry at its place does. The PLU table and the
held transactions are two of them (R71, R105). -/

namespace Sys2Proof.Ordered

variable {α β : Type} {key : α → Nat}

/-- The table with an entry at the place its number gives, over any entry of the same number. -/
def put (key : α → Nat) (x : α) : List α → List α
  | [] => [x]
  | y :: ys => if key x < key y then x :: y :: ys else if key x = key y then x :: ys else y :: put key x ys

/-- The entries stand in ascending order of distinct numbers. -/
abbrev Ascending (key : α → Nat) (l : List α) : Prop := l.Pairwise fun x y => key x < key y

theorem find?_put_same (x : α) (l : List α) : (put key x l).find? (fun y => key y = key x) = some x := by
  induction l with
  | nil => simp [put]
  | cons y ys ih =>
    unfold put
    split_ifs with hlt heq
    · simp
    · simp
    · simp [ih, Ne.symm heq]

theorem find?_put_of_ne {x : α} {n : Nat} (h : n ≠ key x) (l : List α) :
    (put key x l).find? (fun y => key y = n) = l.find? (fun y => key y = n) := by
  induction l with
  | nil => simp [put, h.symm]
  | cons y ys ih =>
    unfold put
    split_ifs with hlt heq
    · simp [h.symm]
    · simp [h.symm, ← heq]
    · simp [List.find?_cons, ih]

/-- A later entry of the same number takes the place of the earlier. -/
theorem put_put {x y : α} (h : key x = key y) (l : List α) : put key x (put key y l) = put key x l := by
  induction l with
  | nil => simp [put, h]
  | cons z zs ih =>
    by_cases hlt : key y < key z
    · simp [put, h, hlt]
    · by_cases heq : key y = key z
      · simp [put, h, heq]
      · simp [put, h, hlt, heq, ih]

/-- An entry put over one of its number leaves the numbers as they were. -/
theorem map_key_put {x : α} {l : List α} (ha : Ascending key l) (h : key x ∈ l.map key) :
    (put key x l).map key = l.map key := by
  induction l with
  | nil => simp at h
  | cons y ys ih =>
    obtain ⟨hy, hys⟩ := List.pairwise_cons.1 ha
    rcases List.mem_cons.1 h with heq | hmem
    · simp [put, heq]
    · obtain ⟨z, hz, hzx⟩ := List.mem_map.1 hmem
      have := hy z hz
      have hlt : ¬key x < key y := by omega
      have hne : key x ≠ key y := by omega
      simp [put, hlt, hne, ih hys hmem]

theorem find?_of_mem {x : α} {l : List α} (ha : Ascending key l) (h : x ∈ l) :
    l.find? (fun y => key y = key x) = some x := by
  induction l with
  | nil => simp at h
  | cons y ys ih =>
    obtain ⟨hy, hys⟩ := List.pairwise_cons.1 ha
    rcases List.mem_cons.1 h with rfl | hmem
    · simp
    · have hne : ¬key y = key x := Nat.ne_of_lt (hy x hmem)
      simp [hne, ih hys hmem]

theorem filter_ne_of_lt {n : Nat} {l : List α} (h : ∀ y ∈ l, n < key y) : l.filter (fun y => key y ≠ n) = l :=
  List.filter_eq_self.2 fun y hy => by simpa using Nat.ne_of_gt (h y hy)

/-- The entries after a put: the new one, and the old ones of other numbers. -/
theorem put_perm {l : List α} (ha : Ascending key l) (x : α) :
    (put key x l).Perm (x :: l.filter fun y => key y ≠ key x) := by
  induction l with
  | nil => simp [put]
  | cons y ys ih =>
    obtain ⟨hy, hys⟩ := List.pairwise_cons.1 ha
    unfold put
    split_ifs with hlt heq
    · rw [filter_ne_of_lt fun z hz => ?_]
      rcases List.mem_cons.1 hz with rfl | hz
      · exact hlt
      · exact hlt.trans (hy z hz)
    · rw [List.filter_cons_of_neg (by simp [heq]), filter_ne_of_lt fun z hz => heq ▸ hy z hz]
    · rw [List.filter_cons_of_pos (by simpa using Ne.symm heq)]
      exact ((ih hys).cons y).trans (List.Perm.swap ..)

/-- The entries of an ascending table: one of them, and those of other numbers. -/
theorem perm_of_mem {x : α} {l : List α} (ha : Ascending key l) (h : x ∈ l) :
    l.Perm (x :: l.filter fun y => key y ≠ key x) := by
  induction l with
  | nil => simp at h
  | cons y ys ih =>
    obtain ⟨hy, hys⟩ := List.pairwise_cons.1 ha
    rcases List.mem_cons.1 h with rfl | hmem
    · rw [List.filter_cons_of_neg (by simp), filter_ne_of_lt hy]
    · rw [List.filter_cons_of_pos (by simpa using Nat.ne_of_lt (hy x hmem))]
      exact ((ih hys hmem).cons y).trans (List.Perm.swap ..)

theorem mem_put {l : List α} (ha : Ascending key l) {x y : α} :
    y ∈ put key x l ↔ y = x ∨ y ∈ l ∧ key y ≠ key x := by
  simp [(put_perm ha x).mem_iff]

theorem ascending_put {l : List α} (ha : Ascending key l) (x : α) : Ascending key (put key x l) := by
  induction l with
  | nil => simp [put]
  | cons y ys ih =>
    obtain ⟨hy, hys⟩ := List.pairwise_cons.1 ha
    unfold put
    split_ifs with hlt heq
    · exact List.pairwise_cons.2 ⟨fun z hz => by
        rcases List.mem_cons.1 hz with rfl | hz
        · exact hlt
        · exact hlt.trans (hy z hz), ha⟩
    · exact List.pairwise_cons.2 ⟨fun z hz => heq ▸ hy z hz, hys⟩
    · refine List.pairwise_cons.2 ⟨fun z hz => ?_, ih hys⟩
      rcases (mem_put hys).1 hz with rfl | ⟨hz, -⟩
      · omega
      · exact hy z hz

/-- An entry put over one of its number leaves the table's size as it was. -/
theorem length_put {x y : α} {l : List α} (ha : Ascending key l) (h : y ∈ l) (hk : key y = key x) :
    (put key x l).length = l.length := by
  rw [← List.length_map (f := key), map_key_put ha (hk ▸ List.mem_map_of_mem h), List.length_map]

end Sys2Proof.Ordered

end

section
/-! PROOF. The PLU table's reads and maintenance, and the loading of stock (O27 to O30). -/

namespace Sys2Proof.Machine.PluTable

open PlatterOps Ordered

/-! ### The table (R71, R72) -/

theorem putPlu_eq_put (r : PluRecord) (table : List PluRecord) : putPlu r table = put PluRecord.number r table := by
  induction table with
  | nil => rfl
  | cons x xs ih => simp only [putPlu, put, ih]

theorem findPlu_number {n : Nat} {table : List PluRecord} {r : PluRecord} (h : findPlu n table = some r) : r.number = n := by
  simpa using List.find?_some h

theorem findPlu_mem {n : Nat} {table : List PluRecord} {r : PluRecord} (h : findPlu n table = some r) : r ∈ table :=
  List.mem_of_find?_eq_some h

theorem findPlu_eq_none {n : Nat} {table : List PluRecord} : findPlu n table = none ↔ ∀ r ∈ table, r.number ≠ n := by
  simp [findPlu]

/-- In a table in order, the record of a number is the one there. -/
theorem findPlu_of_mem {table : List PluRecord} {r : PluRecord} (ha : Ascending PluRecord.number table) (h : r ∈ table) :
    findPlu r.number table = some r := find?_of_mem ha h

theorem findPlu_putPlu_same {r : PluRecord} {n : Nat} (h : r.number = n) (table : List PluRecord) :
    findPlu n (putPlu r table) = some r := by
  rw [putPlu_eq_put, ← h]; exact find?_put_same r table

theorem findPlu_putPlu_of_ne {r : PluRecord} {m : Nat} (h : m ≠ r.number) (table : List PluRecord) :
    findPlu m (putPlu r table) = findPlu m table := by
  rw [putPlu_eq_put]; exact find?_put_of_ne h table

/-- A record changed in place is the change of that record, and of no other (`RecordChanged`). -/
theorem recordChanged_putPlu {n : Nat} {table : List PluRecord} {r : PluRecord} (f : PluRecord → PluRecord)
    (h : findPlu n table = some r) (hf : (f r).number = r.number) : RecordChanged table (putPlu (f r) table) n f := by
  have hn : (f r).number = n := hf.trans (findPlu_number h)
  exact ⟨by rw [h, findPlu_putPlu_same hn]; rfl, fun m hm => findPlu_putPlu_of_ne (hn ▸ hm) table⟩

theorem findPlu_dropPlu_same (n : Nat) (table : List PluRecord) : findPlu n (dropPlu n table) = none := by
  simp [findPlu_eq_none, dropPlu]

theorem findPlu_dropPlu_of_ne {m n : Nat} (h : m ≠ n) (table : List PluRecord) :
    findPlu m (dropPlu n table) = findPlu m table := by
  unfold findPlu dropPlu
  rw [List.find?_filter]
  congr 1
  funext r
  by_cases hr : r.number = m <;> simp [hr, h]

/-- The record of the lowest number above `n` is the one no other such record precedes (R72). -/
theorem nextPlu_of_lowest {n : Nat} {table : List PluRecord} {r : PluRecord} (ha : Ascending PluRecord.number table)
    (hr : r ∈ table) (hn : n < r.number) (hlow : ∀ y ∈ table, n < y.number → r.number ≤ y.number) :
    nextPlu n table = some r := by
  induction table with
  | nil => simp at hr
  | cons x xs ih =>
    obtain ⟨hx, hxs⟩ := List.pairwise_cons.1 ha
    rcases List.mem_cons.1 hr with rfl | hmem
    · simp [nextPlu, hn]
    · have hskip : ¬n < x.number := fun h => absurd (hlow x (by simp) h) (Nat.not_le.2 (hx r hmem))
      simpa [nextPlu, hskip] using ih hxs hmem fun y hy => hlow y (by simp [hy])

/-! ### Requests answered as they are taken -/

/-- A request whose block, on taking it, changes the state to `u` and replies is answered. -/
theorem answers_takeRequest {c : Instr} {p : Port} {t : Tag} {s u : State} {result : Result} {payload : Payload}
    {effect : Requester → State → State} (hw : Waiting s p t c) (he : exec c s = takeRequest p t c s effect)
    (hs : (u.linkOf p).slots = (s.linkOf p).slots) (hc : u.transit.cancellations = s.transit.cancellations)
    (hu : effect ⟨p, t, requestCode c⟩ (s.taken p t c) = (u.taken p t c).reply ⟨p, t, requestCode c⟩ result payload) :
    Answers c p t s result payload u :=
  answers_of hw.1 hw.2 hs hc (by rw [he, takeRequest_of_awaits hw.2, hu])

/-- A request whose block, on taking it, refuses it and does nothing else is refused. -/
theorem refuses_takeRequest {c : Instr} {p : Port} {t : Tag} {s : State} {e : Result}
    {effect : Requester → State → State} (hw : Waiting s p t c) (he : exec c s = takeRequest p t c s effect)
    (hu : effect ⟨p, t, requestCode c⟩ (s.taken p t c) = (s.taken p t c).refuse ⟨p, t, requestCode c⟩ e) :
    Refuses c p t s e := answers_takeRequest hw he rfl rfl hu

/-! ### The arms of `exec` for the maintenance requests -/

section Arms
variable (p : Port) (t : Tag) (n : Nat) (s : State)

theorem exec_pluRead : exec (.pluRead p t n) s = execPluRead p t n s := rfl
theorem exec_pluReadNext : exec (.pluReadNext p t n) s = execPluReadNext p t n s := rfl
theorem exec_pluWrite (f : PluFields) : exec (.pluWrite p t n f) s = execPluWrite p t n f s := rfl
theorem exec_pluDelete : exec (.pluDelete p t n) s = execPluDelete p t n s := rfl
theorem exec_pluWithdraw : exec (.pluWithdraw p t n) s = execPluWithdraw p t n s := rfl
theorem exec_pluRestore : exec (.pluRestore p t n) s = execPluRestore p t n s := rfl
theorem exec_stockLoad (q : Nat) (level : WatchLevel) :
    exec (.stockLoad p t n q level) s = execStockLoad p t n q level s := rfl
theorem exec_stockLoadNone : exec (.stockLoadNone p t n) s = execStockLoadNone p t n s := rfl

end Arms

/-! ### PLU READ (R72) -/

/-- Settles O27: the number's range, then the record found at it or above it. -/
theorem pluReads : Obligations.PluReads := by
  refine ⟨fun p t n => ⟨rfl, rfl⟩, fun s p t n hw ha => ⟨fun hn => ?_, fun h1 h2 hnone => ?_, fun h1 h2 r hr hrn => ?_⟩,
    fun s p t n hw ha => ⟨fun hn => ?_, fun hn hnone => ?_, fun hn r hr hlt hlow => ?_⟩⟩
  · have hout : pluInRange n = false := by simp [pluInRange]; omega
    exact refuses_takeRequest hw (exec_pluRead ..) (by simp [hout])
  · have hin : pluInRange n = true := by simp [pluInRange, h1, h2]
    have hfind : findPlu n s.plus = none := findPlu_eq_none.2 hnone
    exact refuses_takeRequest hw (exec_pluRead ..) (by simp [hin, hfind])
  · have hin : pluInRange n = true := by simp [pluInRange, h1, h2]
    have hfind : findPlu n s.plus = some r := hrn ▸ findPlu_of_mem ha hr
    exact answers_takeRequest hw (exec_pluRead ..) rfl rfl (by simp [hin, hfind, State.ok])
  · exact refuses_takeRequest hw (exec_pluReadNext ..) (by simp [Nat.not_le.2 hn])
  · have hfind : nextPlu n s.plus = none := by simpa [nextPlu] using hnone
    exact refuses_takeRequest hw (exec_pluReadNext ..) (by simp [hn, hfind])
  · have hfind := nextPlu_of_lowest ha hr hlt hlow
    exact answers_takeRequest hw (exec_pluReadNext ..) rfl rfl (by simp [hn, hfind, State.ok])

/-! ### PLU WRITE (R73, R74) -/

/-- Test 1 of R73 as the ranges of R70. -/
theorem pluFieldsInRange_iff (n : Nat) (f : PluFields) :
    pluFieldsInRange n f = true ↔
      1 ≤ n ∧ n ≤ 9999 ∧ (1 ≤ f.name.length ∧ f.name.length ≤ 24) ∧
      (∀ x, f.second = some x → 1 ≤ x.length ∧ x.length ≤ 24) ∧ f.unitPrice ≤ 999999 ∧
      (∀ pr, f.promotion = some pr →
        pr.price ≤ 999999 ∧ pr.first.real ∧ pr.last.real ∧ pr.first.key ≤ pr.last.key) ∧
      1 ≤ f.department ∧ f.department ≤ 16 ∧
      (∀ g, f.presetTare = some g → 1 ≤ g ∧ g ≤ 60000 ∧ f.kind = .byWeight) ∧
      (∀ d, f.shelfLife = some d → d ≤ 365) := by
  have hoptional {α : Type} (test : α → Bool) (x : Option α) :
      optional test x = true ↔ ∀ a, x = some a → test a = true := by cases x <;> simp [optional]
  simp only [pluFieldsInRange, pluInRange, nameInRange, promotionInRange, hoptional, Bool.and_eq_true,
    decide_eq_true_eq, and_assoc]

section Write
variable {s : State} {p : Port} {t : Tag} {n : Nat} {f : PluFields}

theorem pluWrite_refuses {e : Result} (hw : Waiting s p t (.pluWrite p t n f))
    (h : pluWriteTests n f s.plus = .error e) : Refuses (.pluWrite p t n f) p t s e :=
  refuses_takeRequest hw (exec_pluWrite ..) (by simp [h])

/-- A PLU WRITE that passes its tests puts its record in the table, and no other number's record changes (R74). -/
theorem pluWrite_leaves {r : PluRecord} {replaced : Bool} (hw : Waiting s p t (.pluWrite p t n f)) (hn : r.number = n)
    (h : pluWriteTests n f s.plus = .ok (r, replaced)) :
    ∃ table, Answers (.pluWrite p t n f) p t s .ok (.pluWritten replaced) { s with plus := table } ∧
      findPlu n table = some r ∧ ∀ m, m ≠ n → findPlu m table = findPlu m s.plus := by
  refine ⟨putPlu r s.plus, answers_takeRequest hw (exec_pluWrite ..) rfl rfl ?_, findPlu_putPlu_same hn s.plus,
    fun m hm => findPlu_putPlu_of_ne (hn ▸ hm) s.plus⟩
  simp only [State.taken_plus, h]; rfl

end Write

/-- Settles O28: the ranges, then the table's room for a new record, or the kind of the record to be replaced. -/
theorem pluWrite : Obligations.PluWrite := by
  intro s p t n f i hw text ranges leaves
  have hranges : pluFieldsInRange n f = true ↔ ranges := pluFieldsInRange_iff n f
  refine ⟨fun hout => ?_, fun hin => ?_⟩
  · have hfalse : pluFieldsInRange n f = false := by simpa using fun h => hout (hranges.1 h)
    exact pluWrite_refuses hw (by simp [pluWriteTests, hfalse])
  have htrue := hranges.2 hin
  cases hfind : findPlu n s.plus with
  | none =>
    dsimp only
    by_cases hroom : s.plus.length < 1000
    · rw [if_pos hroom]
      exact pluWrite_leaves hw rfl (by simp [pluWriteTests, htrue, hfind, Config.pluRecords, hroom])
    · rw [if_neg hroom]
      exact pluWrite_refuses hw (by simp [pluWriteTests, htrue, hfind, Config.pluRecords, hroom])
  | some r =>
    dsimp only
    split_ifs with hused
    · obtain ⟨hkind, hopen | hstock⟩ := hused
      · exact pluWrite_refuses hw (by simp [pluWriteTests, htrue, hfind, hkind, hopen])
      · have hnone : r.stock.isNone = false := by simpa [Option.isSome_iff_ne_none] using hstock
        by_cases hopen : r.openLines = 0
        · exact pluWrite_refuses hw (by simp [pluWriteTests, htrue, hfind, hkind, hopen, hnone])
        · exact pluWrite_refuses hw (by simp [pluWriteTests, htrue, hfind, hkind, hopen])
    · refine pluWrite_leaves (r := { r with fields := f }) hw (findPlu_number (r := r) hfind) ?_
      by_cases hkind : f.kind = r.fields.kind
      · simp [pluWriteTests, htrue, hfind, hkind]
      · obtain ⟨hopen, hstock⟩ : r.openLines = 0 ∧ r.stock = none := by simpa [hkind] using hused
        simp [pluWriteTests, htrue, hfind, hopen, hstock]

/-! ### PLU DELETE, PLU WITHDRAW, PLU RESTORE (R75, R76) -/

theorem namedPlu_out {n : Nat} (table : List PluRecord) (h : n < 1 ∨ 9999 < n) : namedPlu n table = .error .badValue := by
  have hout : pluInRange n = false := by simp [pluInRange]; omega
  simp [namedPlu, hout]

theorem namedPlu_in {n : Nat} (table : List PluRecord) (h : ¬(n < 1 ∨ 9999 < n)) :
    namedPlu n table = orRefuse (findPlu n table) .noSuch := by
  have hin : pluInRange n = true := by simp [pluInRange]; omega
  simp [namedPlu, hin]

/-- A request that names a PLU: its number's range, then its record, decide before `act` (R75, R76, R79). -/
theorem named_cases {c : Instr} {p : Port} {t : Tag} {s : State} {n : Nat} {act : PluRecord → Prop}
    {effect : Requester → State → State} (hw : Waiting s p t c) (he : exec c s = takeRequest p t c s effect)
    (herror : ∀ r v e, namedPlu n v.plus = .error e → effect r v = v.refuse r e)
    (hact : ∀ r, findPlu n s.plus = some r → namedPlu n s.plus = .ok r → act r) :
    if n < 1 ∨ 9999 < n then Refuses c p t s .badValue
    else match findPlu n s.plus with
      | none => Refuses c p t s .noSuch
      | some r => act r := by
  split_ifs with hout
  · exact refuses_takeRequest hw he (herror _ _ _ (namedPlu_out _ hout))
  · have hnamed := namedPlu_in s.plus hout
    cases hfind : findPlu n s.plus with
    | none => exact refuses_takeRequest hw he (herror _ _ _ (hnamed.trans (by rw [hfind]; rfl)))
    | some r => exact hact r hfind (hnamed.trans (by rw [hfind]; rfl))

/-- A request that puts back the record of its PLU, changed, and answers OK. -/
theorem answers_putPlu {c : Instr} {p : Port} {t : Tag} {s : State} {n : Nat} {r : PluRecord} {payload : Payload}
    {effect : Requester → State → State} (hw : Waiting s p t c) (he : exec c s = takeRequest p t c s effect)
    (hn : r.number = n)
    (hu : effect ⟨p, t, requestCode c⟩ (s.taken p t c) = ((s.taken p t c).setPlu r).ok ⟨p, t, requestCode c⟩ payload) :
    ∃ table, Answers c p t s .ok payload { s with plus := table } ∧ findPlu n table = some r ∧
      ∀ m, m ≠ n → findPlu m table = findPlu m s.plus :=
  ⟨putPlu r s.plus, answers_takeRequest hw he rfl rfl hu, findPlu_putPlu_same hn s.plus,
    fun _ hm => findPlu_putPlu_of_ne (hn ▸ hm) s.plus⟩

/-- Settles O29: each of the three names a record, and changes or drops it alone. -/
theorem pluStatus : Obligations.PluStatus := by
  intro s p t n named becomes
  refine ⟨fun hw => named_cases hw (exec_pluDelete ..) (fun r v e h => by simp [h]) fun r hfind hok => ?_,
    fun hw => named_cases hw (exec_pluWithdraw ..) (fun r v e h => by simp [h]) fun r hfind hok => ?_,
    fun hw => named_cases hw (exec_pluRestore ..) (fun r v e h => by simp [h]) fun r hfind hok => ?_⟩
  · split_ifs with hopen
    · refine ⟨dropPlu n s.plus, answers_takeRequest hw (exec_pluDelete ..) rfl rfl ?_, findPlu_dropPlu_same n s.plus,
        fun m hm => findPlu_dropPlu_of_ne hm s.plus⟩
      simp only [State.taken_plus, hok, hopen, if_true]; rfl
    · exact refuses_takeRequest hw (exec_pluDelete ..) (by simp only [State.taken_plus, hok, hopen, if_false])
  · exact answers_putPlu hw (exec_pluWithdraw ..) (findPlu_number (r := r) hfind) (by simp only [State.taken_plus, hok])
  · exact answers_putPlu hw (exec_pluRestore ..) (findPlu_number (r := r) hfind) (by simp only [State.taken_plus, hok])

/-! ### STOCK LOAD (R78, R79, R84) -/

theorem lowDue_fresh (loaded remaining held sold : Nat) (watch : Option Nat) :
    Stock.lowDue ⟨loaded, remaining, held, sold, watch, false⟩ = watch.any fun x => remaining ≤ x := by
  cases watch <;> simp [Stock.lowDue]

/-- The low test of a record just put: STOCK_LOW where it is due, and the flag with it (R84). -/
theorem lowTest_setPlu {s : State} {r : PluRecord} {a : Stock} (h : r.stock = some a) (hflag : a.lowNotified = false) :
    (s.setPlu r).lowTest r =
      let v := s.setPlu { r with stock := some { a with lowNotified := a.lowDue } }
      if a.lowDue then v.notify .office (.stockLow r.number a.remaining a.held (a.watch.getD 0)) else v := by
  have hput (x : PluRecord) (hx : x.number = r.number) : (s.setPlu r).setPlu x = s.setPlu x := by
    simp only [State.setPlu, putPlu_eq_put, put_put hx]
  unfold State.lowTest
  simp only [h]
  cases hdue : a.lowDue with
  | true => simp [hput]
  | false =>
    have : { r with stock := some { a with lowNotified := false } } = r := by rw [← hflag, ← h]
    simp [this]

/-- The account that STOCK LOAD sets on a record (R78). -/
def loadedStock (r : PluRecord) (q : Nat) (level : WatchLevel) : Stock :=
  let held := (r.stock.map (·.held)).getD 0
  ⟨q + held, q, held, 0, levelAfter level (r.stock.bind (·.watch)), false⟩

/-- The tests of STOCK LOAD in order, and the account they leave (R78). -/
theorem stockLoadTests_eq (n q : Nat) {level : WatchLevel} {given : Option Nat} (table : List PluRecord)
    (hgiven : watchLevelInRange level = !given.any fun x => 99999999 < x) :
    stockLoadTests n q level table =
      if n < 1 ∨ 9999 < n ∨ 99999999 < q ∨ given.any (fun x => 99999999 < x) then .error .badValue
      else match findPlu n table with
        | none => .error .noSuch
        | some r => if r.stock = none ∧ r.openLines ≠ 0 then .error .inUse else .ok (r, loadedStock r q level) := by
  unfold stockLoadTests
  split_ifs with hout
  · have : (pluInRange n && decide (q ≤ 99999999) && watchLevelInRange level) = false := by
      rcases hout with h | h | h | h
      · simp [pluInRange, Nat.not_le.2 h]
      · simp [pluInRange, Nat.not_le.2 h]
      · simp [Nat.not_le.2 h]
      · simp [hgiven, h]
    rw [this]; rfl
  · simp only [not_or, Nat.not_lt, Bool.not_eq_true] at hout
    obtain ⟨h1, h2, hq, hl⟩ := hout
    simp only [pluInRange, h1, h2, hq, hgiven, hl, decide_true, Bool.and_self, Bool.not_false, require_true, ok_bind]
    cases hfind : findPlu n table with
    | none => rfl
    | some r =>
      cases hstock : r.stock with
      | none => by_cases hopen : r.openLines = 0 <;> simp [orRefuse, hstock, hopen, loadedStock]
      | some a => simp [orRefuse, hstock, loadedStock]

/-- A STOCK LOAD that passes its tests sets the account and makes the low test (R78, R84). -/
theorem stockLoad_answers {s : State} {p : Port} {t : Tag} {n q : Nat} {level : WatchLevel} {r : PluRecord} {a : Stock}
    (hw : Waiting s p t (.stockLoad p t n q level)) (h : stockLoadTests n q level s.plus = .ok (r, a))
    (hflag : a.lowNotified = false) :
    let set := { a with lowNotified := a.lowDue }
    let u := s.setPlu { r with stock := some set }
    Answers (.stockLoad p t n q level) p t s .ok (.stock set)
      (if a.lowDue then u.notify .office (.stockLow r.number a.remaining a.held (a.watch.getD 0)) else u) := by
  intro set u
  refine answers_takeRequest hw (exec_stockLoad ..) ?_ ?_ ?_
  · split
    · exact State.notify_slots u p .office _
    · rfl
  · split <;> rfl
  · simp only [State.taken_plus, h]
    rw [lowTest_setPlu rfl hflag]
    dsimp only
    split
    · exact congrArg (fun v : State => v.ok _ _) (State.notify_taken u p .office t _ _)
    · rfl

/-- Settles O30: STOCK LOAD by the account its tests leave, STOCK LOAD NONE as a request that names a record. -/
theorem stockLoads : Obligations.StockLoads := by
  refine ⟨?_, ?_⟩
  · intro s p t n q level i hw given
    have hgiven : watchLevelInRange level = !given.any fun x => 99999999 < x := by
      cases level with
      | given x => rw [Bool.eq_iff_iff]; simp [given, watchLevelInRange]
      | absent | keep => rfl
    have htests := stockLoadTests_eq n q s.plus hgiven
    have herror {e : Result} (h : stockLoadTests n q level s.plus = .error e) : Refuses i p t s e :=
      refuses_takeRequest hw (exec_stockLoad ..) (by simp only [State.taken_plus, h])
    by_cases hout : n < 1 ∨ 9999 < n ∨ 99999999 < q ∨ given.any fun x => 99999999 < x
    · rw [if_pos hout] at htests ⊢
      exact herror htests
    rw [if_neg hout] at htests ⊢
    cases hfind : findPlu n s.plus with
    | none => exact herror (htests.trans (by rw [hfind]))
    | some r =>
      rw [hfind] at htests
      dsimp only at htests ⊢
      by_cases hused : r.stock = none ∧ r.openLines ≠ 0
      · rw [if_pos hused] at htests ⊢
        exact herror htests
      rw [if_neg hused] at htests ⊢
      have hanswer := stockLoad_answers hw htests rfl
      have hn (x : Option Stock) : { r with stock := x }.number = n := findPlu_number (r := r) hfind
      simp only [loadedStock, lowDue_fresh] at hanswer
      cases level <;>
        exact ⟨_, findPlu_putPlu_same (hn _) s.plus, fun m hm => findPlu_putPlu_of_ne (hn _ ▸ hm) s.plus, hanswer⟩
  · intro s p t n i hw
    refine named_cases hw (exec_stockLoadNone ..) (fun r v e h => by simp [h]) fun r hfind hok => ?_
    cases hstock : r.stock with
    | none => exact answers_takeRequest hw (exec_stockLoadNone ..) rfl rfl (by simp only [State.taken_plus, hok, hstock]; rfl)
    | some a =>
      dsimp only
      split_ifs with hheld
      · exact refuses_takeRequest hw (exec_stockLoadNone ..) (by simp only [State.taken_plus, hok, hstock, if_neg hheld])
      · exact answers_putPlu hw (exec_stockLoadNone ..) (findPlu_number (r := r) hfind)
          (by simp only [State.taken_plus, hok, hstock, not_not.1 hheld, if_true])

end Sys2Proof.Machine.PluTable

end

section
/-! PROOF. The books: the part of the state that the laws of the transaction table and of the PLU table speak of. Two
states with the same books obey the same laws (O8). -/

namespace Sys2Proof.Machine.Books

open PlatterOps PluTable Ordered

/-! ### The books -/

/-- A line without its label reference. -/
def bareLine (l : Line) : Line := { l with label := none }

/-- A transaction without its lines' label references. -/
def bareTxn (x : Txn) : Txn := { x with lines := x.lines.map bareLine }

/-- A transaction table without what no law speaks of: label references, a clerk's name, flag and last station, the lines
of the closed list, the next request number and the outlet settings. -/
def bareTable (x : TxnTable) : TxnTable where
  clerks := x.clerks.map fun k => { Clerk.cold with openTxn := k.openTxn }
  held := x.held.map bareTxn
  parked := x.parked
  closed := x.closed.map fun e => { e with lines := [] }
  nextNumber := x.nextNumber
  inFlight := x.inFlight
  nextRequest := 1
  routing := .const ⟨none, none, false⟩

/-- The PLU table, and the transaction table without what no law speaks of. -/
def books (s : State) : List PluRecord × TxnTable := (s.plus, bareTable s.txn)

/-! ### The laws, by transaction number -/

/-- The quantities that the unvoided lines of a transaction hold, each with its PLU number (R77). -/
def txnUses (x : Txn) : List (Nat × Nat) := (unvoided x.lines).map fun l => (l.plu, l.quantity)

/-- The quantities that the lines in hand hold, each with its PLU number (R77). -/
def uses (s : State) : List (Nat × Nat) := s.txn.held.flatMap txnUses

/-- The quantities held of one PLU. -/
def quantitiesOf (n : Nat) (us : List (Nat × Nat)) : List Nat := (us.filter fun u => u.1 = n).map (·.2)

/-- A record counts some open lines of given quantities: their number, and in an account their sum (R71, R77). -/
def Tallies (r : PluRecord) (qs : List Nat) : Prop :=
  r.openLines = qs.length ∧ ∀ a, r.stock = some a → a.remaining + a.held + a.sold = a.loaded ∧ a.held = qs.sum

/-- A PLU table in order that counts some quantities, each of a PLU that it has (R71, R77). -/
structure Stocked (table : List PluRecord) (us : List (Nat × Nat)) : Prop where
  order : Ascending PluRecord.number table
  room : table.length ≤ Config.pluRecords
  tallies : ∀ r ∈ table, Tallies r (quantitiesOf r.number us)
  present : ∀ u ∈ us, ∃ r ∈ table, r.number = u.1

theorem openLinesOf_quantities (s : State) (n : Nat) :
    (s.openLinesOf n).map (·.quantity) = quantitiesOf n (uses s) := by
  simp only [State.openLinesOf, quantitiesOf, uses, txnUses, List.filter_flatMap, List.map_flatMap, List.filter_map,
    List.map_map]
  rfl

theorem stockLaw_iff {s : State} : s.StockLaw ↔ Stocked s.plus (uses s) := by
  have hpresent : (∀ n, s.openLinesOf n ≠ [] → ∃ r ∈ s.plus, r.number = n) ↔
      ∀ u ∈ uses s, ∃ r ∈ s.plus, r.number = u.1 := by
    have hn (n : Nat) : s.openLinesOf n ≠ [] ↔ ∃ u ∈ uses s, u.1 = n := by
      rw [ne_eq, ← List.map_eq_nil_iff (f := (·.quantity)), openLinesOf_quantities]
      simp [quantitiesOf]
    simp only [hn, forall_exists_index, and_imp]
    exact ⟨fun h u hu => h u.1 u hu rfl, fun h n u hu hun => hun ▸ h u hu⟩
  have hlength (n : Nat) : (s.openLinesOf n).length = (quantitiesOf n (uses s)).length := by
    rw [← openLinesOf_quantities, List.length_map]
  constructor
  · intro h
    refine ⟨h.order, h.room, fun r hr => ⟨(h.counts r hr).trans (hlength _), fun a ha => ?_⟩, hpresent.1 h.present⟩
    exact openLinesOf_quantities s _ ▸ h.accounts r hr a ha
  · intro h
    refine ⟨h.order, h.room, fun r hr => ?_, hpresent.2 h.present, fun r hr a ha => ?_⟩
    · exact (h.tallies r hr).1.trans (hlength _).symm
    · rw [openLinesOf_quantities]; exact (h.tallies r hr).2 a ha

/-- The law of the transaction table, its transactions found by number. -/
structure TableRules (s : State) : Prop where
  ascending : Ascending Txn.number s.txn.held
  lawful : ∀ n x, s.findTxn n = some x → x.Lawful
  next : 1 ≤ s.txn.nextNumber ∧ s.txn.nextNumber ≤ 9999
  parkedOnce : s.txn.parked.Nodup
  parkedRoom : s.txn.parked.length ≤ Config.parkedPlaces
  parked : ∀ n, n ∈ s.txn.parked ↔ ∃ x, s.findTxn n = some x ∧ x.parkedAt.isSome
  openTxns : ∀ c n, (s.clerk c).openTxn = some n ↔ ∃ x, s.findTxn n = some x ∧ x.clerk = c ∧ x.parkedAt = none
  closedRoom : s.txn.closed.length ≤ Config.closedPlaces
  closedOnce : s.txn.closed.Pairwise fun x y => x.number ≠ y.number
  apart : ∀ n x, s.findTxn n = some x → ∀ e ∈ s.txn.closed, n ≠ e.number
  flights : s.txn.inFlight.Pairwise fun x y => x.platter ≠ y.platter

theorem findTxn_number {s : State} {n : Nat} {x : Txn} (h : s.findTxn n = some x) : x.number = n := by
  simpa using List.find?_some h

theorem findTxn_mem {s : State} {n : Nat} {x : Txn} (h : s.findTxn n = some x) : x ∈ s.txn.held :=
  List.mem_of_find?_eq_some h

theorem findTxn_of_mem {s : State} (ha : Ascending Txn.number s.txn.held) {x : Txn} (h : x ∈ s.txn.held) :
    s.findTxn x.number = some x := find?_of_mem ha h

theorem mem_held_iff {s : State} (ha : Ascending Txn.number s.txn.held) {n : Nat} {P : Txn → Prop} :
    (∃ x ∈ s.txn.held, x.number = n ∧ P x) ↔ ∃ x, s.findTxn n = some x ∧ P x :=
  ⟨fun ⟨x, hx, hn, hp⟩ => ⟨x, hn ▸ findTxn_of_mem ha hx, hp⟩,
    fun ⟨x, hx, hp⟩ => ⟨x, findTxn_mem hx, findTxn_number hx, hp⟩⟩

/-- One entry of each platter makes four at most (R109). -/
theorem flights_room {fs : List InFlight} (h : fs.Pairwise fun x y => x.platter ≠ y.platter) : fs.length ≤ 4 := by
  have hsub : (fs.map (·.platter)).Subperm Platter.all :=
    List.subperm_of_subset (List.pairwise_map.2 h) fun w _ => by cases w <;> decide
  simpa [Platter.all] using hsub.length_le

theorem tableLaw_iff {s : State} : s.TableLaw ↔ TableRules s := by
  constructor
  · intro h
    have ha : Ascending Txn.number s.txn.held := h.sales.2
    exact ⟨ha, fun n x hx => h.sales.1 x (findTxn_mem hx), h.next, h.parkedOnce, h.parkedRoom,
      fun n => (h.parked n).trans (mem_held_iff ha), fun c n => (h.openTxns c n).trans (mem_held_iff ha), h.closedRoom,
      h.closedOnce, fun n x hx e he => findTxn_number hx ▸ h.apart x (findTxn_mem hx) e he, h.flights⟩
  · intro h
    have ha := h.ascending
    exact ⟨⟨fun x hx => h.lawful _ x (findTxn_of_mem ha hx), ha⟩, h.next, h.parkedOnce, h.parkedRoom,
      fun n => (h.parked n).trans (mem_held_iff ha).symm, fun c n => (h.openTxns c n).trans (mem_held_iff ha).symm,
      h.closedRoom, h.closedOnce, fun x hx e he => h.apart _ x (findTxn_of_mem ha hx) e he, h.flights,
      flights_room h.flights⟩

/-! ### The laws see the books alone -/

theorem unvoided_map_bareLine (ls : List Line) : unvoided (ls.map bareLine) = (unvoided ls).map bareLine := by
  simp only [unvoided, List.filter_map]; rfl

@[simp] theorem txnUses_bareTxn (x : Txn) : txnUses (bareTxn x) = txnUses x := by
  simp only [txnUses, bareTxn, unvoided_map_bareLine, List.map_map]; rfl

theorem lawful_bareTxn {x : Txn} : (bareTxn x).Lawful ↔ x.Lawful := by
  have hsum : amountSum (unvoided (bareTxn x).lines) = amountSum (unvoided x.lines) := by
    simp only [amountSum, bareTxn, unvoided_map_bareLine, List.map_map]; rfl
  have hcount : (unvoided (bareTxn x).lines).length = (unvoided x.lines).length := by
    simp [bareTxn, unvoided_map_bareLine]
  have hindex : (bareTxn x).lines.map (·.index) = x.lines.map (·.index) := by
    simp only [bareTxn, List.map_map]; rfl
  have hlength : (bareTxn x).lines.length = x.lines.length := by simp [bareTxn]
  have hamounts : (∀ l ∈ (bareTxn x).lines, l.amount ≤ Config.lineAmountMax) ↔
      ∀ l ∈ x.lines, l.amount ≤ Config.lineAmountMax := by simp [bareTxn, bareLine]
  constructor
  · rintro ⟨h1, h2, h3, h4, h5, h6⟩
    exact ⟨h1.trans hsum, h2, hamounts.1 h3, h4.trans hcount, hindex ▸ hlength ▸ h5, hlength ▸ h6⟩
  · rintro ⟨h1, h2, h3, h4, h5, h6⟩
    exact ⟨h1.trans hsum.symm, h2, hamounts.2 h3, h4.trans hcount.symm, hlength.symm ▸ hindex.symm ▸ h5,
      hlength.symm ▸ h6⟩

theorem bareTxn_findTxn (s : State) (n : Nat) :
    (bareTable s.txn).held.find? (fun x => x.number = n) = (s.findTxn n).map bareTxn := by
  simp only [bareTable, List.find?_map]; rfl

theorem bareTable_clerk (s : State) (c : ClerkNo) : (bareTable s.txn).clerks[c].openTxn = (s.clerk c).openTxn := by
  simp [bareTable, State.clerk]

section SameBooks
variable {s t : State} (h : books t = books s)
include h

theorem findTxn_of_books (n : Nat) : (t.findTxn n).map bareTxn = (s.findTxn n).map bareTxn := by
  rw [← bareTxn_findTxn, ← bareTxn_findTxn, (Prod.mk.inj h).2]

/-- A transaction found in one of two states with the same books is found in the other, but for its labels. -/
theorem exists_findTxn_of_books {n : Nat} {x : Txn} (hx : s.findTxn n = some x) :
    ∃ y, t.findTxn n = some y ∧ bareTxn y = bareTxn x := by
  have := findTxn_of_books h n
  rw [hx] at this
  simpa using this

theorem openTxn_of_books (c : ClerkNo) : (t.clerk c).openTxn = (s.clerk c).openTxn := by
  rw [← bareTable_clerk, ← bareTable_clerk, (Prod.mk.inj h).2]

theorem uses_of_books : uses t = uses s := by
  have hbare (u : State) : uses u = (bareTable u.txn).held.flatMap txnUses := by
    simp [uses, bareTable, List.flatMap_map]
  rw [hbare, hbare, (Prod.mk.inj h).2]

theorem tableRules_of_books (hs : TableRules s) : TableRules t := by
  have ht : bareTable t.txn = bareTable s.txn := (Prod.mk.inj h).2
  have hheld : t.txn.held.map (·.number) = s.txn.held.map (·.number) := by
    simpa [bareTable, Function.comp_def, bareTxn] using congrArg (fun x => x.held.map (·.number)) ht
  have hparked : t.txn.parked = s.txn.parked := by simpa [bareTable] using congrArg TxnTable.parked ht
  have hnext : t.txn.nextNumber = s.txn.nextNumber := by simpa [bareTable] using congrArg TxnTable.nextNumber ht
  have hclosed : t.txn.closed.map (·.number) = s.txn.closed.map (·.number) := by
    simpa [bareTable, Function.comp_def] using congrArg (fun x => x.closed.map (·.number)) ht
  have hflights : t.txn.inFlight = s.txn.inFlight := by simpa [bareTable] using congrArg TxnTable.inFlight ht
  have hfind {n : Nat} {y : Txn} (hy : t.findTxn n = some y) : ∃ x, s.findTxn n = some x ∧ bareTxn x = bareTxn y :=
    exists_findTxn_of_books h.symm hy
  have hiff {n : Nat} {P : Txn → Prop} (hP : ∀ x y, bareTxn x = bareTxn y → P x → P y) :
      (∃ x, s.findTxn n = some x ∧ P x) ↔ ∃ y, t.findTxn n = some y ∧ P y := by
    constructor
    · rintro ⟨x, hx, hp⟩
      obtain ⟨y, hy, hxy⟩ := exists_findTxn_of_books h hx
      exact ⟨y, hy, hP x y hxy.symm hp⟩
    · rintro ⟨y, hy, hp⟩
      obtain ⟨x, hx, hxy⟩ := hfind hy
      exact ⟨x, hx, hP y x hxy.symm hp⟩
  have hparkedAt {x y : Txn} (hxy : bareTxn x = bareTxn y) : x.parkedAt = y.parkedAt := by
    simpa [bareTxn] using congrArg Txn.parkedAt hxy
  have hclerk {x y : Txn} (hxy : bareTxn x = bareTxn y) : x.clerk = y.clerk := by
    simpa [bareTxn] using congrArg Txn.clerk hxy
  refine ⟨?_, fun n y hy => ?_, hnext ▸ hs.next, hparked ▸ hs.parkedOnce, hparked ▸ hs.parkedRoom, fun n => ?_,
    fun c n => ?_, ?_, ?_, fun n y hy e he => ?_, hflights ▸ hs.flights⟩
  · exact List.pairwise_map.1 (hheld ▸ List.pairwise_map.2 hs.ascending)
  · obtain ⟨x, hx, hxy⟩ := hfind hy
    exact lawful_bareTxn.1 (hxy ▸ lawful_bareTxn.2 (hs.lawful n x hx))
  · rw [hparked, hs.parked n]
    exact hiff fun x y hxy hp => hparkedAt hxy ▸ hp
  · rw [openTxn_of_books h, hs.openTxns c n]
    exact hiff fun x y hxy hp => hparkedAt hxy ▸ hclerk hxy ▸ hp
  · rw [← List.length_map (f := (·.number)), hclosed, List.length_map]
    exact hs.closedRoom
  · exact List.pairwise_map.1 (hclosed ▸ List.pairwise_map.2 hs.closedOnce)
  · obtain ⟨x, hx, -⟩ := hfind hy
    have hmem : e.number ∈ s.txn.closed.map (·.number) := hclosed ▸ List.mem_map_of_mem he
    obtain ⟨d, hd, hde⟩ := List.mem_map.1 hmem
    exact hde ▸ hs.apart n x hx d hd

end SameBooks

/-- The second state keeps the laws of the transaction table and of the PLU table with its stock, where the first obeys
them. -/
def Sound (s t : State) : Prop := s.TableLaw → t.TableLaw ∧ (s.StockLaw → t.StockLaw)

theorem Sound.refl (s : State) : Sound s s := fun h => ⟨h, id⟩

theorem Sound.trans {s u t : State} (h : Sound s u) (h' : Sound u t) : Sound s t := fun hs =>
  have hu := h hs
  have ht := h' hu.1
  ⟨ht.1, fun hk => ht.2 (hu.2 hk)⟩

theorem sound_of_books {s t : State} (h : books t = books s) : Sound s t := fun hs =>
  ⟨tableLaw_iff.2 (tableRules_of_books h (tableLaw_iff.1 hs)), fun hk =>
    stockLaw_iff.2 ((Prod.mk.inj h).1 ▸ uses_of_books h ▸ stockLaw_iff.1 hk)⟩

end Sys2Proof.Machine.Books

end

section
/-! PROOF. Which operations leave the books as they were: those of the links, the weighing channels, the ticket queue, the
outlets and the totals unit, but for the label references that the outlets have the transaction table forget (O8). -/

namespace Sys2Proof.Machine.Books

open PlatterOps

/-! ### One part of the state replaced -/

@[simp] theorem books_mk (pending : List Instr) (link : LinkController) (weigh : PerPlatter Channel) (sealHigh : Bool)
    (plus : List PluRecord) (pricing : PricingSettings) (txn : TxnTable) (queue : TicketQueue)
    (outlets : PerOutlet Outlet) (totals : Totals) (clock : Clock) (transit : Transit) (readings : Nat) :
    books ⟨pending, link, weigh, sealHigh, plus, pricing, txn, queue, outlets, totals, clock, transit, readings⟩ =
      (plus, bareTable txn) := rfl

@[simp] theorem books_eta (s : State) : (s.plus, bareTable s.txn) = books s := rfl

section OnePart
variable (s : State)

@[simp] theorem setLink_books (p : Port) (l : Link) : books (s.setLink p l) = books s := rfl
@[simp] theorem mapLink_books (p : Port) (f : Link → Link) : books (s.mapLink p f) = books s := rfl
@[simp] theorem notify_books (p : Port) (n : Notice) : books (s.notify p n) = books s := rfl
@[simp] theorem taken_books (p : Port) (t : Tag) (c : Instr) : books (s.taken p t c) = books s := rfl
@[simp] theorem takenDropped_books (p : Port) (t : Tag) (c : Instr) : books (s.takenDropped p t c) = books s := rfl
@[simp] theorem transmitAll_books : books s.transmitAll = books s := rfl
@[simp] theorem setChannel_books (w : Platter) (c : Channel) : books (s.setChannel w c) = books s := rfl
@[simp] theorem mapQueue_books (f : TicketQueue → TicketQueue) : books (s.mapQueue f) = books s := rfl
@[simp] theorem setClass_books (k : TicketClass) (x : ClassRecord) : books (s.setClass k x) = books s := rfl
@[simp] theorem setCalled_books (x : CalledTicket) : books (s.setCalled x) = books s := rfl
@[simp] theorem dropCalled_books (k : TicketId) : books (s.dropCalled k) = books s := rfl
@[simp] theorem setLine_books (d : DispenserLine) (x : DispenserState) : books (s.setLine d x) = books s := rfl
@[simp] theorem setOutlet_books (o : OutletId) (x : Outlet) : books (s.setOutlet o x) = books s := rfl
@[simp] theorem mapTotals_books (f : Totals → Totals) : books (s.mapTotals f) = books s := rfl
@[simp] theorem withPending_books (cs : List Instr) : books (s.withPending cs) = books s := rfl
@[simp] theorem enlist_books (t : Ticket) : books (s.enlist t) = books s := rfl
@[simp] theorem delist_books (k : TicketId) : books (s.delist k) = books s := rfl

/-- The books hold no label reference. -/
@[simp] theorem clearLabel_books (o : OutletId) (job : Nat) : books (s.clearLabel o job) = books s := by
  have hline (l : Line) : bareLine (l.clearLabel o job) = bareLine l := by
    unfold Line.clearLabel; split <;> rfl
  have hlines (ls : List Line) : (ls.map (Line.clearLabel o job)).map bareLine = ls.map bareLine := by
    simp [hline]
  simp [books, bareTable, State.clearLabel, Function.comp_def, bareTxn, hline]

/-- Nor a clerk's name, flag and last station. -/
theorem setClerk_books {c : ClerkNo} {k : Clerk} (h : k.openTxn = (s.clerk c).openTxn) :
    books (s.setClerk c k) = books s := by
  have : (s.txn.clerks.set c k).map (fun k => ({ Clerk.cold with openTxn := k.openTxn } : Clerk)) =
      s.txn.clerks.map fun k => { Clerk.cold with openTxn := k.openTxn } := by
    ext i hi
    by_cases hic : i = c.val
    · subst hic; simp [h, State.clerk]
    · simp [Vector.getElem_set_ne _ _ (Ne.symm hic)]
  simp only [books, State.setClerk, bareTable, this]

@[simp] theorem noteStation_books (c : ClerkNo) (p : Port) : books (s.noteStation c p) = books s :=
  setClerk_books s rfl

end OnePart

/-! ### Replies, notices, outlets -/

section Replies
variable (s : State)

@[simp] theorem notifyAll_books (ps : List Port) (n : Notice) : books (s.notifyAll ps n) = books s :=
  foldl_keeps (g := books) (fun s p => notify_books s p n) ps s

@[simp] theorem reply_books (r : Requester) (e : Result) (payload : Payload) : books (s.reply r e payload) = books s := by
  rcases s.reply_cases r e payload with h | h <;> rw [h]; rfl

@[simp] theorem ok_books (r : Requester) (payload : Payload) : books (s.ok r payload) = books s := reply_books s r .ok payload

@[simp] theorem refuse_books (r : Requester) (e : Result) : books (s.refuse r e) = books s := reply_books s r e .empty

@[simp] theorem replyTo_books (r : Option Requester) (e : Result) (payload : Payload) :
    books (s.replyTo r e payload) = books s := by
  cases r with
  | none => rfl
  | some r => exact reply_books s r e payload

end Replies

section Outlets
variable (s : State) (o : OutletId)

@[simp] theorem tellOutletState_books (before : OutletState) : books (s.tellOutletState o before) = books s := by
  simp [State.tellOutletState]

@[simp] theorem jobLeft_books (j : QueuedJob) (wasHead : Bool) : books (s.jobLeft o j wasHead) = books s := by
  unfold State.jobLeft
  dsimp only
  split_ifs <;> split <;> simp

@[simp] theorem dropHead_books (j : QueuedJob) : books (s.dropHead o j) = books s := by simp [State.dropHead]

@[simp] theorem answerCancels_books (rs : List Requester) : books (s.answerCancels rs) = books s :=
  foldl_keeps (g := books) (fun s r => refuse_books s r .cancelled) rs s

@[simp] theorem completeCancel_books (j : QueuedJob) : books (s.completeCancel o j) = books s := by
  simp [State.completeCancel]

@[simp] theorem returnOrCancel_books : books (s.returnOrCancel o) = books s := by
  unfold State.returnOrCancel
  split
  · rfl
  · split <;> simp

@[simp] theorem cancelQueued_books (id : Nat) (r : Option Requester) : books (s.cancelQueued o id r) = books s := by
  unfold State.cancelQueued
  dsimp only
  split
  · rfl
  · split_ifs
    · simp
    · simp
    · simp
    · split <;> simp

@[simp] theorem cancelOrder_books (id : Nat) : books (s.cancelOrder o id) = books s := by
  unfold State.cancelOrder; split <;> simp

@[simp] theorem tellJobDone_books (j : QueuedJob) : books (s.tellJobDone o j) = books s := by
  unfold State.tellJobDone; split <;> simp

variable {s} {o}

theorem offer_books {t : State} {job : Job} {id : Nat} (h : s.offer o job = some (t, id)) : books t = books s := by
  unfold State.offer at h
  split at h
  · cases h
  · cases h; simp

theorem offerInOrder_books {t : State} {job : Job} {id : Nat} {os : List OutletId}
    (h : s.offerInOrder job os = some (t, o, id)) : books t = books s := by
  induction os with
  | nil => cases h
  | cons x os ih =>
    unfold State.offerInOrder at h
    split at h
    · next hx => cases h; exact offer_books hx
    · exact ih h

end Outlets

/-! ### The totals unit and the ticket queue -/

section Watches
variable (s : State)

@[simp] theorem fireWatch_books (i : Fin 4) (value : Nat) (txn : Option Nat) (armed : Bool) :
    books (s.fireWatch i value txn armed) = books s := rfl

@[simp] theorem clerkWatches_books (c : ClerkNo) : books (s.clerkWatches c) = books s := by
  refine foldl_keeps (g := books) (fun s i => ?_) _ s
  unfold State.clerkWatch
  dsimp only
  split
  · split <;> rfl
  all_goals rfl

@[simp] theorem queueWatches_books (k : TicketClass) (n : Nat) : books (s.queueWatches k n) = books s := by
  refine foldl_keeps (g := books) (fun s i => ?_) _ s
  unfold State.queueWatch
  dsimp only
  split
  · split_ifs <;> rfl
  all_goals rfl

end Watches

section Tickets
variable (s : State)

@[simp] theorem reportTicket_books (k : Option TicketId) (m : TicketReport) : books (s.reportTicket k m) = books s := by
  cases k <;> rfl

@[simp] theorem cancelLabel_books (l : Line) : books (s.cancelLabel l) = books s := by
  unfold State.cancelLabel; split <;> simp

@[simp] theorem queueChange_books (k : TicketClass) (cause : QueueCause) : books (s.queueChange k cause) = books s := by
  simp [State.queueChange]

@[simp] theorem issue_books (k : TicketClass) (n : Nat) : books (s.issue k n) = books s := by simp [State.issue]

@[simp] theorem dispenserIssue_books (k : TicketClass) : books (s.dispenserIssue k) = books s := by
  unfold State.dispenserIssue
  split
  · simp
  · split
    · simp
    · next h => simp [offerInOrder_books h]

@[simp] theorem showCall_books (k : TicketId) (p : Port) : books (s.showCall k p) = books s := by
  have hoffer (job : Job) (os : List OutletId) (v : State) : books (v.offerEach job os) = books v := by
    refine foldl_keeps (g := books) (fun s o => ?_) os v
    cases h : s.offer o job with
    | none => rfl
    | some x => exact offer_books h
  simp [State.showCall, hoffer]

@[simp] theorem confirmCall_books (t : Ticket) (txn : Nat) (p : Port) : books (s.confirmCall t txn p) = books s := by
  simp [State.confirmCall]

@[simp] theorem skipTicket_books (x : CalledTicket) : books (s.skipTicket x) = books s := by
  unfold State.skipTicket State.missTicket
  dsimp only
  split
  · simp
  · split <;> simp

@[simp] theorem endTicket_books (k : TicketId) (o : TicketOutcome) : books (s.endTicket k o) = books s := by
  unfold State.endTicket; split <;> simp

@[simp] theorem hearBound_books (k : TicketId) (m : BoundReport) : books (s.hearBound k m) = books s := by
  unfold State.hearBound; split <;> simp

@[simp] theorem settleTickets_books : books s.settleTickets = books s := by
  refine foldl_keeps (g := books) (fun s m => ?_) s.transit.ticketReports s
  unfold State.hearReport
  split <;> simp

@[simp] theorem abandonTickets_books (ts : List Ticket) : books (s.abandonTickets ts) = books s :=
  foldl_keeps (g := books) (fun s _ => mapTotals_books s _) ts s

@[simp] theorem endDay_books : books s.endDay = books s := by
  have hclass (v : State) (k : TicketClass) : books (v.abandonClass k) = books v := by
    unfold State.abandonClass
    dsimp only
    split <;> simp
  have hall := foldl_keeps (g := books) hclass TicketClass.all s
  simp [State.endDay, hall]

@[simp] theorem settleUnits_books : books s.settleUnits = books s := by
  have hcalls (calls : List Call) (v : State) :=
    foldl_keeps (g := books) (f := fun s (x : Call) => s.enlist x.ticket) (fun _ _ => rfl) calls v
  simp [State.settleUnits, hcalls]

@[simp] theorem afterDiscard_books (m : DiscardOrder) : books (s.afterDiscard m) = books s := by
  unfold State.afterDiscard
  split
  · simp
  · dsimp only
    split <;> simp

variable {s}

theorem takeReport_books {t : State} {k : TicketId} {m : TicketReport} (h : s.takeReport k = some (m, t)) :
    books t = books s := by
  unfold State.takeReport at h
  split at h
  · cases h
  · cases h; rfl

end Tickets

/-! ### Links and weighing channels -/

section Links
variable (s : State)

@[simp] theorem admitAll_books (p : Port) : books (s.admitAll p) = books s := by
  have hfuel (fuel : Nat) (v : State) : books (v.admitFrames p fuel) = books v := by
    induction fuel generalizing v with
    | zero => rfl
    | succ fuel ih =>
      unfold State.admitFrames
      dsimp only
      split
      · rfl
      · split
        · rfl
        · split
          · exact ih _
          · rfl
  exact hfuel _ s

@[simp] theorem receiveAll_books (p : Port) (events : List HuntEvent) : books (s.receiveAll p events) = books s :=
  foldl_keeps (g := books) (fun s e => by simp) events s

@[simp] theorem replySent_books (p : Port) (r : ReadyReply) : books (s.replySent p r) = books s := rfl

@[simp] theorem cancelAtTickets_books (r : Requester) : books (s.cancelAtTickets r) = books s := by
  unfold State.cancelAtTickets; split <;> rfl

@[simp] theorem cancelAtOutlet_books (o : OutletId) (r : Requester) : books (s.cancelAtOutlet o r) = books s := rfl

end Links

section Weighing
variable (s : State) (w : Platter)

@[simp] theorem alert_books (a : AlertReason) : books (s.alert w a) = books s := by simp [State.alert]

@[simp] theorem sendReport_books : books (s.sendReport w) = books s := by
  unfold State.sendReport
  dsimp only
  split <;> rfl

@[simp] theorem reportCheck_books : books (s.reportCheck w) = books s := by
  rcases s.reportCheck_cases w with ⟨_, _, _, h⟩ | ⟨_, _, _, _, h⟩ <;> rw [h] <;> rfl

@[simp] theorem grantHold_books (p : Port) : books (s.grantHold w p) = books s := by simp [State.grantHold]

@[simp] theorem endHold_books : books (s.endHold w) = books s := by
  unfold State.endHold
  dsimp only
  split <;> simp

@[simp] theorem givePending_books : books (s.givePending w) = books s := by
  unfold State.givePending; split <;> simp

@[simp] theorem clearSlot_books : books (s.clearSlot w) = books s := rfl

@[simp] theorem endOperation_books (op : OpEntry) (e : Result) (payload : Payload) :
    books (s.endOperation w op e payload) = books s := by simp [State.endOperation]

@[simp] theorem completeOperation_books (op : OpEntry) : books (s.completeOperation w op) = books s := by
  unfold State.completeOperation State.beginWrite
  dsimp only
  split
  · split <;> simp
  · split <;> simp
  · simp
  · simp
  · split
    · simp
    · split <;> simp
  · rfl

@[simp] theorem testOperation_books : books (s.testOperation w) = books s := by
  unfold State.testOperation
  dsimp only
  split
  · rfl
  · split
    · rfl
    · split <;> simp

@[simp] theorem evaluate_books : books (s.evaluate w) = books s := by
  have halerts (as : List AlertReason) (v : State) :=
    foldl_keeps (g := books) (f := fun s a => s.alert w a) (fun s a => alert_books s w a) as v
  simp [State.evaluate, halerts]

@[simp] theorem askOperation_books (kind : OpKind) (load : Nat) (r : Requester) :
    books (s.askOperation w kind load r) = books s := by
  unfold State.askOperation
  dsimp only
  split <;> simp

@[simp] theorem refuseOperation_books (op : OpEntry) (e : Result) : books (s.refuseOperation w op e) = books s := by
  unfold State.refuseOperation
  dsimp only
  split <;> simp

@[simp] theorem sealOff_books : books (s.sealOff w) = books s := by
  unfold State.sealOff
  split
  · split <;> simp
  · rfl

@[simp] theorem resetChannel_books (p : Port) : books (s.resetChannel p w) = books s := by
  unfold State.resetChannel
  dsimp only
  split
  · split
    · split <;> simp
    · simp
  · rfl

@[simp] theorem cancelAtChannel_books (r : Requester) : books (s.cancelAtChannel w r) = books s := by
  unfold State.cancelAtChannel
  dsimp only
  split
  · rfl
  · split
    · split <;> simp
    · rfl

end Weighing

/-! ### Commands that keep the books -/

/-- Whatever state the outcome answers, its books are those of `s`. -/
def KeepsBooks (s : State) (o : Outcome) : Prop := ∀ t, o = .next t → books t = books s

@[simp] theorem keepsBooks_next (s u : State) : KeepsBooks s (.next u) ↔ books u = books s :=
  ⟨fun h => h u rfl, by rintro h _ ⟨⟩; exact h⟩

@[simp] theorem keepsBooks_done (s u : State) : KeepsBooks s (done u) ↔ books u = books s := keepsBooks_next s u.transmitAll

/-- A request keeps the books when its effect does. -/
theorem keepsBooks_takeRequest {p : Port} {t : Tag} {c : Instr} {s : State} {effect : Requester → State → State}
    (h : ∀ r u, books (effect r u) = books u) : KeepsBooks s (takeRequest p t c s effect) := by
  rcases takeRequest_cases p t c s effect with ⟨-, he⟩ | ⟨-, he⟩ | ⟨-, -, he⟩ <;> simp [he, h]

/-- The commands that change the books: those of the PLU table and of the transaction table, and those that begin or end a
day, start the part or cancel a request. -/
def changesBooks : Instr → Bool
  | .requestCancellation .. | .pluWrite .. | .pluDelete .. | .pluWithdraw .. | .pluRestore .. | .stockLoad ..
  | .stockLoadNone .. | .priceItem .. | .captureTaken .. | .captureRefusalTaken .. | .addCountItem .. | .voidLine ..
  | .park .. | .resume .. | .approve .. | .closeTransaction .. | .voidTransaction .. | .openBound .. | .discard ..
  | .openDay .. | .closeDay .. | .powerUp .. | .restartEffects .. => true
  | _ => false

section Commands
variable (s : State)

theorem linkReset_keepsBooks (p : Port) : KeepsBooks s (execLinkReset p s) := by
  unfold execLinkReset
  dsimp only
  split
  · simp
  · exact (keepsBooks_done _ _).2 (foldl_keeps (g := books) (fun s v => resetChannel_books s v p) Platter.all _)

theorem rateLearningCharacter_keepsBooks (p : Port) (lowNs : Nat) (decoded : Byte) :
    KeepsBooks s (execRateLearningCharacter p lowNs decoded s) := by
  unfold execRateLearningCharacter
  dsimp only
  split
  · split
    · split <;> simp
    · simp
  · simp

theorem captureCancellation_keepsBooks (w : Platter) : KeepsBooks s (execCaptureCancellation w s) := by
  unfold execCaptureCancellation
  dsimp only
  split
  · simp
  · split
    · split <;> simp
    · simp

theorem captureConsumed_keepsBooks (w : Platter) : KeepsBooks s (execCaptureConsumed w s) := by
  unfold execCaptureConsumed
  dsimp only
  split
  · simp
  · split
    · split <;> simp
    · simp

theorem storeWriteEnd_keepsBooks (w : Platter) (success : Bool) : KeepsBooks s (execStoreWriteEnd w success s) := by
  have hend (u : State) (b : Prop) [Decidable b] : books (if b then u.endHold w else u) = books u := by split <;> simp
  unfold execStoreWriteEnd
  dsimp only
  split
  · simp
  · split
    · simp
    · cases success <;> simp [hend]

theorem sealFalls_keepsBooks : KeepsBooks s (execSealFalls s) := by
  unfold execSealFalls
  split
  · exact (keepsBooks_done _ _).2 (foldl_keeps (g := books) (fun s v => sealOff_books s v) Platter.all _)
  · simp

theorem reprintTotal_keepsBooks (p : Port) (t : Tag) (n : Nat) : KeepsBooks s (execReprintTotal p t n s) := by
  unfold execReprintTotal
  refine keepsBooks_takeRequest fun r u => ?_
  split
  · simp
  · split
    · simp
    · next h => simp [offerInOrder_books h]

theorem boundTxnReport_keepsBooks (k : TicketId) : KeepsBooks s (execBoundTxnReport k s) := by
  unfold execBoundTxnReport
  split
  · next h => simp [takeReport_books h]
  · simp
  · simp

theorem ticketOutcomeReport_keepsBooks (k : TicketId) : KeepsBooks s (execTicketOutcomeReport k s) := by
  unfold execTicketOutcomeReport
  split
  · next h => simp [takeReport_books h]
  · simp
  · simp

theorem dispenserLineChange_keepsBooks (d : DispenserLine) (high : Bool) :
    KeepsBooks s (execDispenserLineChange d high s) := by
  unfold execDispenserLineChange
  dsimp only
  split
  · simp
  · split
    · simp
    · split <;> simp

theorem clerkWrite_keepsBooks (p : Port) (t : Tag) (clerk : Nat) (name : Text) (enabled : Bool) :
    KeepsBooks s (execClerkWrite p t clerk name enabled s) := by
  unfold execClerkWrite
  refine keepsBooks_takeRequest fun r u => ?_
  split
  · simp
  · rw [ok_books, setClerk_books]; rfl

theorem configureStation_keepsBooks (p : Port) (t : Tag) (station : Port) (fields : StationFields) :
    KeepsBooks s (execConfigureStation p t station fields s) := by
  unfold execConfigureStation
  refine keepsBooks_takeRequest fun r u => ?_
  split
  · simp
  · rw [ok_books]; rfl

end Commands

/-- Every other command keeps the books. Requests and events are taken together by the tests that stand before their
effects; the ones with a fold or with an effect of several answers have their own lemmas. -/
theorem exec_keepsBooks (s : State) (c : Instr) (hc : changesBooks c = false) : KeepsBooks s (exec c s) := by
  cases c
  case requestCancellation | pluWrite | pluDelete | pluWithdraw | pluRestore | stockLoad | stockLoadNone | priceItem |
      captureTaken | captureRefusalTaken | addCountItem | voidLine | park | resume | approve | closeTransaction |
      voidTransaction | openBound | discard | openDay | closeDay | powerUp | restartEffects =>
    cases hc
  all_goals dsimp only [exec]
  case readStatus | readWeight | calZero | calSpan | readCalibration | readQueue | readOutlet | readWatch =>
    exact keepsBooks_takeRequest fun r u => by simp
  case readRefusal | setThreshold | setNoticePriority | setPermissions | zero | tare | readTransaction | readClerk |
      configureClass | issueTicket | callNext | skip | cancelJob | readTotals | readClosedDay | setWatch | setClock =>
    exact keepsBooks_takeRequest fun r u => by split <;> simp
  case presetTare | clearTare | resumeOutlet | configureOutlet | reinstate | readLink | restart =>
    exact keepsBooks_takeRequest fun r u => by dsimp only; split <;> simp
  case calHold | calRelease =>
    exact keepsBooks_takeRequest fun r u => by dsimp only; split_ifs <;> simp
  case pluRead | pluReadNext =>
    exact keepsBooks_takeRequest fun r u => by
      split
      · split <;> simp
      · simp
  case configurePlatter =>
    exact keepsBooks_takeRequest fun r u => by
      dsimp only
      split
      · simp
      · split <;> simp
  case sealRises | holdOffExpiry | holdAsserted | holdReleased | clockSecond | daySecondsAdvance =>
    dsimp only [execSealRises, execHoldOffExpiry, execHoldAsserted, execHoldReleased, execClockSecond,
      execDaySecondsAdvance]
    simp
  case presentLineRises | frameReceived | frameGapTimeout | transmitComplete | sampleArrival | operationTimeout |
      holdTimerExpiry | paperOut | paperReady | outletPresentFalls | outletPresentRises | totalsReport =>
    dsimp only [execPresentLineRises, execFrameReceived, execFrameGapTimeout, execTransmitComplete, execSampleArrival,
      execOperationTimeout, execHoldTimerExpiry, execPaperOut, execPaperReady, execOutletPresentFalls,
      execOutletPresentRises, execTotalsReport]
    split <;> simp
  case silenceTimerExpiry | reportTimerExpiry | deviceJobDone =>
    dsimp only [execSilenceTimerExpiry, execReportTimerExpiry, execDeviceJobDone]
    split
    · simp
    · split <;> simp
  case lineTaken | callTimerExpiry =>
    dsimp only [execLineTaken, execCallTimerExpiry]
    split
    · simp
    · split_ifs <;> simp
  case linkReset p => exact linkReset_keepsBooks s p
  case rateLearningCharacter p lowNs decoded => exact rateLearningCharacter_keepsBooks s p lowNs decoded
  case captureCancellation w => exact captureCancellation_keepsBooks s w
  case captureConsumed w => exact captureConsumed_keepsBooks s w
  case storeWriteEnd w success => exact storeWriteEnd_keepsBooks s w success
  case sealFalls => exact sealFalls_keepsBooks s
  case clerkWrite p t clerk name enabled => exact clerkWrite_keepsBooks s p t clerk name enabled
  case configureStation p t station fields => exact configureStation_keepsBooks s p t station fields
  case reprintTotal p t n => exact reprintTotal_keepsBooks s p t n
  case boundTxnReport k => exact boundTxnReport_keepsBooks s k
  case ticketOutcomeReport k => exact ticketOutcomeReport_keepsBooks s k
  case dispenserLineChange d high => exact dispenserLineChange_keepsBooks s d high
  -- The one command left is RECALL, whose constructor's name is a keyword here.
  · exact keepsBooks_takeRequest fun r u => by dsimp only; split <;> simp

end Sys2Proof.Machine.Books

end

section
/-! PROOF. What the shared operations of the transaction table and of the PLU table do to the laws: a transaction opened,
replaced, parked, resumed and removed; stock reserved, returned and sold (O8). -/

namespace Sys2Proof.Machine.Books

open PlatterOps PluTable Ordered

/-! ### Reading the transaction table after a change (R103, R105) -/

theorem putTxn_eq_put (x : Txn) (l : List Txn) : putTxn x l = put Txn.number x l := by
  induction l with
  | nil => rfl
  | cons y ys ih => simp only [putTxn, put, ih]

section Reading
variable (s : State)

theorem findTxn_setTxn_same {x : Txn} {n : Nat} (h : x.number = n) : (s.setTxn x).findTxn n = some x := by
  simp only [State.findTxn, State.setTxn_held, putTxn_eq_put, ← h]; exact find?_put_same x _

theorem findTxn_setTxn_of_ne {x : Txn} {n : Nat} (h : n ≠ x.number) : (s.setTxn x).findTxn n = s.findTxn n := by
  simp only [State.findTxn, State.setTxn_held, putTxn_eq_put]; exact find?_put_of_ne h _

theorem ascending_setTxn {s : State} (h : Ascending Txn.number s.txn.held) (x : Txn) :
    Ascending Txn.number (s.setTxn x).txn.held := by
  rw [State.setTxn_held, putTxn_eq_put]; exact ascending_put h x

theorem setTxn_setTxn {x y : Txn} (h : x.number = y.number) : (s.setTxn y).setTxn x = s.setTxn x := by
  simp only [State.setTxn, putTxn_eq_put, put_put h]

@[simp] theorem setTxn_clerk (x : Txn) (c : ClerkNo) : (s.setTxn x).clerk c = s.clerk c := rfl

@[simp] theorem setClerk_findTxn (c : ClerkNo) (k : Clerk) (n : Nat) : (s.setClerk c k).findTxn n = s.findTxn n := rfl

@[simp] theorem noteStation_findTxn (c : ClerkNo) (p : Port) (n : Nat) : (s.noteStation c p).findTxn n = s.findTxn n := rfl

@[simp] theorem setClerk_clerk_same (c : ClerkNo) (k : Clerk) : (s.setClerk c k).clerk c = k := by
  simp [State.clerk, State.setClerk]

theorem setClerk_clerk_of_ne {c d : ClerkNo} (h : d ≠ c) (k : Clerk) : (s.setClerk c k).clerk d = s.clerk d := by
  have : c.val ≠ d.val := fun hv => h (Fin.ext hv.symm)
  simp [State.clerk, State.setClerk, Vector.getElem_set_ne _ _ this]

theorem removeTxn_findTxn_same (x : Txn) : (s.removeTxn x).findTxn x.number = none := by
  have : (s.removeTxn x).txn.held = s.txn.held.filter fun y => y.number ≠ x.number := by
    unfold State.removeTxn; dsimp only; split <;> rfl
  simp [State.findTxn, this]

theorem removeTxn_findTxn_of_ne {x : Txn} {n : Nat} (h : n ≠ x.number) : (s.removeTxn x).findTxn n = s.findTxn n := by
  have : (s.removeTxn x).txn.held = s.txn.held.filter fun y => y.number ≠ x.number := by
    unfold State.removeTxn; dsimp only; split <;> rfl
  unfold State.findTxn
  rw [this, List.find?_filter]
  congr 1
  funext y
  by_cases hy : y.number = n <;> simp [hy, h]

/-- The state without a transaction, its clerk's record not yet looked at. -/
def withoutTxn (x : Txn) : State := { s with txn := { s.txn with
  held := s.txn.held.filter fun y => y.number ≠ x.number
  parked := s.txn.parked.filter fun n => n ≠ x.number } }

theorem removeTxn_of_open {x : Txn} (h : (s.clerk x.clerk).openTxn = some x.number) :
    s.removeTxn x = (withoutTxn s x).setClerk x.clerk { s.clerk x.clerk with openTxn := none } := if_pos h

theorem removeTxn_of_not_open {x : Txn} (h : ¬(s.clerk x.clerk).openTxn = some x.number) :
    s.removeTxn x = withoutTxn s x := if_neg h

theorem removeTxn_plus (x : Txn) : (s.removeTxn x).plus = s.plus := by
  unfold State.removeTxn; dsimp only; split <;> rfl

/-- A removal touches the held transactions, the parked list and the clerks. -/
theorem removeTxn_txn (x : Txn) : (s.removeTxn x).txn = { s.txn with
    held := s.txn.held.filter fun y => y.number ≠ x.number
    parked := s.txn.parked.filter fun n => n ≠ x.number
    clerks := (s.removeTxn x).txn.clerks } := by
  unfold State.removeTxn; dsimp only; split <;> rfl

theorem removeTxn_clerk_of_ne {x : Txn} {c : ClerkNo} (h : c ≠ x.clerk) : (s.removeTxn x).clerk c = s.clerk c := by
  unfold State.removeTxn
  dsimp only
  split
  · rw [setClerk_clerk_of_ne _ h]; rfl
  · rfl

/-- The clerk whose OPEN transaction is removed has none; another clerk's record stands. -/
theorem removeTxn_clerk_same (x : Txn) : (s.removeTxn x).clerk x.clerk =
    if (s.clerk x.clerk).openTxn = some x.number then { s.clerk x.clerk with openTxn := none } else s.clerk x.clerk := by
  unfold State.removeTxn
  dsimp only
  change (if (s.clerk x.clerk).openTxn = some x.number then _ else _ : State).clerk x.clerk = _
  split
  · rw [setClerk_clerk_same]; rfl
  · rfl

end Reading

/-! ### One transaction's place changed -/

/-- Between two tables only what belongs to one transaction number differs, and at that number the second obeys the law. -/
structure OneChanged (s t : State) (n : Nat) : Prop where
  ascending : Ascending Txn.number t.txn.held
  find : ∀ m, m ≠ n → t.findTxn m = s.findTxn m
  lawful : ∀ x, t.findTxn n = some x → x.Lawful
  next : 1 ≤ t.txn.nextNumber ∧ t.txn.nextNumber ≤ 9999
  parkedOnce : t.txn.parked.Nodup
  parkedRoom : t.txn.parked.length ≤ Config.parkedPlaces
  parkedOthers : ∀ m, m ≠ n → (m ∈ t.txn.parked ↔ m ∈ s.txn.parked)
  parked : n ∈ t.txn.parked ↔ ∃ x, t.findTxn n = some x ∧ x.parkedAt.isSome
  openOthers : ∀ c m, m ≠ n → ((t.clerk c).openTxn = some m ↔ (s.clerk c).openTxn = some m)
  opens : ∀ c, (t.clerk c).openTxn = some n ↔ ∃ x, t.findTxn n = some x ∧ x.clerk = c ∧ x.parkedAt = none
  closed : t.txn.closed = s.txn.closed
  apart : ∀ x, t.findTxn n = some x → ∀ e ∈ s.txn.closed, n ≠ e.number
  inFlight : t.txn.inFlight = s.txn.inFlight

theorem OneChanged.rules {s t : State} {n : Nat} (hc : OneChanged s t n) (h : TableRules s) : TableRules t := by
  refine ⟨hc.ascending, fun m x hx => ?_, hc.next, hc.parkedOnce, hc.parkedRoom, fun m => ?_, fun c m => ?_,
    hc.closed ▸ h.closedRoom, hc.closed ▸ h.closedOnce, fun m x hx => ?_, hc.inFlight ▸ h.flights⟩
  all_goals by_cases hm : m = n
  · subst hm; exact hc.lawful x hx
  · exact h.lawful m x (hc.find m hm ▸ hx)
  · subst hm; exact hc.parked
  · rw [hc.parkedOthers m hm, hc.find m hm]; exact h.parked m
  · subst hm; exact hc.opens c
  · rw [hc.openOthers c m hm, hc.find m hm]; exact h.openTxns c m
  · subst hm; exact hc.closed ▸ hc.apart x hx
  · exact hc.closed ▸ h.apart m x (hc.find m hm ▸ hx)

section Rules
variable {s : State} {n : Nat} {x : Txn}

/-- A clerk's OPEN transaction is found, is the clerk's, and is not PARKED. -/
theorem TableRules.openOf {c : ClerkNo} (h : TableRules s) (hx : s.openOf c = some x) :
    s.findTxn x.number = some x ∧ x.clerk = c ∧ x.parkedAt = none ∧ (s.clerk c).openTxn = some x.number := by
  obtain ⟨n, hopen, hfind⟩ := Option.bind_eq_some_iff.1 hx
  obtain ⟨y, hy, hc, hp⟩ := (h.openTxns c n).1 hopen
  obtain rfl : y = x := Option.some.inj (hy.symm.trans hfind)
  have hn := findTxn_number hy
  exact ⟨hn ▸ hy, hc, hp, hn ▸ hopen⟩

/-- A clerk without an OPEN transaction has none on record. -/
theorem TableRules.openOf_eq_none {c : ClerkNo} (h : TableRules s) : s.openOf c = none ↔ (s.clerk c).openTxn = none := by
  constructor
  · intro hnone
    cases hopen : (s.clerk c).openTxn with
    | none => rfl
    | some n =>
      obtain ⟨y, hy, -, -⟩ := (h.openTxns c n).1 hopen
      simp [State.openOf, hopen, hy] at hnone
  · intro hnone; simp [State.openOf, hnone]

theorem TableRules.openOf_of_openTxn {c : ClerkNo} (h : TableRules s) (hopen : (s.clerk c).openTxn = some n) :
    ∃ x, s.openOf c = some x ∧ x.number = n := by
  obtain ⟨y, hy, -, -⟩ := (h.openTxns c n).1 hopen
  exact ⟨y, by simp [State.openOf, hopen, hy], findTxn_number hy⟩

/-- A held transaction replaced by a lawful one of the same number, clerk and place. -/
theorem TableRules.replace {y : Txn} (h : TableRules s) (hx : s.findTxn n = some x) (hn : y.number = n)
    (hclerk : y.clerk = x.clerk) (hparked : y.parkedAt = x.parkedAt) (hl : y.Lawful) : TableRules (s.setTxn y) := by
  have hy : (s.setTxn y).findTxn n = some y := findTxn_setTxn_same s hn
  refine OneChanged.rules (n := n) ⟨?_, fun m hm => findTxn_setTxn_of_ne s (hn ▸ hm), fun z hz => ?_, h.next, h.parkedOnce,
    h.parkedRoom, fun m _ => Iff.rfl, ?_, fun c m _ => Iff.rfl, fun c => ?_, rfl, fun z _ => h.apart n x hx, rfl⟩ h
  · exact ascending_setTxn h.ascending y
  · exact Option.some.inj (hy.symm.trans hz) ▸ hl
  · refine (h.parked n).trans ?_
    simp [hx, hy, hparked]
  · refine (h.openTxns c n).trans ?_
    simp [hx, hy, hparked, hclerk]

theorem lawful_opened (n : Nat) (c : ClerkNo) (k : Option TicketId) (m : DateTime) (p : Port) :
    Txn.Lawful ⟨n, c, k, .none, [], 0, 0, m, none, p⟩ :=
  ⟨rfl, Nat.zero_le _, by simp, rfl, rfl, Nat.zero_le _⟩

/-- A number that an opening takes is in no use and in its range (R107). -/
theorem TableRules.takesNumber (h : TableRules s) :
    s.findTxn s.txn.takesNumber = none ∧ (∀ e ∈ s.txn.closed, s.txn.takesNumber ≠ e.number) ∧
      1 ≤ s.txn.takesNumber ∧ s.txn.takesNumber ≤ 9999 := by
  obtain ⟨d, -, hplace, hfree, -⟩ := (tableLaw_iff.2 h).takes
  have hrange : 1 ≤ s.txn.takesNumber ∧ s.txn.takesNumber ≤ 9999 := by
    rw [hplace]; dsimp only; omega
  refine ⟨?_, fun e he heq => hfree (.inr ⟨e, he, heq.symm⟩), hrange⟩
  cases hx : s.findTxn s.txn.takesNumber with
  | none => rfl
  | some y => exact absurd (.inl ⟨y, findTxn_mem hx, findTxn_number hx⟩) hfree

/-- An opening for a clerk that has no OPEN transaction (R108). -/
theorem TableRules.open {c : ClerkNo} (h : TableRules s) (k : Option TicketId) (p : Port)
    (hclerk : (s.clerk c).openTxn = none) : TableRules (s.openTxn c k p) := by
  obtain ⟨hfree, hclosed, hrange⟩ := h.takesNumber
  have hnew : (s.openTxn c k p).findTxn s.txn.takesNumber =
      some ⟨s.txn.takesNumber, c, k, .none, [], 0, 0, s.now, none, p⟩ := findTxn_setTxn_same s rfl
  have hsame : ((s.openTxn c k p).clerk c).openTxn = some s.txn.takesNumber := by
    unfold State.openTxn; rw [setClerk_clerk_same]
  have hothers {d : ClerkNo} (hd : d ≠ c) : (s.openTxn c k p).clerk d = s.clerk d := setClerk_clerk_of_ne _ hd _
  refine OneChanged.rules (n := s.txn.takesNumber) ⟨?_, fun m hm => findTxn_setTxn_of_ne s hm, fun z hz => ?_, ?_,
    h.parkedOnce, h.parkedRoom, fun m _ => Iff.rfl, ?_, fun d m hm => ?_, fun d => ?_, rfl, fun _ _ => hclosed, rfl⟩ h
  · exact ascending_setTxn h.ascending _
  · exact Option.some.inj (hnew.symm.trans hz) ▸ lawful_opened ..
  · exact nextTxnNumber_range hrange
  · have hnot : s.txn.takesNumber ∉ s.txn.parked := by simp [h.parked, hfree]
    simp only [hnew, Option.some.injEq, exists_eq_left', Option.isSome_none, Bool.false_eq_true, iff_false]
    exact hnot
  · by_cases hd : d = c
    · subst hd; simp [hsame, hclerk, Ne.symm hm]
    · rw [hothers hd]
  · by_cases hd : d = c
    · subst hd; simp [hsame, hnew]
    · rw [hothers hd, h.openTxns]; simp [hfree, hnew, Ne.symm hd]

/-- A removed transaction leaves the table lawful (R105). -/
theorem TableRules.remove {y : Txn} (h : TableRules s) (hx : s.findTxn y.number = some x) (hclerk : x.clerk = y.clerk) :
    TableRules (s.removeTxn y) := by
  have htxn := removeTxn_txn s y
  have hgone := removeTxn_findTxn_same s y
  have hother {c : ClerkNo} (hc : c ≠ y.clerk) : (s.clerk c).openTxn ≠ some y.number := fun hopen => by
    obtain ⟨z, hz, hzc, -⟩ := (h.openTxns c _).1 hopen
    exact hc (hzc ▸ Option.some.inj (hz.symm.trans hx) ▸ hclerk)
  have hopen (c : ClerkNo) (m : Nat) : ((s.removeTxn y).clerk c).openTxn = some m ↔
      m ≠ y.number ∧ (s.clerk c).openTxn = some m := by
    by_cases hc : c = y.clerk
    · subst hc
      rw [removeTxn_clerk_same]
      split_ifs with ho
      · simp [ho, eq_comm]
      · exact ⟨fun hm => ⟨fun hmy => ho (hmy ▸ hm), hm⟩, fun hm => hm.2⟩
    · rw [removeTxn_clerk_of_ne s hc]
      exact ⟨fun hm => ⟨fun hmy => hother hc (hmy ▸ hm), hm⟩, fun hm => hm.2⟩
  refine OneChanged.rules (n := y.number) ⟨?_, fun m hm => removeTxn_findTxn_of_ne s hm, ?_, ?_, ?_, ?_, fun m hm => ?_, ?_,
    fun c m hm => ?_, fun c => ?_, ?_, ?_, ?_⟩ h
  all_goals first | rw [htxn] | skip
  · exact h.ascending.sublist List.filter_sublist
  · simp [hgone]
  · exact h.next
  · exact h.parkedOnce.sublist List.filter_sublist
  · exact (List.length_filter_le ..).trans h.parkedRoom
  · simp [hm]
  · simp [hgone]
  · simp [hopen, hm]
  · simp [hopen, hgone]
  · simp [hgone]

/-- A clerk's OPEN transaction set aside at the tail of the parked list (R117). -/
theorem TableRules.park {y : Txn} {k : Clerk} (h : TableRules s) (hx : s.findTxn n = some x) (hpark : x.parkedAt = none)
    (hroom : s.txn.parked.length < Config.parkedPlaces) (hn : y.number = n) (hclerk : y.clerk = x.clerk)
    (hy : y.parkedAt.isSome) (hl : y.Lawful) (hk : k.openTxn = none) {t : State}
    (ht : t.txn = { (s.setTxn y).txn with
      parked := s.txn.parked ++ [n], clerks := s.txn.clerks.set y.clerk k }) : TableRules t := by
  have hfind (m : Nat) : t.findTxn m = (s.setTxn y).findTxn m := by simp only [State.findTxn, ht]
  have hclerks (c : ClerkNo) : t.clerk c = (s.setClerk y.clerk k).clerk c := by simp only [State.clerk, ht]; rfl
  have hnew : t.findTxn n = some y := (hfind n).trans (findTxn_setTxn_same s hn)
  have hopen : (s.clerk x.clerk).openTxn = some n := (h.openTxns _ n).2 ⟨x, hx, rfl, hpark⟩
  have hnot : n ∉ s.txn.parked := by simp [h.parked, hx, hpark]
  refine OneChanged.rules (n := n) ⟨?_, fun m hm => (hfind m).trans (findTxn_setTxn_of_ne s (hn ▸ hm)), fun z hz => ?_, ?_,
    ?_, ?_, fun m hm => ?_, ?_, fun c m hm => ?_, fun c => ?_, ?_, fun _ _ => h.apart n x hx, ?_⟩ h
  · rw [ht]; exact ascending_setTxn h.ascending y
  · exact Option.some.inj (hnew.symm.trans hz) ▸ hl
  · rw [ht]; exact h.next
  · rw [ht]; exact List.nodup_append'.2 ⟨h.parkedOnce, List.nodup_singleton n, by simpa using hnot⟩
  · rw [ht]; simpa using hroom
  · rw [ht]; simp [hm]
  · rw [ht]; simp [hnew, hy]
  · rw [hclerks]
    by_cases hc : c = y.clerk
    · subst hc; simp [hk, hclerk, hopen, Ne.symm hm]
    · rw [setClerk_clerk_of_ne s hc]
  · rw [hclerks]
    by_cases hc : c = y.clerk
    · subst hc; simp [hk, hnew, Option.isSome_iff_ne_none.1 hy]
    · rw [setClerk_clerk_of_ne s hc, h.openTxns]; simp [hx, hnew, ← hclerk, Ne.symm hc]
  · rw [ht]; rfl
  · rw [ht]; rfl

/-- A PARKED transaction brought back to a clerk that has none OPEN (R118). -/
theorem TableRules.resume {y : Txn} {k : Clerk} (h : TableRules s) (hx : s.findTxn n = some x)
    (hnone : (s.clerk x.clerk).openTxn = none) (hn : y.number = n)
    (hclerk : y.clerk = x.clerk) (hy : y.parkedAt = none) (hl : y.Lawful) (hk : k.openTxn = some n) {t : State}
    (ht : t.txn = { (s.setTxn y).txn with
      parked := s.txn.parked.filter (fun m => m ≠ n), clerks := s.txn.clerks.set y.clerk k }) : TableRules t := by
  have hfind (m : Nat) : t.findTxn m = (s.setTxn y).findTxn m := by simp only [State.findTxn, ht]
  have hclerks (c : ClerkNo) : t.clerk c = (s.setClerk y.clerk k).clerk c := by simp only [State.clerk, ht]; rfl
  have hnew : t.findTxn n = some y := (hfind n).trans (findTxn_setTxn_same s hn)
  refine OneChanged.rules (n := n) ⟨?_, fun m hm => (hfind m).trans (findTxn_setTxn_of_ne s (hn ▸ hm)), fun z hz => ?_, ?_,
    ?_, ?_, fun m hm => ?_, ?_, fun c m hm => ?_, fun c => ?_, ?_, fun _ _ => h.apart n x hx, ?_⟩ h
  · rw [ht]; exact ascending_setTxn h.ascending y
  · exact Option.some.inj (hnew.symm.trans hz) ▸ hl
  · rw [ht]; exact h.next
  · rw [ht]; exact h.parkedOnce.sublist List.filter_sublist
  · rw [ht]; exact (List.length_filter_le ..).trans h.parkedRoom
  · rw [ht]; simp [hm]
  · rw [ht]; simp [hnew, hy]
  · rw [hclerks]
    by_cases hc : c = y.clerk
    · subst hc; simp [hk, hclerk, hnone, Ne.symm hm]
    · rw [setClerk_clerk_of_ne s hc]
  · rw [hclerks]
    by_cases hc : c = y.clerk
    · subst hc; simp [hk, hnew, hy]
    · rw [setClerk_clerk_of_ne s hc, h.openTxns]; simp [hx, hnew, ← hclerk, Ne.symm hc]
  · rw [ht]; rfl
  · rw [ht]; rfl

/-- An entry of a number in no use joins the tail of the closed list; of nine the oldest leaves (R123). -/
theorem TableRules.addClosed {e : ClosedEntry} (h : TableRules s) (hheld : s.findTxn e.number = none)
    (hclosed : ∀ d ∈ s.txn.closed, e.number ≠ d.number) : TableRules (s.addClosed e) := by
  have hsub : (s.addClosed e).txn.closed.Sublist (s.txn.closed ++ [e]) := List.drop_sublist _ _
  refine ⟨h.ascending, h.lawful, h.next, h.parkedOnce, h.parkedRoom, h.parked, h.openTxns, ?_, ?_, fun n x hx d hd => ?_,
    h.flights⟩
  · have := h.closedRoom
    simp only [State.addClosed, lastEntries, List.length_drop, List.length_append, Config.closedPlaces] at this ⊢
    omega
  · refine List.Pairwise.sublist hsub (List.pairwise_append.2 ⟨h.closedOnce, List.pairwise_singleton .., ?_⟩)
    simpa using fun d hd => (hclosed d hd).symm
  · have hx' : s.findTxn n = some x := hx
    rcases List.mem_append.1 (hsub.subset hd) with hd | hd
    · exact h.apart n x hx' d hd
    · obtain rfl := List.mem_singleton.1 hd
      rintro rfl
      rw [hheld] at hx'; cases hx'

/-- The in-flight list replaced by one with one entry of each platter at most (R109). -/
theorem TableRules.setFlights {fs : List InFlight} (h : TableRules s)
    (hfs : fs.Pairwise fun x y => x.platter ≠ y.platter) :
    TableRules { s with txn := { s.txn with inFlight := fs } } :=
  ⟨h.ascending, h.lawful, h.next, h.parkedOnce, h.parkedRoom, h.parked, h.openTxns, h.closedRoom, h.closedOnce, h.apart, hfs⟩

/-- The next number replaced by another of its range (R172). -/
theorem TableRules.setNext {m : Nat} (h : TableRules s) (hm : 1 ≤ m ∧ m ≤ 9999) :
    TableRules { s with txn := { s.txn with nextNumber := m } } :=
  ⟨h.ascending, h.lawful, hm, h.parkedOnce, h.parkedRoom, h.parked, h.openTxns, h.closedRoom, h.closedOnce, h.apart,
    h.flights⟩

/-- The closed list emptied (R174). -/
theorem TableRules.emptyClosed (h : TableRules s) : TableRules { s with txn := { s.txn with closed := [] } } :=
  ⟨h.ascending, h.lawful, h.next, h.parkedOnce, h.parkedRoom, h.parked, h.openTxns, Nat.zero_le _, List.Pairwise.nil,
    by simp, h.flights⟩

end Rules

end Sys2Proof.Machine.Books

end

section
/-! PROOF. What the stock orders and the changes of a transaction's lines do to the counts and quantities of the PLU table,
and to a transaction's own law (O8). -/

namespace Sys2Proof.Machine.Books

open PlatterOps PluTable Ordered

/-! ### Quantities held of a PLU (R71, R77) -/

section Quantities
variable {us vs : List (Nat × Nat)} {table : List PluRecord}

theorem quantitiesOf_cons_same (n q : Nat) (us : List (Nat × Nat)) : quantitiesOf n ((n, q) :: us) = q :: quantitiesOf n us := by
  simp [quantitiesOf]

theorem quantitiesOf_cons_of_ne {m n : Nat} (h : n ≠ m) (q : Nat) (us : List (Nat × Nat)) :
    quantitiesOf m ((n, q) :: us) = quantitiesOf m us := by
  simp [quantitiesOf, h]

theorem Tallies.perm {r : PluRecord} {qs qs' : List Nat} (h : Tallies r qs) (hp : qs.Perm qs') : Tallies r qs' :=
  ⟨h.1.trans hp.length_eq, fun a ha => ⟨(h.2 a ha).1, (h.2 a ha).2.trans hp.sum_eq⟩⟩

theorem Stocked.perm (h : Stocked table us) (hp : us.Perm vs) : Stocked table vs :=
  ⟨h.order, h.room, fun r hr => (h.tallies r hr).perm ((hp.filter _).map _), fun u hu => h.present u (hp.mem_iff.2 hu)⟩

/-- The record of a PLU replaced by one that counts what is now held of it. -/
theorem Stocked.put {r r' : PluRecord} {n : Nat} (h : Stocked table us) (hr : findPlu n table = some r) (hn : r'.number = n)
    (htally : Tallies r' (quantitiesOf n vs)) (hothers : ∀ m, m ≠ n → quantitiesOf m vs = quantitiesOf m us)
    (hvs : ∀ v ∈ vs, v ∈ us ∨ v.1 = n) : Stocked (putPlu r' table) vs := by
  have hrn := findPlu_number hr
  rw [putPlu_eq_put]
  refine ⟨ascending_put h.order r', ?_, fun x hx => ?_, fun v hv => ?_⟩
  · exact (length_put h.order (findPlu_mem hr) (hrn.trans hn.symm)).le.trans h.room
  · rcases (mem_put h.order).1 hx with rfl | ⟨hx, hne⟩
    · exact hn ▸ htally
    · rw [hothers _ (hn ▸ hne)]; exact h.tallies x hx
  · by_cases hvn : v.1 = n
    · exact ⟨r', (mem_put h.order).2 (.inl rfl), hn.trans hvn.symm⟩
    · obtain ⟨x, hx, hxv⟩ := h.present v ((hvs v hv).resolve_right hvn)
      exact ⟨x, (mem_put h.order).2 (.inr ⟨hx, by rw [hxv, hn]; exact hvn⟩), hxv⟩

/-- A record replaced by one with the same counts. -/
theorem Stocked.setRecord {r r' : PluRecord} {n : Nat} (h : Stocked table us) (hr : findPlu n table = some r)
    (hn : r'.number = n) (htally : ∀ qs, Tallies r qs → Tallies r' qs) : Stocked (putPlu r' table) us :=
  h.put hr hn (htally _ (findPlu_number hr ▸ h.tallies r (findPlu_mem hr))) (fun _ _ => rfl) fun _ hv => .inl hv

/-- Of a PLU without a record nothing is held. -/
theorem Stocked.quantities_nil {n : Nat} (h : Stocked table us) (hn : findPlu n table = none) : quantitiesOf n us = [] := by
  simp only [quantitiesOf, List.map_eq_nil_iff, List.filter_eq_nil_iff, decide_eq_true_eq]
  intro u hu hun
  obtain ⟨r, hr, hru⟩ := h.present u hu
  exact findPlu_eq_none.1 hn r hr (hru.trans hun)

/-- A new record, of a PLU that no line names, in a table with room. -/
theorem Stocked.create {r : PluRecord} (h : Stocked table us) (hn : findPlu r.number table = none)
    (hroom : table.length < Config.pluRecords) (htally : Tallies r []) : Stocked (putPlu r table) us := by
  have hmem {x : PluRecord} : x ∈ Ordered.put PluRecord.number r table ↔ x = r ∨ x ∈ table ∧ x.number ≠ r.number := mem_put h.order
  rw [putPlu_eq_put]
  refine ⟨ascending_put h.order r, ?_, fun x hx => ?_, fun u hu => ?_⟩
  · have := (put_perm h.order r).length_eq
    have := List.length_filter_le (fun y : PluRecord => y.number ≠ r.number) table
    simp only [List.length_cons] at *
    omega
  · rcases hmem.1 hx with rfl | ⟨hx, -⟩
    · rw [h.quantities_nil hn]; exact htally
    · exact h.tallies x hx
  · obtain ⟨x, hx, hxu⟩ := h.present u hu
    exact ⟨x, hmem.2 (.inr ⟨hx, findPlu_eq_none.1 hn x hx⟩), hxu⟩

/-- A record that no line names leaves the table (R75). -/
theorem Stocked.drop {r : PluRecord} {n : Nat} (h : Stocked table us) (hr : findPlu n table = some r)
    (hopen : r.openLines = 0) : Stocked (dropPlu n table) us := by
  have hnil : quantitiesOf n us = [] :=
    List.length_eq_zero_iff.1 ((findPlu_number hr ▸ (h.tallies r (findPlu_mem hr)).1).symm.trans hopen)
  refine ⟨h.order.sublist List.filter_sublist, (List.length_filter_le ..).trans h.room,
    fun x hx => h.tallies x (List.mem_of_mem_filter hx), fun u hu => ?_⟩
  obtain ⟨x, hx, hxu⟩ := h.present u hu
  refine ⟨x, List.mem_filter.2 ⟨hx, ?_⟩, hxu⟩
  simp only [quantitiesOf, List.map_eq_nil_iff, List.filter_eq_nil_iff, decide_eq_true_eq] at hnil
  simpa [hxu] using hnil u hu

end Quantities

/-! ### Reserve, return, sell (R81 to R84) -/

/-- A record after a reserve and its low test (R81, R84). -/
def reserved (q : Nat) (r : PluRecord) : PluRecord := { r with
  openLines := r.openLines + 1
  stock := r.stock.map fun a => { a with
    remaining := a.remaining - q
    held := a.held + q
    lowNotified := a.lowNotified || a.watch.any fun level => a.remaining - q ≤ level } }

/-- A record after a return (R82). -/
def returned (q : Nat) (r : PluRecord) : PluRecord :=
  { r with stock := r.stock.map (·.giveBack q), openLines := r.openLines - 1 }

/-- A record after a sell (R83). -/
def sold (q : Nat) (r : PluRecord) : PluRecord := { r with stock := r.stock.map (·.sell q), openLines := r.openLines - 1 }

theorem reserved_tallies {r : PluRecord} {q : Nat} {qs : List Nat} (h : Tallies r qs)
    (hroom : ∀ a, r.stock = some a → q ≤ a.remaining) : Tallies (reserved q r) (q :: qs) := by
  refine ⟨by simp [reserved, h.1], fun b hb => ?_⟩
  obtain ⟨a, ha, rfl⟩ := Option.map_eq_some_iff.1 hb
  have hsum := (h.2 a ha)
  have := hroom a ha
  simp only [List.sum_cons]
  omega

theorem returned_tallies {r : PluRecord} {q : Nat} {qs : List Nat} (h : Tallies r (q :: qs)) :
    Tallies (returned q r) qs := by
  refine ⟨by simp [returned, h.1], fun b hb => ?_⟩
  obtain ⟨a, ha, rfl⟩ := Option.map_eq_some_iff.1 hb
  have hsum := (h.2 a ha)
  simp only [List.sum_cons] at hsum
  simp only [Stock.giveBack]
  omega

theorem sold_tallies {r : PluRecord} {q : Nat} {qs : List Nat} (h : Tallies r (q :: qs)) : Tallies (sold q r) qs := by
  refine ⟨by simp [sold, h.1], fun b hb => ?_⟩
  obtain ⟨a, ha, rfl⟩ := Option.map_eq_some_iff.1 hb
  have hsum := (h.2 a ha)
  simp only [List.sum_cons] at hsum
  simp only [Stock.sell]
  omega

/-- A record after the low test: its flag is set where remaining is at or below the watch level (R84). -/
def lowTested (r : PluRecord) : PluRecord := { r with stock := r.stock.map fun a => { a with
  lowNotified := a.lowNotified || a.watch.any fun level => a.remaining ≤ level } }

theorem lowTested_eq_self {r : PluRecord}
    (h : ∀ a, r.stock = some a → (a.watch.any fun level => a.remaining ≤ level) = true → a.lowNotified = true) :
    lowTested r = r := by
  have hstock : (r.stock.map fun a => { a with
      lowNotified := a.lowNotified || a.watch.any fun level => a.remaining ≤ level }) = r.stock := by
    cases hr : r.stock with
    | none => rfl
    | some a =>
      have hflag : (a.lowNotified || a.watch.any fun level => decide (a.remaining ≤ level)) = a.lowNotified := by
        cases hlow : a.watch.any fun level => decide (a.remaining ≤ level)
        · exact Bool.or_false _
        · rw [h a hr hlow]; rfl
      simp only [Option.map_some, hflag]
  rw [lowTested, hstock]

/-- The low test of a record just put: the record stands as tested, and where its account is low for the first time
STOCK_LOW goes to the office (R84). -/
theorem lowTest_cases (s : State) (r : PluRecord) :
    ((s.setPlu r).lowTest r = s.setPlu (lowTested r) ∧
      ∀ a level, r.stock = some a → a.watch = some level → a.remaining ≤ level → a.lowNotified = true) ∨
    ∃ a level, r.stock = some a ∧ a.watch = some level ∧ a.remaining ≤ level ∧ a.lowNotified = false ∧
      (s.setPlu r).lowTest r =
        (s.setPlu (lowTested r)).notify .office (.stockLow r.number a.remaining a.held level) := by
  have hput : (s.setPlu r).setPlu (lowTested r) = s.setPlu (lowTested r) := by
    have : (lowTested r).number = r.number := rfl
    simp only [State.setPlu, putPlu_eq_put, put_put this]
  by_cases h : ∃ a level, r.stock = some a ∧ a.watch = some level ∧ a.remaining ≤ level ∧ a.lowNotified = false
  · obtain ⟨a, level, hstock, hwatch, hlow, hflag⟩ := h
    refine .inr ⟨a, level, hstock, hwatch, hlow, hflag, ?_⟩
    have hdue : a.lowDue = true := by simp [Stock.lowDue, hwatch, hlow, hflag]
    have htested : lowTested r = { r with stock := some { a with lowNotified := true } } := by
      simp [lowTested, hstock, hwatch, hlow]
    rw [← hput]
    simp only [State.lowTest, hstock, hdue, if_true, hwatch, Option.getD_some, htested]
  · have hnot : ∀ a level, r.stock = some a → a.watch = some level → a.remaining ≤ level → a.lowNotified = true :=
      fun a level ha hw hl => by
        by_contra hflag
        exact h ⟨a, level, ha, hw, hl, by simpa using hflag⟩
    refine .inl ⟨?_, hnot⟩
    rw [lowTested_eq_self fun a ha hlow => by
      obtain ⟨level, hw, hl⟩ := (Option.any_eq_true _ _).1 hlow
      exact hnot a level ha hw (by simpa using hl)]
    unfold State.lowTest
    cases hstock : r.stock with
    | none => rfl
    | some a =>
      have hdue : a.lowDue = false := by
        cases hw : a.watch with
        | none => simp [Stock.lowDue, hw]
        | some level =>
          by_cases hl : a.remaining ≤ level
          · simp [Stock.lowDue, hw, hnot a level hstock hw hl]
          · simp [Stock.lowDue, hw, hl]
      simp [hdue]

theorem lowTest_plus (s : State) (r : PluRecord) : ((s.setPlu r).lowTest r).plus = putPlu (lowTested r) s.plus := by
  rcases lowTest_cases s r with ⟨h, -⟩ | ⟨a, level, -, -, -, -, h⟩
  · rw [h]; rfl
  · rw [h]; exact (Prod.mk.inj (notify_books (s.setPlu (lowTested r)) _ _)).1

/-- A record as a reserve changes it before its low test (R81). -/
def drawn (q : Nat) (r : PluRecord) : PluRecord :=
  { r with stock := r.stock.map (·.reserve q), openLines := r.openLines + 1 }

theorem lowTested_drawn (q : Nat) (r : PluRecord) : lowTested (drawn q r) = reserved q r := by
  simp only [lowTested, drawn, reserved, Option.map_map]; rfl

theorem reserve_plus (s : State) (r : PluRecord) (q : Nat) : (s.reserve r q).plus = putPlu (reserved q r) s.plus :=
  (lowTest_plus s (drawn q r)).trans (by rw [lowTested_drawn])

/-- A reserve puts the record back, and tells the office where the account is low for the first time (R81, R84). -/
theorem reserve_cases (s : State) (r : PluRecord) (q : Nat) :
    (s.reserve r q = s.setPlu (reserved q r) ∧
      ∀ a level, r.stock = some a → a.watch = some level → a.remaining - q ≤ level → a.lowNotified = true) ∨
    ∃ a level, r.stock = some a ∧ a.watch = some level ∧ a.remaining - q ≤ level ∧ a.lowNotified = false ∧
      s.reserve r q =
        (s.setPlu (reserved q r)).notify .office (.stockLow r.number (a.remaining - q) (a.held + q) level) := by
  have hstock {b : Stock} : (drawn q r).stock = some b ↔ ∃ a, r.stock = some a ∧ a.reserve q = b :=
    Option.map_eq_some_iff
  rw [← lowTested_drawn]
  rcases lowTest_cases s (drawn q r) with ⟨h, hnot⟩ | ⟨b, level, hb, hw, hl, hflag, h⟩
  · exact .inl ⟨h, fun a level ha => hnot (a.reserve q) level (hstock.2 ⟨a, ha, rfl⟩)⟩
  · obtain ⟨a, ha, rfl⟩ := hstock.1 hb
    exact .inr ⟨a, level, ha, hw, hl, hflag, h⟩

/-- A reserve touches the PLU table and the links. -/
theorem reserve_eq (s : State) (r : PluRecord) (q : Nat) :
    ∃ link, s.reserve r q = { s with link := link, plus := putPlu (reserved q r) s.plus } := by
  rcases reserve_cases s r q with ⟨h, -⟩ | ⟨a, level, -, -, -, -, h⟩ <;> exact ⟨_, h⟩

section Moves
variable {s : State} {us : List (Nat × Nat)} {n q : Nat}

theorem Stocked.reserve {r : PluRecord} (h : Stocked s.plus us) (hr : findPlu n s.plus = some r)
    (hroom : ∀ a, r.stock = some a → q ≤ a.remaining) : Stocked (s.reserve r q).plus ((n, q) :: us) := by
  rw [reserve_plus]
  refine h.put hr (findPlu_number (r := r) hr) ?_ (fun m hm => quantitiesOf_cons_of_ne hm.symm q us) fun v hv => ?_
  · rw [quantitiesOf_cons_same]
    exact reserved_tallies (findPlu_number hr ▸ h.tallies r (findPlu_mem hr)) hroom
  · rcases List.mem_cons.1 hv with rfl | hv
    · exact .inr rfl
    · exact .inl hv

/-- A PLU of which something is held has its record, and giving one quantity up leaves the table stocked with the rest. -/
theorem Stocked.giveUp {f : Nat → PluRecord → PluRecord} (h : Stocked s.plus ((n, q) :: us))
    (hnumber : ∀ r, (f q r).number = r.number) (hf : ∀ r qs, Tallies r (q :: qs) → Tallies (f q r) qs) :
    ∃ r, findPlu n s.plus = some r ∧ Stocked (putPlu (f q r) s.plus) us := by
  obtain ⟨r, hr, hrn⟩ : ∃ r ∈ s.plus, r.number = n := h.present (n, q) (by simp)
  have hfind : findPlu n s.plus = some r := hrn ▸ findPlu_of_mem h.order hr
  refine ⟨r, hfind, h.put hfind ((hnumber r).trans hrn) (hf r _ ?_) (fun m hm => (quantitiesOf_cons_of_ne hm.symm q us).symm)
    fun v hv => .inl (by simp [hv])⟩
  rw [← quantitiesOf_cons_same]
  exact hrn ▸ h.tallies r hr

theorem Stocked.returnStock (h : Stocked s.plus ((n, q) :: us)) : Stocked (s.returnStock n q).plus us := by
  obtain ⟨r, hr, hput⟩ := h.giveUp (f := returned) (fun _ => rfl) fun _ _ => returned_tallies
  simp only [State.returnStock, hr]
  exact hput

theorem Stocked.sellStock (h : Stocked s.plus ((n, q) :: us)) : Stocked (s.sellStock n q).plus us := by
  obtain ⟨r, hr, hput⟩ := h.giveUp (f := sold) (fun _ => rfl) fun _ _ => sold_tallies
  simp only [State.sellStock, hr]
  exact hput

/-- The PLU table after a return (R82). -/
def returnedTable (n q : Nat) (table : List PluRecord) : List PluRecord :=
  match findPlu n table with
  | none => table
  | some r => putPlu (returned q r) table

theorem returnStock_eq (s : State) (n q : Nat) : s.returnStock n q = { s with plus := returnedTable n q s.plus } := by
  unfold State.returnStock returnedTable
  cases findPlu n s.plus <;> rfl

theorem returnStock_books_congr {s t : State} (h : books t = books s) (n q : Nat) :
    books (t.returnStock n q) = books (s.returnStock n q) := by
  obtain ⟨hplus, htable⟩ := Prod.mk.inj h
  simp only [returnStock_eq, books, hplus, htable]

@[simp] theorem sellStock_txn (s : State) (n q : Nat) : (s.sellStock n q).txn = s.txn := by
  unfold State.sellStock; split <;> rfl

@[simp] theorem returnStock_txn (s : State) (n q : Nat) : (s.returnStock n q).txn = s.txn := by
  rw [returnStock_eq]

@[simp] theorem reserve_txn (s : State) (r : PluRecord) (q : Nat) : (s.reserve r q).txn = s.txn := by
  unfold State.reserve State.lowTest
  dsimp only
  split
  · rfl
  · split <;> rfl

/-- All the lines of a transaction sold (R122). -/
theorem Stocked.sellAll {ls : List Line} (h : Stocked s.plus (ls.map (fun l => (l.plu, l.quantity)) ++ us)) :
    Stocked (ls.foldl (fun s l => s.sellStock l.plu l.quantity) s).plus us := by
  induction ls generalizing s with
  | nil => exact h
  | cons l ls ih => exact ih h.sellStock

end Moves

/-! ### What the held transactions hold -/

/-- What the held transactions of other numbers hold. -/
def usesBeside (s : State) (n : Nat) : List (Nat × Nat) := (s.txn.held.filter fun x => x.number ≠ n).flatMap txnUses

section Held
variable {s : State} {n : Nat} {x : Txn}

theorem uses_perm (h : TableRules s) (hx : s.findTxn n = some x) : (uses s).Perm (txnUses x ++ usesBeside s n) := by
  have := (perm_of_mem h.ascending (findTxn_mem hx)).flatMap_right txnUses
  rwa [findTxn_number hx] at this

theorem uses_of_absent (h : s.findTxn n = none) : usesBeside s n = uses s := by
  have : s.txn.held.filter (fun x => x.number ≠ n) = s.txn.held := by
    refine List.filter_eq_self.2 fun x hx => ?_
    simpa using List.find?_eq_none.1 h x hx
  rw [usesBeside, this, uses]

theorem uses_setTxn_perm (h : TableRules s) (y : Txn) :
    (uses (s.setTxn y)).Perm (txnUses y ++ usesBeside s y.number) := by
  have := (put_perm h.ascending y).flatMap_right txnUses
  rwa [← putTxn_eq_put] at this

theorem uses_removeTxn (s : State) (y : Txn) : uses (s.removeTxn y) = usesBeside s y.number := by
  rw [uses, removeTxn_txn]; rfl

end Held

/-! ### A transaction's own law when a line is taken or voided (R105, R106) -/

/-- A transaction once a line has been taken into it: the subtotal rises by its amount, the item count by 1, and a HOLD fire
asks for the approval of one that has none yet (R111, R119). -/
def withLine (x : Txn) (l : Line) (p : Port) (hold : Bool) : Txn := { x with
  lines := x.lines ++ [l]
  subtotal := x.subtotal + l.amount
  itemCount := x.itemCount + 1
  approval := if hold = true ∧ x.approval = .none then .required else x.approval
  lastStation := p }

theorem withLine_lawful {x : Txn} {l : Line} {p : Port} {hold : Bool} (h : x.Lawful) (hvoid : l.voided = false)
    (hindex : l.index = x.lines.length + 1) (hamount : l.amount ≤ Config.lineAmountMax)
    (hroom : x.lines.length < Config.linesPerTxn) (hlimit : x.subtotal + l.amount ≤ Config.subtotalMax) :
    (withLine x l p hold).Lawful := by
  have hlines : unvoided (x.lines ++ [l]) = unvoided x.lines ++ [l] := by simp [unvoided, hvoid]
  refine ⟨?_, hlimit, fun y hy => ?_, ?_, ?_, ?_⟩
  · simp [withLine, hlines, amountSum, h.subtotal]
  · rcases List.mem_append.1 hy with hy | hy
    · exact h.amounts y hy
    · exact List.mem_singleton.1 hy ▸ hamount
  · simp [withLine, hlines, h.items]
  · simp [withLine, h.indices, List.range_succ, hindex]
  · simp only [withLine, List.length_append, List.length_singleton]; omega

theorem updateFirst_of_split {α : Type} {test : α → Bool} {f : α → α} {before after : List α} {x : α}
    (hbefore : ∀ y ∈ before, test y = false) (hx : test x = true) :
    updateFirst test f (before ++ x :: after) = before ++ f x :: after := by
  induction before with
  | nil => simp [updateFirst, hx]
  | cons y ys ih =>
    have hy := hbefore y (by simp)
    simp [updateFirst, hy, ih fun z hz => hbefore z (by simp [hz])]

/-- A line of a lawful transaction is the only one of its index (R106). -/
theorem Lawful.index_ne {x : Txn} {before after : List Line} {l : Line} (h : x.Lawful)
    (hl : x.lines = before ++ l :: after) : ∀ y ∈ before, y.index ≠ l.index := by
  have hnodup : (x.lines.map (·.index)).Nodup := by
    rw [h.indices]
    exact List.Nodup.map (fun a b hab => Nat.succ.inj hab) List.nodup_range
  rw [hl, List.map_append, List.map_cons] at hnodup
  intro y hy heq
  have := List.nodup_append'.1 hnodup
  exact this.2.2 (List.mem_map_of_mem hy) (by simp [heq])

/-- A line voided in its place: the line marked, its amount and itself off the totals (R116). -/
theorem voidLine_of_split {x : Txn} {before after : List Line} {l m : Line} (h : x.Lawful)
    (hl : x.lines = before ++ m :: after) (hindex : m.index = l.index) :
    x.voidLine l = { x with
      lines := before ++ { m with voided := true } :: after
      subtotal := x.subtotal - l.amount
      itemCount := x.itemCount - 1 } := by
  have hbefore : ∀ y ∈ before, decide (y.index = l.index) = false := fun y hy => by
    simpa [hindex] using Lawful.index_ne h hl y hy
  simp only [Txn.voidLine, hl, updateFirst_of_split (f := fun y : Line => { y with voided := true }) hbefore
    (by simp [hindex] : decide (m.index = l.index) = true)]

theorem voidLine_lawful {x : Txn} {before after : List Line} {l m : Line} (h : x.Lawful)
    (hl : x.lines = before ++ m :: after) (hindex : m.index = l.index) (hamount : m.amount = l.amount)
    (hvoid : m.voided = false) : (x.voidLine l).Lawful := by
  rw [voidLine_of_split h hl hindex]
  have hwas : unvoided x.lines = unvoided before ++ m :: unvoided after := by simp [hl, unvoided, hvoid]
  have hnow : unvoided (before ++ { m with voided := true } :: after) = unvoided before ++ unvoided after := by
    simp [unvoided]
  have hsum := h.subtotal
  have hcount := h.items
  have hlimit := h.limit
  rw [hwas] at hsum hcount
  simp only [amountSum, List.map_append, List.map_cons, List.sum_append, List.sum_cons] at hsum
  simp only [List.length_append, List.length_cons] at hcount
  refine ⟨?_, ?_, fun y hy => ?_, ?_, ?_, ?_⟩
  · simp only [hnow, amountSum, List.map_append, List.sum_append]; omega
  · dsimp only; omega
  · have hmem : y ∈ before ∨ y = { m with voided := true } ∨ y ∈ after := by simpa using hy
    rcases hmem with hy | rfl | hy
    · exact h.amounts y (by simp [hl, hy])
    · exact h.amounts m (by simp [hl])
    · exact h.amounts y (by simp [hl, hy])
  · simp only [hnow, List.length_append]; omega
  · simpa [hl] using h.indices
  · simpa [hl] using h.room

end Sys2Proof.Machine.Books

end

section
/-! PROOF. What taking a line does: its watches, its label, and the state they leave (O8, O34, O35). -/

namespace Sys2Proof.Machine.Books

open PlatterOps PluTable Ordered

/-! ### Notices for the office (R16) -/

/-- Some notices handed to the office, in order. -/
def officeHears (ns : List Notice) (s : State) : State := ns.foldl (fun s n => s.notify .office n) s

@[simp] theorem officeHears_nil (s : State) : officeHears [] s = s := rfl

@[simp] theorem officeHears_cons (n : Notice) (ns : List Notice) (s : State) :
    officeHears (n :: ns) s = officeHears ns (s.notify .office n) := rfl

theorem officeHears_append (ns ms : List Notice) (s : State) :
    officeHears (ns ++ ms) s = officeHears ms (officeHears ns s) := List.foldl_append

/-- Notices touch the links alone. -/
theorem officeHears_link (ns : List Notice) (s t : State) (h : t.link = s.link) :
    officeHears ns t = { t with link := (officeHears ns s).link } := by
  induction ns generalizing s t with
  | nil => rw [officeHears_nil, officeHears_nil, ← h]
  | cons n ns ih =>
    have hn : (t.notify .office n).link = (s.notify .office n).link := by
      simp only [State.notify, State.mapLink, State.setLink, State.linkOf, h]
    rw [officeHears_cons, officeHears_cons, ih _ _ hn]; rfl

/-! ### The watches at a line (R185) -/

theorem lineValue_isSome {w : Watch} {plu amount subtotal : Nat} :
    (w.lineValue plu amount subtotal).isSome ↔ w.firesAt plu amount subtotal := by
  unfold Watch.lineValue Watch.firesAt
  cases w.armed <;> cases w.cond <;> simp

/-- A watch that fired at a line: it counts the fire and stays armed (R184, R185). -/
def firedWatch (w : Watch) : Watch := { w with fires := saturate 65535 w.fires, armed := true }

/-- The watches of some numbers evaluated at a line: what they leave, the notices for the office, and the numbers of the
HOLD watches that fired. -/
def lineFires (ws : Vector Watch 4) (plu amount subtotal txn : Nat) :
    List (Fin 4) → Vector Watch 4 × List Notice × List Nat
  | [] => (ws, [], [])
  | i :: is =>
    match ws[i].lineValue plu amount subtotal with
    | none => lineFires ws plu amount subtotal txn is
    | some value =>
      let later := lineFires (ws.set i (firedWatch ws[i])) plu amount subtotal txn is
      (later.1, .watchFired (i.val + 1) ws[i].cond value (some txn) (saturate 65535 ws[i].fires) :: later.2.1,
        if ws[i].action = .hold then (i.val + 1) :: later.2.2 else later.2.2)

section Fires
variable (plu amount subtotal txn : Nat)

theorem evaluateLine_eq (is : List (Fin 4)) (s : State) :
    s.evaluateLine plu amount subtotal txn is =
      let fires := lineFires s.totals.watches plu amount subtotal txn is
      (officeHears fires.2.1 { s with totals := { s.totals with watches := fires.1 } }, fires.2.2) := by
  induction is generalizing s with
  | nil => rfl
  | cons i is ih =>
    cases hvalue : s.totals.watches[i].lineValue plu amount subtotal with
    | none => simp only [State.evaluateLine, lineFires, hvalue]; exact ih s
    | some value => simp only [State.evaluateLine, lineFires, hvalue, ih]; rfl

theorem lineFires_kind (is : List (Fin 4)) (ws : Vector Watch 4) :
    ∀ n ∈ (lineFires ws plu amount subtotal txn is).2.1, n.kind = .watchFired := by
  induction is generalizing ws with
  | nil => simp [lineFires]
  | cons i is ih =>
    unfold lineFires
    split
    · exact ih ws
    · intro n hn
      rcases List.mem_cons.1 hn with rfl | hn
      · rfl
      · exact ih _ n hn

theorem lineFires_length (is : List (Fin 4)) (ws : Vector Watch 4) :
    (lineFires ws plu amount subtotal txn is).2.1.length ≤ is.length := by
  induction is generalizing ws with
  | nil => simp [lineFires]
  | cons i is ih =>
    unfold lineFires
    split
    · exact (ih ws).trans (by simp)
    · simpa using ih _

/-- A watch that fires at a line and holds the transaction (R185). -/
def HoldsAt (w : Watch) : Prop := w.firesAt plu amount subtotal ∧ w.action = .hold

/-- A watch that fired still meets its condition. -/
theorem holdsAt_set {ws : Vector Watch 4} {i : Fin 4} (h : ws[i].firesAt plu amount subtotal) (j : Fin 4) :
    HoldsAt plu amount subtotal (ws.set i (firedWatch ws[i]))[j] ↔ HoldsAt plu amount subtotal ws[j] := by
  by_cases hj : j = i
  · subst hj
    rw [Fin.getElem_fin, Vector.getElem_set_self]
    exact ⟨fun hw => ⟨h, hw.2⟩, fun hw => ⟨⟨rfl, h.2⟩, hw.2⟩⟩
  · have : i.val ≠ j.val := fun h => hj (Fin.ext h.symm)
    rw [Fin.getElem_fin, Vector.getElem_set_ne _ _ this]; rfl

/-- A HOLD watch among some numbers fires at a line just where one is named (R185). -/
theorem lineFires_holds (is : List (Fin 4)) (ws : Vector Watch 4) :
    (lineFires ws plu amount subtotal txn is).2.2 ≠ [] ↔ ∃ i ∈ is, HoldsAt plu amount subtotal ws[i] := by
  induction is generalizing ws with
  | nil => simp [lineFires]
  | cons i is ih =>
    have hcons : (∃ j ∈ i :: is, HoldsAt plu amount subtotal ws[j]) ↔
        HoldsAt plu amount subtotal ws[i] ∨ ∃ j ∈ is, HoldsAt plu amount subtotal ws[j] :=
      List.exists_mem_cons_iff ..
    rw [hcons]
    cases hvalue : ws[i].lineValue plu amount subtotal with
    | none =>
      have hnot : ¬ws[i].firesAt plu amount subtotal := by rw [← lineValue_isSome, hvalue]; exact Bool.false_ne_true
      simp only [lineFires, hvalue, ih]
      exact ⟨.inr, fun h => h.resolve_left fun hw => hnot hw.1⟩
    | some value =>
      have hfires : ws[i].firesAt plu amount subtotal := by rw [← lineValue_isSome, hvalue]; rfl
      have hlater := ih (ws.set i (firedWatch ws[i]))
      simp only [holdsAt_set _ _ _ hfires] at hlater
      simp only [lineFires, hvalue]
      split_ifs with hhold
      · exact ⟨fun _ => .inl ⟨hfires, hhold⟩, fun _ => List.cons_ne_nil _ _⟩
      · rw [hlater]
        exact ⟨.inr, fun h => h.resolve_left fun hw => hhold hw.2⟩

end Fires

/-- The notices of a line's whole evaluation (R185). -/
def lineNotices (ws : Vector Watch 4) (plu amount subtotal txn : Nat) (c : ClerkNo) : List Notice :=
  let fires := lineFires ws plu amount subtotal txn watchNumbers
  fires.2.1 ++ if fires.2.2 = [] then [] else [.approvalNeeded txn c subtotal fires.2.2]

theorem lineWatches_eq (s : State) (plu amount subtotal txn : Nat) (c : ClerkNo) :
    s.lineWatches plu amount subtotal txn c =
      let fires := lineFires s.totals.watches plu amount subtotal txn watchNumbers
      (officeHears (lineNotices s.totals.watches plu amount subtotal txn c)
        { s with totals := { s.totals with watches := fires.1 } }, decide (fires.2.2 ≠ [])) := by
  unfold State.lineWatches lineNotices
  rw [evaluateLine_eq]
  dsimp only
  split_ifs with h
  · simp [h]
  · simp [h, officeHears_append]

theorem lineFires_asked {ws : Vector Watch 4} {plu amount subtotal txn : Nat} :
    (lineFires ws plu amount subtotal txn watchNumbers).2.2 ≠ [] ↔ ∃ j : Fin 4, HoldsAt plu amount subtotal ws[j] := by
  have hall (j : Fin 4) : j ∈ watchNumbers := by revert j; decide
  rw [lineFires_holds]
  exact ⟨fun ⟨j, _, h⟩ => ⟨j, h⟩, fun ⟨j, h⟩ => ⟨j, hall j, h⟩⟩

/-- Of the notices of a line none is a STOCK_LOW or a WEIGHT, and they are at most five. -/
theorem lineNotices_kind (ws : Vector Watch 4) (plu amount subtotal txn : Nat) (c : ClerkNo) :
    (∀ n ∈ lineNotices ws plu amount subtotal txn c, n.kind = .watchFired ∨ n.kind = .approvalNeeded) ∧
      (lineNotices ws plu amount subtotal txn c).length ≤ 5 := by
  have hlength := lineFires_length plu amount subtotal txn watchNumbers ws
  unfold lineNotices
  constructor
  · intro n hn
    rcases List.mem_append.1 hn with hn | hn
    · exact .inl (lineFires_kind _ _ _ _ _ _ n hn)
    · split_ifs at hn
      · cases hn
      · exact .inr (by rw [List.mem_singleton.1 hn]; rfl)
  · have : watchNumbers.length = 4 := rfl
    rw [List.length_append]
    split_ifs <;> simp only [List.length_nil, List.length_singleton] <;> omega

/-! ### The label of a line (R112) -/

theorem offerInOrder_eq (s : State) (job : Job) (os : List OutletId) :
    s.offerInOrder job os =
      (os.find? fun o => ((s.outletOf o).offer job).isSome).bind fun o =>
        ((s.outletOf o).offer job).map fun y => (s.setOutlet o y.1, o, y.2) := by
  induction os with
  | nil => rfl
  | cons o os ih =>
    unfold State.offerInOrder State.offer
    cases h : (s.outletOf o).offer job with
    | none => simp [h, ih]
    | some y => simp [h]

theorem labelAsked_iff {s : State} {p : Port} {choice : LabelChoice} :
    s.labelWanted p choice = true ↔ LabelAsked s p choice := by
  cases choice <;> cases p <;> simp [State.labelWanted, LabelAsked]

/-- A label that is asked for is offered to the port's outlets in order; the reference, the status and the outlets that
follow (R112). -/
def LabelFollows (s : State) (p : Port) (choice : LabelChoice) (job : Job) (label : Option (OutletId × Nat))
    (status : LabelStatus) (outlets : PerOutlet Outlet) : Prop :=
  (¬LabelAsked s p choice → label = none ∧ status = .notAsked ∧ outlets = s.outlets) ∧
  (LabelAsked s p choice →
    match labelTaker s p job with
    | none => label = none ∧ status = .notQueued ∧ outlets = s.outlets
    | some o => ∃ y id, (s.outletOf o).offer job = some (y, id) ∧ label = some (o, id) ∧ status = .queued o id ∧
      outlets = s.outlets.set o y)

theorem routeLabel_eq (s : State) (p : Port) (job : Job) :
    s.routeLabel p job = (labelTaker s p job).bind fun o =>
      ((s.outletOf o).offer job).map fun y => (s.setOutlet o y.1, o, y.2) := by
  unfold State.routeLabel labelTaker
  rw [offerInOrder_eq]
  cases p <;> rfl

theorem labelLine_cases (s : State) (r : Requester) (n : Nat) (l : Line) (f : PluFields) (item : PricedItem) (c : ClerkNo)
    (choice : LabelChoice) : ∃ label status outlets,
      LabelFollows s r.port choice (itemLabel s.pricing l.plu f item c (s.clerk c).name r.port) label status outlets ∧
      s.labelLine r n l f item c choice =
        (match label with
          | none => { s with outlets := outlets }
          | some label => { s with outlets := outlets }.mapTxn n (fun x => x.recordLabel l.index label), status) := by
  unfold State.labelLine
  split_ifs with hasked
  · have hasked := labelAsked_iff.1 hasked
    rw [routeLabel_eq]
    cases htaker : labelTaker s r.port (itemLabel s.pricing l.plu f item c (s.clerk c).name r.port) with
    | none => exact ⟨none, .notQueued, s.outlets, ⟨fun h => absurd hasked h, fun _ => by rw [htaker]; exact ⟨rfl, rfl, rfl⟩⟩, rfl⟩
    | some o =>
      have hsome : ((s.outletOf o).offer _).isSome = true := (List.find?_some htaker :)
      obtain ⟨y, hy⟩ := Option.isSome_iff_exists.1 hsome
      refine ⟨some (o, y.2), .queued o y.2, s.outlets.set o y.1, ⟨fun h => absurd hasked h, fun _ => ?_⟩, ?_⟩
      · rw [htaker]; exact ⟨y.1, y.2, hy, rfl, rfl, rfl⟩
      · simp only [Option.bind_some, hy, Option.map_some]; rfl
  · exact ⟨none, .notAsked, s.outlets, ⟨fun _ => ⟨rfl, rfl, rfl⟩, fun h => absurd (labelAsked_iff.2 h) hasked⟩, rfl⟩

/-! ### A line taken (R111) -/

/-- What the watches at a line of a transaction leave. -/
def firesAtLine (s : State) (x : Txn) (l : Line) : Vector Watch 4 × List Notice × List Nat :=
  lineFires s.totals.watches l.plu l.amount (x.subtotal + l.amount) x.number watchNumbers

/-- A HOLD watch holds a transaction at a line. -/
def heldAtLine (s : State) (x : Txn) (l : Line) : Bool := (firesAtLine s x l).2.2 ≠ []

/-- The state once a line has been taken into a clerk's OPEN transaction, but for the reply (R111). -/
def lineInHand (s : State) (c : ClerkNo) (x : Txn) (p : Port) (l : Line) (outlets : PerOutlet Outlet) : State := { s with
  link := (officeHears (lineNotices s.totals.watches l.plu l.amount (x.subtotal + l.amount) x.number c) s).link
  txn := ((s.setTxn (withLine x l p (heldAtLine s x l))).noteStation c p).txn
  outlets := outlets
  totals := { s.totals with watches := (firesAtLine s x l).1 }
  transit := { s.transit with
    consumptions := s.transit.consumptions ++ l.capture.toList
    ticketReports := s.transit.ticketReports ++
      if x.lines = [] then (x.ticket.map fun k => (k, TicketReport.bound .firstLine)).toList else [] } }

theorem lineInHand_clerk_same (s : State) (c : ClerkNo) (x : Txn) (p : Port) (l : Line) (outlets : PerOutlet Outlet) :
    (lineInHand s c x p l outlets).clerk c = { s.clerk c with lastStation := some p } :=
  setClerk_clerk_same s c { s.clerk c with lastStation := some p }

theorem recordLabel_withLine {x : Txn} (hx : x.Lawful) (l : Line) (p : Port) (hold : Bool)
    (label : OutletId × Nat) (hindex : l.index = x.lines.length + 1) :
    (withLine x l p hold).recordLabel l.index label = withLine x { l with label := some label } p hold := by
  have hbefore : ∀ y ∈ x.lines, decide (y.index = l.index) = false := fun y hy => by
    have hmem : y.index ∈ x.lines.map (·.index) := List.mem_map_of_mem hy
    rw [hx.indices] at hmem
    obtain ⟨k, hk, hky⟩ := List.mem_map.1 hmem
    have := List.mem_range.1 hk
    simp only [decide_eq_false_iff_not]
    omega
  simp only [Txn.recordLabel, withLine, updateFirst_of_split (f := fun y : Line => { y with label := some label }) hbefore
    (by simp : decide (l.index = l.index) = true)]

/-- The state in which an item finds its clerk's OPEN transaction: an opening first, where there is none (R111 step 1). -/
def openedFor (s : State) (c : ClerkNo) (target : Option Nat) (p : Port) : State :=
  if target.isSome then s else s.openTxn c none p

theorem withLine_eq (x : Txn) (l : Line) (p : Port) (hold : Bool) :
    (if hold then (x.addLine l p).hold else x.addLine l p) = withLine x l p hold := by
  unfold Txn.hold withLine
  cases hold
  · simp [Txn.addLine]
  · by_cases h : x.approval = .none <;> simp [Txn.addLine, h]

/-- The watches of a line taken into a transaction: the state they leave, and whether one holds it (R111 steps 2 to 4). -/
def watchedLine (s : State) (c : ClerkNo) (x : Txn) (p : Port) (l : Line) : State × Bool :=
  let t := (s.setTxn (x.addLine l p)).noteStation c p
  { t with transit := { t.transit with consumptions := t.transit.consumptions ++ l.capture.toList } }.lineWatches l.plu
    l.amount (x.subtotal + l.amount) x.number c

/-- The state of a line taken before its label is offered (R111 steps 1 to 5). -/
def unlabelledLine (s : State) (c : ClerkNo) (x : Txn) (p : Port) (l : Line) : State :=
  let t := (watchedLine s c x p l).1.setTxn (if (watchedLine s c x p l).2 then (x.addLine l p).hold else x.addLine l p)
  if x.lines = [] then t.reportTicket x.ticket (.bound .firstLine) else t

theorem watchedLine_eq (s : State) (c : ClerkNo) (x : Txn) (p : Port) (l : Line) :
    watchedLine s c x p l = ({ (s.setTxn (x.addLine l p)).noteStation c p with
      link := (officeHears (lineNotices s.totals.watches l.plu l.amount (x.subtotal + l.amount) x.number c) s).link
      totals := { s.totals with watches := (firesAtLine s x l).1 }
      transit := { s.transit with consumptions := s.transit.consumptions ++ l.capture.toList } }, heldAtLine s x l) := by
  unfold watchedLine
  dsimp only
  rw [lineWatches_eq]
  exact Prod.ext (officeHears_link _ s _ rfl) rfl

theorem unlabelledLine_eq (s : State) (c : ClerkNo) (x : Txn) (p : Port) (l : Line) :
    unlabelledLine s c x p l = lineInHand s c x p l s.outlets := by
  have hset : (s.setTxn (x.addLine l p)).setTxn (withLine x l p (heldAtLine s x l)) =
      s.setTxn (withLine x l p (heldAtLine s x l)) := setTxn_setTxn s rfl
  unfold unlabelledLine lineInHand
  dsimp only
  rw [watchedLine_eq, withLine_eq, ← hset]
  unfold State.reportTicket
  split_ifs with hlines
  · cases hticket : x.ticket
    · simp only [Option.map_none, Option.toList_none, List.append_nil]; rfl
    · rfl
  · simp only [List.append_nil]; rfl

theorem takeLine_of_openOf {s : State} {r : Requester} {c : ClerkNo} {target : Option Nat} {x : Txn} (plu : Nat)
    (f : PluFields) (item : PricedItem) (capture : Option (Platter × Nat)) (choice : LabelChoice)
    (hopen : (openedFor s c target r.port).openOf c = some x) :
    s.takeLine r c target plu f item capture choice =
      let u := openedFor s c target r.port
      let l := newLine (x.lines.length + 1) plu f item capture r.port
      let labelled := (unlabelledLine u c x r.port l).labelLine r x.number l f item c choice
      labelled.1.ok r (.lineAdded x.number l.index item.amount (x.subtotal + item.amount)
        (if (watchedLine u c x r.port l).2 then (x.addLine l r.port).hold else x.addLine l r.port).approval labelled.2) := by
  have hu : (if target.isSome = true then s else s.openTxn c none r.port) = openedFor s c target r.port := rfl
  have hnumber (b : Bool) (y : Txn) : (if b = true then y.hold else y).number = y.number := by
    unfold Txn.hold; split_ifs <;> rfl
  have hsubtotal (b : Bool) (y : Txn) : (if b = true then y.hold else y).subtotal = y.subtotal := by
    unfold Txn.hold; split_ifs <;> rfl
  unfold State.takeLine
  dsimp only
  rw [hu, hopen]
  dsimp only
  rw [hnumber, hsubtotal]
  rfl

/-- An item taken: the line joins the transaction, and the reply names it (R111). -/
theorem takeLine_eq {s : State} {r : Requester} {c : ClerkNo} {target : Option Nat} {x : Txn} (plu : Nat) (f : PluFields)
    (item : PricedItem) (capture : Option (Platter × Nat)) (choice : LabelChoice)
    (hopen : (openedFor s c target r.port).openOf c = some x) (hx : x.Lawful) :
    let u := openedFor s c target r.port
    ∃ label status outlets,
      let l := { newLine (x.lines.length + 1) plu f item capture r.port with label := label }
      LabelFollows u r.port choice (itemLabel u.pricing plu f item c (u.clerk c).name r.port) label status outlets ∧
      s.takeLine r c target plu f item capture choice = (lineInHand u c x r.port l outlets).ok r
        (.lineAdded x.number l.index item.amount (x.subtotal + item.amount)
          (withLine x l r.port (heldAtLine u x l)).approval status) := by
  intro u
  let l := newLine (x.lines.length + 1) plu f item capture r.port
  obtain ⟨label, status, outlets, hfollows, hlabel⟩ := labelLine_cases (lineInHand u c x r.port l u.outlets) r x.number l f
    item c choice
  have hname : ((lineInHand u c x r.port l u.outlets).clerk c).name = (u.clerk c).name := by
    rw [lineInHand_clerk_same]
  refine ⟨label, status, outlets, by rw [← hname]; exact hfollows, ?_⟩
  rw [takeLine_of_openOf plu f item capture choice hopen]
  dsimp only
  rw [unlabelledLine_eq, hlabel, watchedLine_eq, withLine_eq]
  cases label with
  | none => rfl
  | some label =>
    have hfind : ({ lineInHand u c x r.port l u.outlets with outlets := outlets } : State).findTxn x.number =
        some (withLine x l r.port (heldAtLine u x l)) := findTxn_setTxn_same u rfl
    have hset := setTxn_setTxn u (x := withLine x { l with label := some label } r.port (heldAtLine u x l))
      (y := withLine x l r.port (heldAtLine u x l)) rfl
    have hlabelled : ({ lineInHand u c x r.port l u.outlets with outlets := outlets } : State).mapTxn x.number
        (fun y => y.recordLabel l.index label) =
        lineInHand u c x r.port { l with label := some label } outlets := by
      have hheld : heldAtLine u x { l with label := some label } = heldAtLine u x l := rfl
      simp only [State.mapTxn, hfind, recordLabel_withLine hx l r.port _ label rfl]
      unfold lineInHand
      rw [hheld, ← hset]
      rfl
    exact congrArg (fun v => State.ok v r _) hlabelled

end Sys2Proof.Machine.Books

end

section
/-! PROOF. The commands of the PLU table and the captures on their way keep the laws of the transaction table and of the
PLU table (O8). -/

namespace Sys2Proof.Machine.Books

open PlatterOps PluTable Ordered

/-! ### Tests passed -/

section Tests
variable {α β : Type}

theorem bind_eq_ok {m : Except Result α} {f : α → Except Result β} {y : β} :
    (m >>= f) = .ok y ↔ ∃ a, m = .ok a ∧ f a = .ok y := by
  cases m with
  | error e => simp
  | ok a => simp

theorem require_eq_ok {b : Bool} {e : Result} {u : Unit} : require b e = .ok u ↔ b = true := by
  cases b <;> simp

theorem orRefuse_eq_ok {x : Option α} {e : Result} {a : α} : orRefuse x e = .ok a ↔ x = some a := by
  cases x <;> simp [orRefuse]

end Tests

theorem namedPlu_ok {n : Nat} {table : List PluRecord} {r : PluRecord} (h : namedPlu n table = .ok r) :
    findPlu n table = some r := by
  simp only [namedPlu, bind_eq_ok, require_eq_ok, orRefuse_eq_ok] at h
  obtain ⟨-, -, h⟩ := h
  exact h

theorem pluWriteTests_ok {n : Nat} {f : PluFields} {table : List PluRecord} {r : PluRecord} {replaced : Bool}
    (h : pluWriteTests n f table = .ok (r, replaced)) :
    (findPlu n table = none ∧ table.length < Config.pluRecords ∧ r = ⟨n, f, true, 0, none⟩) ∨
      ∃ old, findPlu n table = some old ∧ r = { old with fields := f } := by
  simp only [pluWriteTests, bind_eq_ok, require_eq_ok] at h
  obtain ⟨-, -, h⟩ := h
  cases hfind : findPlu n table with
  | none =>
    simp only [hfind, bind_eq_ok, require_eq_ok, pure_eq_ok, decide_eq_true_eq, Except.ok.injEq, Prod.mk.injEq] at h
    obtain ⟨-, hroom, rfl, -⟩ := h
    exact .inl ⟨rfl, hroom, rfl⟩
  | some old =>
    simp only [hfind, bind_eq_ok, require_eq_ok, pure_eq_ok, Except.ok.injEq, Prod.mk.injEq] at h
    obtain ⟨-, -, -, -, rfl, -⟩ := h
    exact .inr ⟨old, rfl, rfl⟩

/-- The account that STOCK LOAD sets keeps what is held (R78). -/
theorem stockLoadTests_ok {n q : Nat} {level : WatchLevel} {table : List PluRecord} {r : PluRecord} {a : Stock}
    (h : stockLoadTests n q level table = .ok (r, a)) :
    findPlu n table = some r ∧ a.remaining + a.held + a.sold = a.loaded ∧
      (r.stock = none ∧ r.openLines = 0 ∧ a.held = 0 ∨ ∃ b, r.stock = some b ∧ a.held = b.held) := by
  simp only [stockLoadTests, bind_eq_ok, require_eq_ok, orRefuse_eq_ok] at h
  obtain ⟨-, -, r', hfind, h⟩ := h
  cases hstock : r'.stock with
  | none =>
    simp only [hstock, bind_eq_ok, require_eq_ok, pure_eq_ok, decide_eq_true_eq, Except.ok.injEq, Prod.mk.injEq] at h
    obtain ⟨-, hopen, rfl, rfl⟩ := h
    exact ⟨hfind, rfl, .inl ⟨hstock, hopen, rfl⟩⟩
  | some b =>
    simp only [hstock, pure_eq_ok, Except.ok.injEq, Prod.mk.injEq] at h
    obtain ⟨rfl, rfl⟩ := h
    exact ⟨hfind, Nat.add_zero _, .inr ⟨b, hstock, rfl⟩⟩

/-! ### Outcomes that keep the laws -/

/-- Whatever state the outcome answers keeps the laws. -/
def KeepsLaws (s : State) (o : Outcome) : Prop := ∀ t, o = .next t → Sound s t

theorem keepsLaws_next {s u : State} (h : Sound s u) : KeepsLaws s (.next u) := by rintro _ ⟨⟩; exact h

theorem keepsLaws_done {s u : State} (h : Sound s u) : KeepsLaws s (done u) :=
  keepsLaws_next (h.trans (sound_of_books (transmitAll_books u)))

/-- A request keeps the laws when its effect does in the states it is taken in. -/
theorem keepsLaws_takeRequest_of {p : Port} {t : Tag} {c : Instr} {s : State} {effect : Requester → State → State}
    (P : State → Prop) (htaken : P (s.taken p t c)) (hdropped : P (s.takenDropped p t c))
    (h : ∀ r u, P u → Sound u (effect r u)) : KeepsLaws s (takeRequest p t c s effect) := by
  rcases takeRequest_cases p t c s effect with ⟨-, he⟩ | ⟨-, he⟩ | ⟨-, -, he⟩ <;> rw [he]
  · exact keepsLaws_done ((sound_of_books (taken_books s p t c)).trans (h _ _ htaken))
  · exact keepsLaws_done ((sound_of_books (takenDropped_books s p t c)).trans (h _ _ hdropped))
  · exact keepsLaws_next (.refl s)

/-- A request keeps the laws when its effect does. -/
theorem keepsLaws_takeRequest {p : Port} {t : Tag} {c : Instr} {s : State} {effect : Requester → State → State}
    (h : ∀ r u, Sound u (effect r u)) : KeepsLaws s (takeRequest p t c s effect) :=
  keepsLaws_takeRequest_of (fun _ => True) trivial trivial fun r u _ => h r u

theorem keepsLaws_of_keepsBooks {s : State} {o : Outcome} (h : KeepsBooks s o) : KeepsLaws s o :=
  fun t ht => sound_of_books (h t ht)

theorem Sound.ok {s t : State} (h : Sound s t) (r : Requester) (payload : Payload) : Sound s (t.ok r payload) :=
  h.trans (sound_of_books (ok_books t r payload))

theorem sound_refuse (s : State) (r : Requester) (e : Result) : Sound s (s.refuse r e) :=
  sound_of_books (refuse_books s r e)

theorem sound_of_rules {s t : State}
    (h : TableRules s → TableRules t ∧ (Stocked s.plus (uses s) → Stocked t.plus (uses t))) : Sound s t := fun hs =>
  have ht := h (tableLaw_iff.1 hs)
  ⟨tableLaw_iff.2 ht.1, fun hk => stockLaw_iff.2 (ht.2 (stockLaw_iff.1 hk))⟩

/-- The law of the transaction table sees that table alone. -/
theorem tableRules_of_txn {s t : State} (h : t.txn = s.txn) (hs : TableRules s) : TableRules t := by
  have ht : TableRules { t with plus := s.plus } := tableRules_of_books (by simp only [books, h]) hs
  exact ⟨ht.ascending, ht.lawful, ht.next, ht.parkedOnce, ht.parkedRoom, ht.parked, ht.openTxns, ht.closedRoom,
    ht.closedOnce, ht.apart, ht.flights⟩

/-- A change of the PLU table alone. -/
theorem sound_of_plus {s t : State} (ht : t.txn = s.txn)
    (hp : Stocked s.plus (uses s) → Stocked t.plus (uses s)) : Sound s t :=
  sound_of_rules fun hs => ⟨tableRules_of_txn ht hs, fun hk => by
    have : uses t = uses s := by simp only [uses, ht]
    exact this ▸ hp hk⟩

/-- The in-flight list replaced by one with one entry of each platter at most (R109). -/
theorem sound_of_flights {s t : State} {fs : List InFlight}
    (h : books t = books { s with txn := { s.txn with inFlight := fs } })
    (hfs : (s.txn.inFlight.Pairwise fun x y => x.platter ≠ y.platter) → fs.Pairwise fun x y => x.platter ≠ y.platter) :
    Sound s t :=
  Sound.trans (sound_of_rules fun hs => ⟨hs.setFlights (hfs hs.flights), id⟩) (sound_of_books h)

/-! ### The maintenance of the PLU table (R73 to R79) -/

section Maintenance
variable (p : Port) (t : Tag) (n : Nat) (s : State)

/-- A record put back with what is held of it unchanged. -/
theorem sound_setRecord {r r' : PluRecord} (hr : findPlu n s.plus = some r) (hn : r'.number = r.number)
    (htally : ∀ qs, Tallies r qs → Tallies r' qs) : Sound s (s.setPlu r') :=
  sound_of_plus rfl fun hk => hk.setRecord hr (hn.trans (findPlu_number hr)) htally

theorem pluWrite_keepsLaws (f : PluFields) : KeepsLaws s (execPluWrite p t n f s) := by
  refine keepsLaws_takeRequest fun r u => ?_
  split
  · exact sound_refuse u r _
  · next entry replaced htests =>
    refine Sound.ok ?_ r _
    rcases pluWriteTests_ok htests with ⟨hnone, hroom, rfl⟩ | ⟨old, hold, rfl⟩
    · exact sound_of_plus rfl fun hk => hk.create hnone hroom ⟨rfl, by simp⟩
    · exact sound_setRecord n u hold rfl fun qs h => h

theorem pluDelete_keepsLaws : KeepsLaws s (execPluDelete p t n s) := by
  refine keepsLaws_takeRequest fun r u => ?_
  split
  · exact sound_refuse u r _
  · next entry hnamed =>
    split_ifs with hopen
    · refine Sound.ok (sound_of_plus ?_ fun hk => ?_) r _
      · rfl
      · exact hk.drop (namedPlu_ok hnamed) hopen
    · exact sound_refuse u r _

theorem pluWithdraw_keepsLaws : KeepsLaws s (execPluWithdraw p t n s) := by
  refine keepsLaws_takeRequest fun r u => ?_
  split
  · exact sound_refuse u r _
  · next entry hnamed =>
    refine Sound.ok ?_ r _
    exact sound_setRecord n u (namedPlu_ok hnamed) rfl fun qs h => h

theorem pluRestore_keepsLaws : KeepsLaws s (execPluRestore p t n s) := by
  refine keepsLaws_takeRequest fun r u => ?_
  split
  · exact sound_refuse u r _
  · next entry hnamed =>
    refine Sound.ok ?_ r _
    exact sound_setRecord n u (namedPlu_ok hnamed) rfl fun qs h => h

theorem stockLoad_keepsLaws (q : Nat) (level : WatchLevel) : KeepsLaws s (execStockLoad p t n q level s) := by
  refine keepsLaws_takeRequest fun r u => ?_
  split
  · exact sound_refuse u r _
  · next entry a htests =>
    obtain ⟨hfind, hsum, hheld⟩ := stockLoadTests_ok htests
    have htally (qs : List Nat) (h : Tallies entry qs) : Tallies (lowTested { entry with stock := some a }) qs := by
      refine ⟨h.1, fun b hb => ?_⟩
      obtain rfl : { a with lowNotified := a.lowNotified || a.watch.any fun level => a.remaining ≤ level } = b :=
        Option.some.inj hb
      refine ⟨hsum, ?_⟩
      rcases hheld with ⟨-, hopen, hzero⟩ | ⟨b, hb, heq⟩
      · obtain rfl : qs = [] := List.length_eq_zero_iff.1 (h.1.symm.trans hopen)
        exact hzero
      · exact heq.trans (h.2 b hb).2
    refine Sound.ok (sound_of_plus ?_ fun hk => ?_) r _
    · rcases lowTest_cases u { entry with stock := some a } with ⟨h, -⟩ | ⟨_, _, -, -, -, -, h⟩ <;> rw [h] <;> rfl
    · rw [lowTest_plus]
      exact hk.setRecord hfind (findPlu_number (r := entry) hfind) htally

theorem stockLoadNone_keepsLaws : KeepsLaws s (execStockLoadNone p t n s) := by
  refine keepsLaws_takeRequest fun r u => ?_
  split
  · exact sound_refuse u r _
  · next entry hnamed =>
    split
    · exact (Sound.refl u).ok r _
    · split_ifs
      · refine Sound.ok ?_ r _
        exact sound_setRecord n u (namedPlu_ok hnamed) rfl fun qs h => ⟨h.1, by simp⟩
      · exact sound_refuse u r _

end Maintenance

/-! ### Captures on their way (R109, R110, R115) -/

section Captures
variable (s : State)

theorem pairwise_of_takeFirst {test : InFlight → Bool} {fs rest : List InFlight} {e : InFlight}
    (h : takeFirst test fs = some (e, rest)) (hfs : fs.Pairwise fun x y => x.platter ≠ y.platter) :
    rest.Pairwise fun x y => x.platter ≠ y.platter := by
  obtain ⟨before, after, rfl, rfl, -⟩ := takeFirst_eq_some h
  exact hfs.sublist (List.sublist_append_iff.2 ⟨before, after, rfl, List.Sublist.refl _, List.sublist_cons_self e after⟩)

theorem sound_cancelPriceItem (r : Requester) : Sound s (s.cancelPriceItem r) := by
  unfold State.cancelPriceItem
  split
  · exact .refl s
  · next e rest h => exact sound_of_flights rfl (pairwise_of_takeFirst h)

theorem requestCancellation_keepsLaws (p : Port) (t : Tag) : KeepsLaws s (execRequestCancellation p t s) := by
  unfold execRequestCancellation
  split
  · exact keepsLaws_done (.refl s)
  · next x rest h =>
    dsimp only
    refine keepsLaws_done (Sound.trans (u := { s with transit := { s.transit with cancellations := rest } })
      (sound_of_books rfl) ?_)
    cases requestOwner x.request with
    | weighing w => exact sound_of_books (cancelAtChannel_books _ w _)
    | txn => exact sound_cancelPriceItem _ _
    | tickets => exact sound_of_books (cancelAtTickets_books _ _)
    | outlet o => exact sound_of_books (cancelAtOutlet_books _ o _)
    | link | plu | totals | clock => exact .refl _

theorem captureRefusalTaken_keepsLaws (w : Platter) : KeepsLaws s (execCaptureRefusalTaken w s) := by
  unfold execCaptureRefusalTaken
  split
  · exact keepsLaws_done (.refl s)
  · next m rest h =>
    dsimp only
    split
    · exact keepsLaws_done (sound_of_books rfl)
    · next e others he =>
      exact keepsLaws_done (sound_of_flights (by rw [refuse_books]; rfl) (pairwise_of_takeFirst he))

theorem priceItem_keepsLaws (p : Port) (t : Tag) (w : Platter) (plu clerk : Nat) (label : LabelChoice) :
    KeepsLaws s (execPriceItem p t w plu clerk label s) := by
  unfold execPriceItem
  split_ifs with houtstanding
  · exact keepsLaws_next (.refl s)
  refine keepsLaws_takeRequest_of (fun u => ¬u.captureOutstanding p w plu clerk = true) houtstanding houtstanding
    fun r u hu => ?_
  dsimp only
  split
  · exact sound_refuse u r _
  · next c htests =>
    split
    · exact sound_of_books ((refuse_books _ r _).trans rfl)
    · next hadmit =>
      have hadmit : (u.channel w).admitOperation u.sealHigh p .capture = .ok () := hadmit
      have hnone : ∀ e ∈ u.txn.inFlight, e.platter ≠ w := fun e he hw => hu (by
        simp only [State.captureOutstanding, htests, hadmit, Bool.and_eq_true, List.any_eq_true, decide_eq_true_eq]
        exact ⟨⟨⟨e, he, hw⟩, rfl⟩, rfl⟩)
      exact sound_of_flights rfl fun hfs =>
        List.pairwise_append.2 ⟨hfs, List.pairwise_singleton .., fun e he f hf => by
          rw [List.mem_singleton.1 hf]; exact hnone e he⟩

end Captures

end Sys2Proof.Machine.Books

end

section
/-! PROOF. An item taken keeps the laws: the opening, the line in hand, the stock reserved (O8). -/

namespace Sys2Proof.Machine.Books

open PlatterOps PluTable Ordered

/-! ### The transaction an item joins (R108, R111 step 1) -/

/-- The transaction an opening makes (R108). -/
def openedTxn (s : State) (c : ClerkNo) (k : Option TicketId) (p : Port) : Txn :=
  ⟨s.txn.takesNumber, c, k, .none, [], 0, 0, s.now, none, p⟩

/-- The transaction an item joins: the clerk's OPEN one, or the one opened for it. -/
def joinedTxn (s : State) (c : ClerkNo) (p : Port) : Txn := (s.openOf c).getD (openedTxn s c none p)

theorem targetLines_eq (s : State) (c : ClerkNo) (p : Port) :
    s.targetLines c = ((joinedTxn s c p).lines, (joinedTxn s c p).subtotal) := by
  unfold State.targetLines joinedTxn
  cases s.openOf c <;> rfl

/-- The transaction an item joins is found in the transaction table and the clock. -/
theorem joinedTxn_congr {s t : State} (htxn : t.txn = s.txn) (hclock : t.clock = s.clock) (c : ClerkNo) (p : Port) :
    joinedTxn t c p = joinedTxn s c p := by
  have hfind : t.findTxn = s.findTxn := by funext n; simp only [State.findTxn, htxn]
  simp only [joinedTxn, openedTxn, State.openOf, State.clerk, hfind, State.now, htxn, hclock]

section Opening
variable {s : State} {c : ClerkNo} {p : Port}

theorem openTxn_openOf (s : State) (c : ClerkNo) (k : Option TicketId) (p : Port) :
    (s.openTxn c k p).openOf c = some (openedTxn s c k p) := by
  have hclerk : ((s.openTxn c k p).clerk c).openTxn = some s.txn.takesNumber := by
    unfold State.openTxn; rw [setClerk_clerk_same]
  rw [State.openOf, hclerk]
  exact findTxn_setTxn_same s rfl

theorem openedFor_openOf (h : TableRules s) :
    (openedFor s c (s.clerk c).openTxn p).openOf c = some (joinedTxn s c p) := by
  unfold openedFor joinedTxn
  cases hopen : (s.clerk c).openTxn with
  | none =>
    rw [h.openOf_eq_none.2 hopen]
    exact openTxn_openOf s c none p
  | some n =>
    obtain ⟨x, hx, -⟩ := h.openOf_of_openTxn hopen
    simp [hx]

/-- An opening takes nothing: what the transactions hold stands. -/
theorem uses_openTxn_perm (h : TableRules s) (k : Option TicketId) : (uses (s.openTxn c k p)).Perm (uses s) := by
  have hperm := uses_setTxn_perm h (openedTxn s c k p)
  have hbeside : usesBeside s (openedTxn s c k p).number = uses s := uses_of_absent h.takesNumber.1
  rw [hbeside] at hperm
  exact hperm

theorem openedFor_rules (h : TableRules s) :
    TableRules (openedFor s c (s.clerk c).openTxn p) ∧ (uses (openedFor s c (s.clerk c).openTxn p)).Perm (uses s) ∧
      (openedFor s c (s.clerk c).openTxn p).plus = s.plus := by
  unfold openedFor
  cases hopen : (s.clerk c).openTxn with
  | none => exact ⟨h.open none p hopen, uses_openTxn_perm h none, rfl⟩
  | some n => exact ⟨h, .refl _, rfl⟩

end Opening

/-! ### A line in hand -/

/-- A lawful line taken into a clerk's OPEN transaction. -/
theorem lineInHand_rules {s : State} {c : ClerkNo} {x : Txn} {p : Port} {l : Line} {outlets : PerOutlet Outlet}
    (h : TableRules s) (hx : s.openOf c = some x) (hvoid : l.voided = false) (hindex : l.index = x.lines.length + 1)
    (hamount : l.amount ≤ Config.lineAmountMax) (hroom : x.lines.length < Config.linesPerTxn)
    (hlimit : x.subtotal + l.amount ≤ Config.subtotalMax) :
    TableRules (lineInHand s c x p l outlets) ∧
      (uses (lineInHand s c x p l outlets)).Perm ((l.plu, l.quantity) :: uses s) := by
  obtain ⟨hfind, -, -, -⟩ := h.openOf hx
  let y := withLine x l p (heldAtLine s x l)
  have hlawful : y.Lawful := withLine_lawful (h.lawful _ x hfind) hvoid hindex hamount hroom hlimit
  have hset : TableRules (s.setTxn y) := h.replace hfind rfl rfl rfl hlawful
  have hnoted : TableRules ((s.setTxn y).noteStation c p) := tableRules_of_books (noteStation_books _ c p) hset
  refine ⟨tableRules_of_txn (s := (s.setTxn y).noteStation c p) rfl hnoted, ?_⟩
  have hlines : txnUses y = txnUses x ++ [(l.plu, l.quantity)] := by
    simp [y, txnUses, withLine, unvoided, hvoid]
  have hy : (uses (s.setTxn y)).Perm (txnUses y ++ usesBeside s x.number) := uses_setTxn_perm h y
  have hold : (uses s).Perm (txnUses x ++ usesBeside s x.number) := uses_perm h hfind
  calc (uses (s.setTxn y)).Perm (txnUses x ++ [(l.plu, l.quantity)] ++ usesBeside s x.number) := hlines ▸ hy
    _ = (txnUses x ++ (l.plu, l.quantity) :: usesBeside s x.number) := by simp
    List.Perm _ ((l.plu, l.quantity) :: (txnUses x ++ usesBeside s x.number)) := List.perm_middle
    List.Perm _ _ := (hold.cons _).symm

/-! ### Items priced and taken (R110, R111, R114) -/

theorem priceQuantity_ok {set : PricingSettings} {business : Option Date} {today : Date} {f : PluFields} {q : Nat}
    {division : Option Nat} {tare : Option (Nat × TareSource)} {item : PricedItem}
    (h : priceQuantity set business today f q division tare = .ok item) :
    item.amount ≤ Config.lineAmountMax ∧ item.quantity = q ∧ item.kind = f.kind := by
  simp only [priceQuantity, bind_eq_ok, require_eq_ok, decide_eq_true_eq, pure_eq_ok, Except.ok.injEq] at h
  obtain ⟨-, hamount, rfl⟩ := h
  exact ⟨hamount, rfl, rfl⟩

theorem priceByWeight_ok {set : PricingSettings} {business : Option Date} {today : Date} {f : PluFields}
    {m : CaptureRecord} {item : PricedItem} (h : priceByWeight set business today f m = .ok item) :
    item.amount ≤ Config.lineAmountMax ∧ item.kind = f.kind := by
  obtain ⟨⟨tare, fine, net, division⟩, -, h⟩ := bind_eq_ok.1 h
  simp only [bind_eq_ok] at h
  obtain ⟨-, -, -, -, -, -, h⟩ := h
  obtain ⟨hamount, -, hkind⟩ := priceQuantity_ok h
  exact ⟨hamount, hkind⟩

theorem priceByCount_ok {set : PricingSettings} {business : Option Date} {today : Date} {f : PluFields} {q : Nat}
    {item : PricedItem} (h : priceByCount set business today f q = .ok item) :
    item.amount ≤ Config.lineAmountMax ∧ item.quantity = q ∧ item.kind = f.kind := by
  simp only [priceByCount, bind_eq_ok] at h
  obtain ⟨-, -, h⟩ := h
  exact priceQuantity_ok h

/-- The last tests before a line is taken, passed: room, the limit, and stock to reserve (R81, R110, R114). -/
theorem lineTests_ok {s : State} {c : ClerkNo} {plu : Nat} {item : PricedItem} {r : PluRecord} (p : Port)
    (h : s.lineTests c plu item = .ok r) :
    (joinedTxn s c p).lines.length < Config.linesPerTxn ∧
      (joinedTxn s c p).subtotal + item.amount ≤ Config.subtotalMax ∧
      findPlu plu s.plus = some r ∧ ∀ a, r.stock = some a → item.quantity ≤ a.remaining := by
  simp only [State.lineTests, targetLines_eq s c p, reserveTests, pricingRead, bind_eq_ok, require_eq_ok,
    orRefuse_eq_ok, decide_eq_true_eq, pure_eq_ok, Except.ok.injEq] at h
  obtain ⟨-, hroom, -, hlimit, _, ⟨r', hfind, -, -, -, -, rfl⟩, h⟩ := h
  cases hstock : r'.stock with
  | none =>
    simp only [hstock, Except.ok.injEq] at h
    subst h
    exact ⟨hroom, hlimit, hfind, by simp [hstock]⟩
  | some a =>
    simp only [hstock, bind_eq_ok, require_eq_ok, decide_eq_true_eq, Except.ok.injEq] at h
    obtain ⟨-, hquantity, rfl⟩ := h
    exact ⟨hroom, hlimit, hfind, fun b hb => by rw [← Option.some.inj (hstock.symm.trans hb)]; exact hquantity⟩

/-- A line taken into the transaction it joins, with room and below the limits. -/
theorem takeLine_rules {s : State} {r : Requester} {c : ClerkNo} (plu : Nat) (f : PluFields) {item : PricedItem}
    (capture : Option (Platter × Nat)) (choice : LabelChoice) (h : TableRules s)
    (hamount : item.amount ≤ Config.lineAmountMax) (hroom : (joinedTxn s c r.port).lines.length < Config.linesPerTxn)
    (hlimit : (joinedTxn s c r.port).subtotal + item.amount ≤ Config.subtotalMax) :
    ∃ u, s.takeLine r c (s.clerk c).openTxn plu f item capture choice = u ∧
      TableRules u ∧ (uses u).Perm ((plu, item.quantity) :: uses s) ∧ u.plus = s.plus := by
  obtain ⟨hu, huses, hplus⟩ := openedFor_rules (c := c) (p := r.port) h
  have hjoined : (openedFor s c (s.clerk c).openTxn r.port).openOf c = some (joinedTxn s c r.port) := openedFor_openOf h
  have hlawful : (joinedTxn s c r.port).Lawful := hu.lawful _ _ (hu.openOf hjoined).1
  obtain ⟨label, status, outlets, -, htake⟩ := takeLine_eq plu f item capture choice hjoined hlawful
  obtain ⟨hline, hlineUses⟩ := lineInHand_rules (outlets := outlets)
    (l := { newLine ((joinedTxn s c r.port).lines.length + 1) plu f item capture r.port with label := label })
    hu hjoined rfl rfl hamount hroom hlimit
  refine ⟨_, htake, tableRules_of_books (ok_books _ r _) hline, ?_, ?_⟩
  · rw [uses_of_books (ok_books _ r _)]
    exact hlineUses.trans (huses.cons _)
  · exact (Prod.mk.inj (ok_books _ r _)).1.trans hplus

/-- An item that passed its tests, taken: the stock reserved is that of the line in hand (R81, R111). -/
theorem takeLine_sound {s : State} {r : Requester} {c : ClerkNo} {plu : Nat} {item : PricedItem}
    {record : PluRecord} (f : PluFields) (capture : Option (Platter × Nat)) (choice : LabelChoice)
    (htests : s.lineTests c plu item = .ok record) (hamount : item.amount ≤ Config.lineAmountMax) :
    Sound s ((s.reserve record item.quantity).takeLine r c (s.clerk c).openTxn plu f item capture choice) := by
  refine sound_of_rules fun hs => ?_
  obtain ⟨hroom, hlimit, hfind, hstock⟩ := lineTests_ok r.port htests
  obtain ⟨link, hreserve⟩ := reserve_eq s record item.quantity
  have hv : TableRules (s.reserve record item.quantity) := tableRules_of_txn (reserve_txn ..) hs
  have hjoined : joinedTxn (s.reserve record item.quantity) c r.port = joinedTxn s c r.port :=
    joinedTxn_congr (reserve_txn ..) (by rw [hreserve]) c r.port
  have hclerk : (s.reserve record item.quantity).clerk c = s.clerk c := by simp only [State.clerk, reserve_txn]
  have huses : uses (s.reserve record item.quantity) = uses s := by simp only [uses, reserve_txn]
  rw [← hjoined] at hroom hlimit
  obtain ⟨u, htake, hrules, hperm, hplus⟩ := takeLine_rules plu f capture choice hv hamount hroom hlimit
  rw [← hclerk, htake]
  exact ⟨hrules, fun hk => hplus ▸ ((huses ▸ hk.reserve hfind hstock).perm hperm.symm)⟩

/-! ### CAPTURE_TAKEN and ADD COUNT ITEM -/

theorem captureTests_ok {s : State} {e : InFlight} {m : CaptureRecord} {read reserved : PluRecord} {item : PricedItem}
    (h : s.captureTests e m = .ok (read, item, reserved)) :
    (s.clerk e.clerk).openTxn = e.target ∧ s.lineTests e.clerk e.plu item = .ok reserved ∧
      item.amount ≤ Config.lineAmountMax := by
  simp only [State.captureTests, bind_eq_ok, require_eq_ok, decide_eq_true_eq, pure_eq_ok, Except.ok.injEq,
    Prod.mk.injEq] at h
  obtain ⟨-, -, -, -, read', -, item', hitem, -, htarget, reserved', htests, rfl, rfl, rfl⟩ := h
  exact ⟨htarget, htests, (priceByWeight_ok hitem).1⟩

theorem countTests_ok {s : State} {plu q clerk : Nat} {c : ClerkNo} {read reserved : PluRecord} {item : PricedItem}
    (h : s.countTests plu q clerk = .ok (c, read, item, reserved)) :
    s.lineTests c plu item = .ok reserved ∧ item.amount ≤ Config.lineAmountMax := by
  simp only [State.countTests, bind_eq_ok, pure_eq_ok, Except.ok.injEq, Prod.mk.injEq] at h
  obtain ⟨-, -, c', -, -, -, read', -, item', hitem, reserved', htests, rfl, rfl, rfl, rfl⟩ := h
  exact ⟨htests, (priceByCount_ok hitem).1⟩

theorem captureTaken_keepsLaws (s : State) (w : Platter) : KeepsLaws s (execCaptureTaken w s) := by
  unfold execCaptureTaken
  split
  · exact keepsLaws_done (.refl s)
  · next m rest h =>
    dsimp only
    split
    · exact keepsLaws_done (sound_of_books rfl)
    · next e others he =>
      have hflights : Sound s { s with
          txn := { s.txn with inFlight := others }, transit := { s.transit with captures := rest } } :=
        sound_of_flights rfl (pairwise_of_takeFirst he)
      split
      · exact keepsLaws_done (hflights.trans (sound_refuse _ _ _))
      · next read item reserved htests =>
        obtain ⟨htarget, hline, hamount⟩ := captureTests_ok htests
        rw [← htarget]
        exact keepsLaws_done (hflights.trans (takeLine_sound _ _ _ hline hamount))

theorem addCountItem_keepsLaws (s : State) (p : Port) (t : Tag) (plu q clerk : Nat) (label : LabelChoice) :
    KeepsLaws s (execAddCountItem p t plu q clerk label s) := by
  refine keepsLaws_takeRequest fun r u => ?_
  split
  · exact sound_refuse u r _
  · next c read item reserved htests =>
    obtain ⟨hline, hamount⟩ := countTests_ok htests
    exact takeLine_sound _ _ _ hline hamount

end Sys2Proof.Machine.Books

end

section
/-! PROOF. The commands that change a transaction in hand, close it, void it or take it away, the day's ends and the starts
keep the laws; with them every step does (O8). -/

namespace Sys2Proof.Machine.Books

open PlatterOps PluTable Ordered

/-! ### What follows a lawful state -/

/-- `t` obeys the law of the transaction table, and counts its stock where `s` does. -/
structure Follows (s t : State) : Prop where
  rules : TableRules t
  stock : Stocked s.plus (uses s) → Stocked t.plus (uses t)

theorem Follows.trans {s u t : State} (h : Follows s u) (h' : Follows u t) : Follows s t :=
  ⟨h'.rules, fun hs => h'.stock (h.stock hs)⟩

theorem Follows.books {s u t : State} (h : Follows s u) (hb : books t = books u) : Follows s t :=
  ⟨tableRules_of_books hb h.rules, fun hs => (Prod.mk.inj hb).1 ▸ uses_of_books hb ▸ h.stock hs⟩

theorem sound_of_follows {s t : State} (h : TableRules s → Follows s t) : Sound s t :=
  sound_of_rules fun hs => ⟨(h hs).rules, (h hs).stock⟩

/-- A table that holds what it held, and the same stock. -/
theorem follows_of_perm {s t : State} (ht : TableRules t) (hplus : t.plus = s.plus) (huses : (uses t).Perm (uses s)) :
    Follows s t := ⟨ht, fun hs => hplus ▸ hs.perm huses.symm⟩

/-- A transaction replaced by one whose lines hold the same. -/
theorem uses_setTxn_same {s : State} {x y : Txn} (h : TableRules s) (hx : s.findTxn y.number = some x)
    (huses : txnUses y = txnUses x) : (uses (s.setTxn y)).Perm (uses s) :=
  (uses_setTxn_perm h y).trans (huses ▸ (uses_perm h hx).symm)

theorem lawful_of_eq {x y : Txn} (h : x.Lawful) (hlines : y.lines = x.lines) (hsubtotal : y.subtotal = x.subtotal)
    (hitems : y.itemCount = x.itemCount) : y.Lawful := by
  obtain ⟨h1, h2, h3, h4, h5, h6⟩ := h
  exact ⟨by rw [hsubtotal, hlines, h1], by rw [hsubtotal]; exact h2, by rw [hlines]; exact h3, by rw [hitems, hlines, h4],
    by rw [hlines]; exact h5, by rw [hlines]; exact h6⟩

/-! ### One line voided (R116) -/

/-- A transaction once a line of it is voided gives up just what that line held. -/
theorem txnUses_voidLine {x : Txn} {before after : List Line} {l m : Line} (h : x.Lawful)
    (hl : x.lines = before ++ m :: after) (hbare : bareLine m = bareLine l) (hvoid : m.voided = false) :
    (txnUses x).Perm ((l.plu, l.quantity) :: txnUses (x.voidLine l)) := by
  have hplu : m.plu = l.plu := congrArg (·.plu) hbare
  have hquantity : m.quantity = l.quantity := congrArg (·.quantity) hbare
  have hindex : m.index = l.index := congrArg (·.index) hbare
  rw [voidLine_of_split h hl hindex]
  have hnow : unvoided (before ++ { m with voided := true } :: after) = unvoided before ++ unvoided after := by
    simp [unvoided]
  have hwas : unvoided x.lines = unvoided before ++ m :: unvoided after := by simp [hl, unvoided, hvoid]
  simp only [txnUses, hnow, hwas, List.map_append, List.map_cons]
  rw [hplu, hquantity]
  exact List.perm_middle

section Void
variable {s : State} {n : Nat} {x : Txn} {before after : List Line} {l m : Line}

/-- A line of a held transaction voided and its stock returned. -/
theorem follows_voided {y : Txn} (h : TableRules s) (hx : s.findTxn n = some x) (hl : x.lines = before ++ m :: after)
    (hbare : bareLine m = bareLine l) (hvoid : m.voided = false) (hy : y = { x.voidLine l with lastStation := y.lastStation }) :
    Follows s ((s.setTxn y).returnStock l.plu l.quantity) := by
  have hlawful := h.lawful n x hx
  have hvoided : (x.voidLine l).Lawful := voidLine_lawful hlawful hl (congrArg (·.index) hbare)
    (congrArg (·.amount) hbare) hvoid
  have hnumber : y.number = n := by rw [hy]; exact findTxn_number (x := x) hx
  have hset : TableRules (s.setTxn y) := h.replace hx hnumber (by rw [hy]; rfl) (by rw [hy]; rfl)
    (lawful_of_eq hvoided (by rw [hy]) (by rw [hy]) (by rw [hy]))
  refine ⟨tableRules_of_txn (returnStock_txn ..) hset, fun hk => ?_⟩
  have huses : uses ((s.setTxn y).returnStock l.plu l.quantity) = uses (s.setTxn y) := by
    simp only [uses, returnStock_txn]
  have hyuses : txnUses y = txnUses (x.voidLine l) := by rw [hy]; rfl
  have hperm : (uses s).Perm ((l.plu, l.quantity) :: uses (s.setTxn y)) := by
    refine (uses_perm h hx).trans (((txnUses_voidLine hlawful hl hbare hvoid).append_right _).trans ?_)
    have := uses_setTxn_perm h y
    rw [hyuses, hnumber] at this
    exact (this.symm.cons _)
  rw [huses]
  exact Stocked.returnStock (s := s.setTxn y) (hk.perm hperm)

theorem voidOne_eq (hx : s.findTxn n = some x) (l : Line) :
    s.voidOne n l = ((s.setTxn (x.voidLine l)).returnStock l.plu l.quantity).cancelLabel l := by
  simp only [State.voidOne, State.mapTxn, hx]

/-- A held transaction's line voided as VOID TRANSACTION does. -/
theorem follows_voidOne (h : TableRules s) (hx : s.findTxn n = some x) (hl : x.lines = before ++ m :: after)
    (hbare : bareLine m = bareLine l) (hvoid : m.voided = false) :
    Follows s (s.voidOne n l) ∧ ∃ y, (s.voidOne n l).findTxn n = some y ∧ bareTxn y = bareTxn (x.voidLine l) := by
  rw [voidOne_eq hx]
  have hbooks := cancelLabel_books ((s.setTxn (x.voidLine l)).returnStock l.plu l.quantity) l
  refine ⟨(follows_voided h hx hl hbare hvoid rfl).books hbooks, exists_findTxn_of_books hbooks ?_⟩
  simp only [State.findTxn, returnStock_txn]
  exact findTxn_setTxn_same s (findTxn_number (x := x) hx)

/-- Lines of a held transaction voided in order, until none is left (R125 step 2). -/
theorem follows_voidLines {ls : List Line} (h : TableRules s) (hx : s.findTxn n = some x)
    (hls : (unvoided x.lines).map bareLine = ls.map bareLine) :
    Follows s (ls.foldl (fun s l => s.voidOne n l) s) ∧
      ∃ y, (ls.foldl (fun s l => s.voidOne n l) s).findTxn n = some y ∧ y.clerk = x.clerk ∧ unvoided y.lines = [] := by
  induction ls generalizing s x with
  | nil => exact ⟨⟨h, id⟩, x, hx, rfl, by simpa using hls⟩
  | cons l ls ih =>
    obtain ⟨m, rest, hm, hbare, hrest⟩ := List.map_eq_cons_iff.1 hls
    obtain ⟨before, after, hlines, hbefore, hvoid, rfl⟩ := List.filter_eq_cons_iff.1 hm
    have hvoid : m.voided = false := by simpa using hvoid
    have hvoided : ∀ y ∈ before, y.voided = true := by simpa using hbefore
    obtain ⟨hfollows, y, hy, hybare⟩ := follows_voidOne h hx hlines hbare hvoid
    have hyclerk : y.clerk = x.clerk := (congrArg (·.clerk) hybare :)
    have hyrest : (unvoided y.lines).map bareLine = ls.map bareLine := by
      have hylines : y.lines.map bareLine = (x.voidLine l).lines.map bareLine := (congrArg (·.lines) hybare :)
      have hgone : unvoided before = [] := by simpa [unvoided] using hvoided
      have hindex : m.index = l.index := congrArg (·.index) hbare
      rw [← unvoided_map_bareLine, hylines, unvoided_map_bareLine, voidLine_of_split (h.lawful n x hx) hlines hindex,
        ← hrest]
      have hnow : unvoided (before ++ { m with voided := true } :: after) = unvoided before ++ unvoided after := by
        simp [unvoided]
      rw [hnow, hgone]; rfl
    obtain ⟨hlater, z, hz, hzclerk, hzlines⟩ := ih hfollows.rules hy hyrest
    exact ⟨hfollows.trans hlater, z, hz, hzclerk.trans hyclerk, hzlines⟩

/-- A transaction without unvoided lines leaves the table (R122, R125 to R127). -/
theorem follows_removeTxn {y : Txn} (h : TableRules s) (hy : s.findTxn x.number = some y) (hclerk : y.clerk = x.clerk)
    (hlines : unvoided y.lines = []) : Follows s (s.removeTxn x) := by
  refine follows_of_perm (h.remove hy hclerk) ?_ ?_
  · exact removeTxn_plus s x
  · have hnone : txnUses y = [] := by simp [txnUses, hlines]
    have hperm := uses_perm h hy
    rw [hnone] at hperm
    rw [uses_removeTxn]
    exact hperm.symm

/-- A held transaction voided whole and taken away, whatever else is done in between (R125, R126). -/
theorem follows_voidAll {v : State} (h : TableRules s) (hx : s.findTxn x.number = some x)
    (hv : books v = books (s.voidAll x)) : Follows s (v.removeTxn x) := by
  obtain ⟨hfollows, y, hy, hclerk, hlines⟩ := follows_voidLines h hx rfl
  obtain ⟨z, hz, hzy⟩ := exists_findTxn_of_books hv hy
  have hzclerk : z.clerk = x.clerk := (congrArg (·.clerk) hzy :).trans hclerk
  have hzlines : unvoided z.lines = [] := by
    have hmap : z.lines.map bareLine = y.lines.map bareLine := (congrArg (·.lines) hzy :)
    have := congrArg unvoided hmap
    rw [unvoided_map_bareLine, unvoided_map_bareLine, hlines] at this
    simpa using this
  have hfollows : Follows s v := Follows.books hfollows hv
  exact hfollows.trans (follows_removeTxn hfollows.rules hz hzclerk hzlines)

end Void

/-! ### VOID LINE, PARK, RESUME, APPROVE (R116 to R120) -/

section Changes
variable (s : State) (p : Port) (t : Tag)

theorem voidLineTests_ok {s : State} {clerk index : Nat} {x : Txn} {l : Line}
    (h : s.voidLineTests clerk index = .ok (x, l)) :
    (∃ c, namedClerk clerk = .ok c ∧ s.openOf c = some x) ∧ l.voided = false ∧ ∃ before after,
      x.lines = before ++ l :: after := by
  simp only [State.voidLineTests, bind_eq_ok, require_eq_ok, orRefuse_eq_ok, pure_eq_ok, Except.ok.injEq,
    Prod.mk.injEq, Bool.not_eq_true'] at h
  obtain ⟨c, hc, x', hx, l', hl, -, hvoid, rfl, rfl⟩ := h
  obtain ⟨-, before, after, hlines, -⟩ := List.find?_eq_some_iff_append.1 hl
  exact ⟨⟨c, hc, hx⟩, hvoid, before, after, hlines⟩

theorem voidLine_keepsLaws (clerk index : Nat) : KeepsLaws s (execVoidLine p t clerk index s) := by
  refine keepsLaws_takeRequest fun r u => ?_
  split
  · exact sound_refuse u r _
  · next x l htests =>
    obtain ⟨⟨c, -, hx⟩, hvoid, before, after, hlines⟩ := voidLineTests_ok htests
    refine sound_of_follows fun hu => ?_
    refine (follows_voided (y := { x.voidLine l with lastStation := p }) hu (hu.openOf hx).1 hlines rfl hvoid rfl).books ?_
    rw [ok_books, cancelLabel_books, mapTotals_books]
    exact returnStock_books_congr (noteStation_books _ _ _) _ _

theorem park_keepsLaws (clerk : Nat) : KeepsLaws s (execPark p t clerk s) := by
  refine keepsLaws_takeRequest fun r u => ?_
  split
  · exact sound_refuse u r _
  · next x htests =>
    simp only [State.parkTests, bind_eq_ok, require_eq_ok, orRefuse_eq_ok, pure_eq_ok, Except.ok.injEq,
      decide_eq_true_eq] at htests
    obtain ⟨c, -, x', hx, -, hroom, rfl⟩ := htests
    refine sound_of_follows fun hu => ?_
    obtain ⟨hfind, hclerk, hpark, -⟩ := hu.openOf hx
    let y : Txn := { x' with parkedAt := some u.now, lastStation := p }
    let k : Clerk := { u.clerk x'.clerk with openTxn := none, lastStation := some p }
    let v : State := { u with txn := { (u.setTxn y).txn with
      parked := u.txn.parked ++ [x'.number], clerks := u.txn.clerks.set y.clerk k } }
    have hrules : TableRules v := hu.park (y := y) (k := k) hfind hpark hroom rfl rfl rfl
      (lawful_of_eq (hu.lawful _ _ hfind) rfl rfl rfl) rfl rfl
    have huses : (uses v).Perm (uses u) := uses_setTxn_same (y := y) hu hfind rfl
    have hfollows : Follows u v := follows_of_perm hrules rfl huses
    refine hfollows.books ?_
    rw [ok_books, reportTicket_books]
    rfl

theorem resumeFinds_some {s : State} {c : ClerkNo} {target : ResumeTarget} {x : Txn} (h : s.resumeFinds c target = some x) :
    s.findTxn x.number = some x ∧ x.clerk = c := by
  cases target with
  | number n =>
    simp only [State.resumeFinds] at h
    split at h
    · next y hy =>
      split_ifs at h with hmine
      obtain rfl := Option.some.inj h
      exact ⟨findTxn_number hy ▸ hy, hmine.2⟩
    · cases h
  | oldest =>
    simp only [State.resumeFinds] at h
    obtain ⟨n, -, hy⟩ := List.mem_filterMap.1 (List.mem_of_find?_eq_some h)
    exact ⟨findTxn_number hy ▸ hy, by simpa using List.find?_some h⟩

theorem resume_keepsLaws (clerk : Nat) (target : ResumeTarget) : KeepsLaws s (execResume p t clerk target s) := by
  refine keepsLaws_takeRequest fun r u => ?_
  split
  · exact sound_refuse u r _
  · next x htests =>
    simp only [State.resumeTests, bind_eq_ok, orRefuse_eq_ok] at htests
    obtain ⟨c, -, x', hx, htests⟩ := htests
    cases hopen : u.openOf c with
    | some y => simp only [hopen] at htests; split_ifs at htests
    | none =>
      simp only [hopen, pure_eq_ok, Except.ok.injEq] at htests
      subst htests
      refine sound_of_follows fun hu => ?_
      obtain ⟨hfind, hclerk⟩ := resumeFinds_some hx
      let y : Txn := { x' with parkedAt := none, lastStation := p }
      let k : Clerk := { u.clerk x'.clerk with openTxn := some x'.number, lastStation := some p }
      let v : State := { u with txn := { (u.setTxn y).txn with
        parked := u.txn.parked.filter (fun n => n ≠ x'.number), clerks := u.txn.clerks.set y.clerk k } }
      have hrules : TableRules v := hu.resume (y := y) (k := k) hfind (hclerk ▸ hu.openOf_eq_none.1 hopen) rfl rfl rfl
        (lawful_of_eq (hu.lawful _ _ hfind) rfl rfl rfl) rfl rfl
      have huses : (uses v).Perm (uses u) := uses_setTxn_same (y := y) hu hfind rfl
      have hfollows : Follows u v := follows_of_perm hrules rfl huses
      refine hfollows.books ?_
      rw [ok_books, reportTicket_books]
      rfl

theorem approve_keepsLaws (number : Nat) : KeepsLaws s (execApprove p t number s) := by
  refine keepsLaws_takeRequest fun r u => ?_
  split
  · exact sound_refuse u r _
  · next x htests =>
    simp only [State.approveTests, bind_eq_ok, require_eq_ok, orRefuse_eq_ok, pure_eq_ok, Except.ok.injEq] at htests
    obtain ⟨-, -, x', hx, -, -, rfl⟩ := htests
    refine sound_of_follows fun hu => ?_
    have hfind : u.findTxn x'.number = some x' := findTxn_number hx ▸ hx
    have hlawful := lawful_of_eq (y := { x' with approval := .granted }) (hu.lawful _ _ hx) rfl rfl rfl
    have hset : TableRules (u.setTxn { x' with approval := .granted }) := hu.replace hfind rfl rfl rfl hlawful
    have huses := uses_setTxn_same (y := { x' with approval := .granted }) hu hfind rfl
    have hfollows : Follows u (u.setTxn { x' with approval := .granted }) := follows_of_perm hset rfl huses
    exact hfollows.books (ok_books _ r _)

end Changes

/-! ### Closing and voiding (R121 to R126) -/

section Ends
variable (s : State) (p : Port) (t : Tag)

/-- A removal and a new entry of the closed list do not meet. -/
theorem addClosed_removeTxn (s : State) (x : Txn) (e : ClosedEntry) :
    (s.addClosed e).removeTxn x = (s.removeTxn x).addClosed e := by
  by_cases h : (s.clerk x.clerk).openTxn = some x.number
  · rw [removeTxn_of_open s h, removeTxn_of_open (s.addClosed e) h]; rfl
  · rw [removeTxn_of_not_open s h, removeTxn_of_not_open (s.addClosed e) h]; rfl

theorem clerkWatches_txn (s : State) (c : ClerkNo) : (s.clerkWatches c).txn = s.txn := by
  refine foldl_keeps (g := State.txn) (fun s i => ?_) watchNumbers s
  unfold State.clerkWatch
  dsimp only
  split
  · split <;> rfl
  all_goals rfl

theorem reportTicket_txn (s : State) (k : Option TicketId) (m : TicketReport) : (s.reportTicket k m).txn = s.txn := by
  cases k <;> rfl

/-- A transaction closed: its lines are sold, and it moves to the closed list (R122). -/
theorem closeSteps_follows {s : State} {x : Txn} (p : Port) (h : TableRules s) (hx : s.findTxn x.number = some x) :
    Follows s (s.closeSteps x p) := by
  let v := (s.mapTotals fun t => t.postClose x.clerk (unvoided x.lines)).clerkWatches x.clerk
  let w := ((unvoided x.lines).foldl (fun s l => s.sellStock l.plu l.quantity) v).reportTicket x.ticket (.outcome .sale)
  let e := closedEntry x (w.clerk x.clerk).name w.now p
  have hclose : s.closeSteps x p = ((w.addClosed e).removeTxn x).noteStation x.clerk p := rfl
  have hvtxn : v.txn = s.txn := clerkWatches_txn _ _
  have hvplus : v.plus = s.plus := (Prod.mk.inj (clerkWatches_books _ _)).1
  have hwtxn : w.txn = s.txn := by
    rw [reportTicket_txn, foldl_keeps (g := State.txn) (fun s (l : Line) => sellStock_txn s l.plu l.quantity), hvtxn]
  have hwplus : w.plus = ((unvoided x.lines).foldl (fun s l => s.sellStock l.plu l.quantity) v).plus :=
    (Prod.mk.inj (reportTicket_books _ _ _)).1
  have hw : TableRules w := tableRules_of_txn hwtxn h
  have hwx : w.findTxn x.number = some x := by simpa only [State.findTxn, hwtxn] using hx
  have hremoved : TableRules (w.removeTxn x) := hw.remove hwx rfl
  have hadded : TableRules ((w.removeTxn x).addClosed e) :=
    hremoved.addClosed (removeTxn_findTxn_same w x) fun d hd => by
      have hclosed : (w.removeTxn x).txn.closed = w.txn.closed := by rw [removeTxn_txn]
      exact hw.apart _ x hwx d (hclosed ▸ hd)
  have huses : uses (s.closeSteps x p) = usesBeside s x.number := by
    rw [hclose, uses_of_books (noteStation_books _ _ _), addClosed_removeTxn]
    calc uses ((w.removeTxn x).addClosed e) = uses (w.removeTxn x) := rfl
      _ = usesBeside w x.number := uses_removeTxn w x
      _ = usesBeside s x.number := by simp only [usesBeside, hwtxn]
  have hplus : (s.closeSteps x p).plus = w.plus := by
    rw [hclose, addClosed_removeTxn]
    exact removeTxn_plus w x
  refine ⟨?_, fun hk => ?_⟩
  · rw [hclose, addClosed_removeTxn]
    exact tableRules_of_books (noteStation_books _ _ _) hadded
  · rw [huses, hplus, hwplus]
    exact Stocked.sellAll (s := v) (hvplus ▸ hk.perm (uses_perm h hx))

theorem voidTests_ok {s : State} {name : TxnName} {x : Txn} (h : TableRules s) (hx : s.voidTests name = .ok x) :
    s.findTxn x.number = some x := by
  cases name with
  | byClerk n =>
    simp only [State.voidTests, bind_eq_ok, orRefuse_eq_ok] at hx
    obtain ⟨c, -, hx⟩ := hx
    exact (h.openOf hx).1
  | byNumber n =>
    simp only [State.voidTests, bind_eq_ok, orRefuse_eq_ok] at hx
    obtain ⟨-, -, hx⟩ := hx
    exact findTxn_number hx ▸ hx

theorem noteNamed_books (name : TxnName) (c : ClerkNo) : books (s.noteNamed name c p) = books s := by
  cases name
  · exact noteStation_books s c p
  · rfl

theorem voidTransaction_keepsLaws (name : TxnName) : KeepsLaws s (execVoidTransaction p t name s) := by
  refine keepsLaws_takeRequest fun r u => ?_
  split
  · exact sound_refuse u r _
  · next x htests =>
    refine sound_of_follows fun hu => ?_
    let v := ((u.voidAll x).mapTotals fun y => y.postVoid x.clerk x.subtotal).reportTicket x.ticket (.outcome .noSale)
    have hbooks : books v = books (u.voidAll x) := by simp only [v, reportTicket_books, mapTotals_books]
    refine (follows_voidAll hu (voidTests_ok hu htests) hbooks).books ?_
    rw [ok_books, noteNamed_books]

theorem closeLabel_eq {s v : State} {x : Txn} {label : Bool} {p : Port} {status : LabelStatus}
    (h : s.closeLabel x label p = .ok (v, status)) : ∃ outlets, v = { s with outlets := outlets } := by
  unfold State.closeLabel at h
  split at h
  · split at h
    · cases h
    · next hr =>
      cases h
      rw [routeLabel_eq] at hr
      obtain ⟨o, -, hr⟩ := Option.bind_eq_some_iff.1 hr
      obtain ⟨y, -, hr⟩ := Option.map_eq_some_iff.1 hr
      exact ⟨_, (Prod.mk.inj hr).1.symm⟩
  · cases h; exact ⟨s.outlets, rfl⟩

theorem closeTransaction_keepsLaws (clerk : Nat) (label : Bool) : KeepsLaws s (execCloseTransaction p t clerk label s) := by
  refine keepsLaws_takeRequest fun r u => ?_
  split
  · exact sound_refuse u r _
  · next x htests =>
    simp only [State.closeTests, bind_eq_ok, require_eq_ok, orRefuse_eq_ok, pure_eq_ok, Except.ok.injEq] at htests
    obtain ⟨c, -, x', hx, -, -, -, -, rfl⟩ := htests
    split
    · exact sound_refuse u r _
    · next v status hlabel =>
      obtain ⟨outlets, rfl⟩ := closeLabel_eq hlabel
      refine sound_of_follows fun hu => ?_
      have hfind := (hu.openOf hx).1
      have hv : TableRules { u with outlets := outlets } := tableRules_of_txn (s := u) rfl hu
      have hclose : Follows { u with outlets := outlets } _ := closeSteps_follows p hv hfind
      exact Follows.books ⟨hclose.rules, hclose.stock⟩ (ok_books _ r _)

theorem forceVoid_follows {s : State} (h : TableRules s) (n : Nat) : Follows s (s.forceVoid n) := by
  unfold State.forceVoid
  split
  · exact ⟨h, id⟩
  · next x hx =>
    refine follows_voidAll h (findTxn_number hx ▸ hx) ?_
    split <;> simp

theorem forceVoidAll_follows {s : State} (h : TableRules s) : Follows s s.forceVoidAll := by
  have hfold (ns : List Nat) (v : State) (hv : TableRules v) : Follows v (ns.foldl State.forceVoid v) := by
    induction ns generalizing v with
    | nil => exact ⟨hv, id⟩
    | cons n ns ih => exact (forceVoid_follows hv n).trans (ih _ (forceVoid_follows hv n).rules)
  exact hfold _ s h

/-! ### Orders of the ticket queue, the day, the starts (R127, R172 to R174, R193, R194) -/

theorem openBound_keepsLaws (k : TicketId) : KeepsLaws s (execOpenBound k s) := by
  unfold execOpenBound
  split
  · exact keepsLaws_done (.refl s)
  · next call rest h =>
    dsimp only
    split
    · exact keepsLaws_done (sound_of_books (by rw [refuse_books, enlist_books]; rfl))
    · next htests =>
      simp only [State.openingTest, bind_eq_ok, require_eq_ok] at htests
      obtain ⟨-, -, hnone⟩ := htests
      refine keepsLaws_done ((sound_of_books (mapQueue_books s fun q => { q with calls := rest })).trans
        (sound_of_follows fun hu => ?_))
      have hopened := hu.open (some k) call.port (Option.isNone_iff_eq_none.1 hnone)
      have hfollows : Follows (s.mapQueue fun q => { q with calls := rest }) _ :=
        follows_of_perm hopened rfl (uses_openTxn_perm hu (some k))
      refine hfollows.books ?_
      rw [ok_books, confirmCall_books, noteStation_books]

theorem discard_ok {s v : State} {n : Nat} {k : TicketId} (h : s.discard n k = .ok v) :
    ∃ x, s.findTxn n = some x ∧ x.lines = [] ∧ v = s.removeTxn x := by
  simp only [State.discard, bind_eq_ok, require_eq_ok, orRefuse_eq_ok, pure_eq_ok, Except.ok.injEq,
    List.isEmpty_iff] at h
  obtain ⟨x, hx, -, -, -, hlines, rfl⟩ := h
  exact ⟨x, hx, hlines, rfl⟩

theorem discard_keepsLaws (k : TicketId) : KeepsLaws s (execDiscard k s) := by
  unfold execDiscard
  split
  · exact keepsLaws_done (.refl s)
  · next m rest h =>
    dsimp only
    split
    · exact keepsLaws_done (sound_of_books (by rw [replyTo_books]; rfl))
    · next v hv =>
      obtain ⟨x, hx, hlines, rfl⟩ := discard_ok hv
      refine keepsLaws_done (Sound.trans (u := { s with transit := { s.transit with discards := rest } })
        (sound_of_books rfl) (sound_of_follows fun hu => ?_))
      have hfind : ({ s with transit := { s.transit with discards := rest } } : State).findTxn x.number = some x :=
        findTxn_number hx ▸ hx
      exact (follows_removeTxn hu hfind rfl (by simp [hlines, unvoided])).books (afterDiscard_books _ _)

theorem openDay_keepsLaws (date : Date) : KeepsLaws s (execOpenDay p t date s) := by
  refine keepsLaws_takeRequest fun r u => ?_
  split
  · exact sound_refuse u r _
  · refine sound_of_follows fun hu => ?_
    have hnext : Follows u { u with txn := { u.txn with nextNumber := 1 } } := ⟨hu.setNext (by decide), id⟩
    refine hnext.books ?_
    rw [ok_books, State.openDay]
    dsimp only
    rw [notifyAll_books]
    rfl

/-- A day sealed: the closed list is emptied (R174). -/
theorem sealDay_follows {s : State} (h : TableRules s) (mode : CloseMode) (d : OpenDay) : Follows s (s.sealDay mode d) := by
  have hempty : Follows s { s with txn := { s.txn with closed := [] } } := ⟨h.emptyClosed, id⟩
  refine hempty.books ?_
  unfold State.sealDay
  dsimp only
  rw [notifyAll_books]
  rfl

theorem clearCounter_follows {s : State} (h : TableRules s) (mode : CloseMode) : Follows s (s.clearCounter mode) := by
  have hsettled : Follows s s.settleTickets := Follows.books ⟨h, id⟩ (settleTickets_books s)
  unfold State.clearCounter
  cases mode with
  | force => exact (hsettled.trans (forceVoidAll_follows hsettled.rules)).books (endDay_books _)
  | normal => exact hsettled.books (endDay_books _)

theorem closeDay_keepsLaws (mode : CloseMode) : KeepsLaws s (execCloseDay p t mode s) := by
  unfold execCloseDay
  split_ifs
  · refine keepsLaws_takeRequest fun r u => ?_
    split
    · exact sound_refuse u r _
    · next d htests =>
      refine sound_of_follows fun hu => ?_
      have hcleared := clearCounter_follows hu mode
      exact (hcleared.trans (sealDay_follows hcleared.rules mode d)).books (ok_books _ r _)
  · exact keepsLaws_next (.refl s)

theorem warmStart_sound (kind : StartKind) (lv : Levels) : Sound s (s.warmStart kind lv) := by
  have hheld (x : Txn) : bareTxn { x with lines := x.lines.map fun l => { l with label := none } } = bareTxn x := by
    simp [bareTxn, Function.comp_def, bareLine]
  refine (sound_of_books (settleUnits_books s)).trans (sound_of_flights (fs := []) ?_ fun _ => List.Pairwise.nil)
  simp only [State.warmStart, TxnTable.warm, books, bareTable, List.map_map, Function.comp_def, hheld]

/-- A cold start leaves empty tables (R193). -/
theorem coldStart_sound (lv : Levels) : Sound s (s.coldStart lv) := by
  refine sound_of_follows fun _ => ⟨?_, fun _ => ?_⟩
  · have hnone (n : Nat) : (s.coldStart lv).findTxn n = none := rfl
    have hopen (c : ClerkNo) : ((s.coldStart lv).clerk c).openTxn = none := by
      simp [State.clerk, State.coldStart, TxnTable.cold, Clerk.cold]
    refine ⟨List.Pairwise.nil, by simp [hnone], ⟨Nat.le_refl 1, (by decide : 1 ≤ 9999)⟩, List.nodup_nil, Nat.zero_le _, fun n => ?_, fun c n => ?_,
      Nat.zero_le _, List.Pairwise.nil, by simp [hnone], List.Pairwise.nil⟩
    · have hparked : (s.coldStart lv).txn.parked = [] := rfl
      simp [hnone, hparked]
    · simp [hnone, hopen]
  · exact ⟨List.Pairwise.nil, Nat.zero_le _, by simp [State.coldStart], by simp [uses, State.coldStart, TxnTable.cold]⟩

theorem powerUp_keepsLaws (good : Bool) (lv : Levels) : KeepsLaws s (execPowerUp good lv s) := by
  refine keepsLaws_done ?_
  split_ifs
  · exact warmStart_sound s .warm lv
  · exact coldStart_sound s lv

theorem restartEffects_keepsLaws (lv : Levels) : KeepsLaws s (execRestartEffects lv s) := by
  unfold execRestartEffects
  split_ifs
  · exact keepsLaws_done (warmStart_sound s .restart lv)
  · exact keepsLaws_done (.refl s)

end Ends

/-! ### Every command, every step -/

theorem exec_keepsLaws (s : State) (c : Instr) : KeepsLaws s (exec c s) := by
  cases hc : changesBooks c with
  | false => exact keepsLaws_of_keepsBooks (exec_keepsBooks s c hc)
  | true =>
    cases c
    case requestCancellation p t => exact requestCancellation_keepsLaws s p t
    case pluWrite p t n f => exact pluWrite_keepsLaws p t n s f
    case pluDelete p t n => exact pluDelete_keepsLaws p t n s
    case pluWithdraw p t n => exact pluWithdraw_keepsLaws p t n s
    case pluRestore p t n => exact pluRestore_keepsLaws p t n s
    case stockLoad p t n q level => exact stockLoad_keepsLaws p t n s q level
    case stockLoadNone p t n => exact stockLoadNone_keepsLaws p t n s
    case priceItem p t w plu clerk label => exact priceItem_keepsLaws s p t w plu clerk label
    case captureTaken w => exact captureTaken_keepsLaws s w
    case captureRefusalTaken w => exact captureRefusalTaken_keepsLaws s w
    case addCountItem p t plu q clerk label => exact addCountItem_keepsLaws s p t plu q clerk label
    case voidLine p t clerk index => exact voidLine_keepsLaws s p t clerk index
    case park p t clerk => exact park_keepsLaws s p t clerk
    case resume p t clerk target => exact resume_keepsLaws s p t clerk target
    case approve p t number => exact approve_keepsLaws s p t number
    case closeTransaction p t clerk label => exact closeTransaction_keepsLaws s p t clerk label
    case voidTransaction p t name => exact voidTransaction_keepsLaws s p t name
    case openBound k => exact openBound_keepsLaws s k
    case discard k => exact discard_keepsLaws s k
    case openDay p t date => exact openDay_keepsLaws s p t date
    case closeDay p t mode => exact closeDay_keepsLaws s p t mode
    case powerUp good lv => exact powerUp_keepsLaws s good lv
    case restartEffects lv => exact restartEffects_keepsLaws s lv
    all_goals cases hc

theorem step_sound {s t : State} (h : step s = .next t) : Sound s t := by
  unfold step at h
  split at h
  · cases h; exact .refl s
  · next c rest _ => exact (sound_of_books (withPending_books s rest)).trans (exec_keepsLaws _ c t h)

/-- Settles O8: what a command leaves in the books obeys both laws, by a lemma for each command that changes them. -/
theorem stepsKeepTransactionLaws : Obligations.StepsKeepTransactionLaws :=
  ⟨fun _ _ hs h => (step_sound h hs).1, fun _ _ hs hk h => (step_sound h hs).2 hk⟩

end Sys2Proof.Machine.Books

end

section
/-! PROOF. The cancelling of an item label job, and VOID LINE (O36, O41). -/

namespace Sys2Proof.Machine.Books

open PlatterOps PluTable Ordered

/-! ### The order to cancel an item label job (R106, R159, R167) -/

/-- Notices touch the links alone. -/
theorem notifyAll_frame (s : State) (ps : List Port) (n : Notice) :
    ∃ link, s.notifyAll ps n = { s with link := link } := by
  induction ps generalizing s with
  | nil => exact ⟨s.link, rfl⟩
  | cons p ps ih =>
    obtain ⟨link, h⟩ := ih (s.notify p n)
    exact ⟨link, h⟩

/-- What an operation on one outlet does, in every state with that outlet and these outlet settings: the outlet changes
from `x` to `y`, the line that names a job may forget it, and a notice may go to some ports. -/
def OutletEffect (o : OutletId) (routing : PerStation OutletRouting) (x y : Outlet) (id : Nat) (f : State → State) :
    Prop :=
  ∃ (cleared : Bool) (ps : List Port) (n : Notice), ∀ s : State, s.outletOf o = x → s.txn.routing = routing →
    f s = ((if cleared then s.clearLabel o id else s).setOutlet o y).notifyAll ps n

/-- An outlet once a job has left its queue (R159, R160). -/
def leftOutlet (x : Outlet) (j : QueuedJob) (wasHead : Bool) : Outlet :=
  let x := { x with labelCount := if j.job.kind.isLabel then x.labelCount - 1 else x.labelCount }
  match x.jobs with
  | [] => { x with completed := 0, state := if x.state = .printing then .ready else x.state }
  | _ :: _ => if wasHead then x.pump else x

/-- An outlet once the order to cancel an item label job has reached it (R167). -/
def cancelledOutlet (x : Outlet) (id : Nat) : Outlet :=
  if x.jobs.any (fun j => j.id = id && j.job.kind = .item) then
    match x.jobs with
    | [] => x
    | head :: rest =>
      if head.id = id then
        if x.transfer then
          { x with jobs := { head with cancelWaiting := true, cancels := head.cancels ++ [] } :: rest }
        else
          let y := if head.started then x.abandonLines.abort else x.abandonLines
          leftOutlet { y with jobs := y.jobs.drop 1 } head true
      else
        match takeFirst (fun (j : QueuedJob) => j.id = id) rest with
        | none => x
        | some (j, rest) => leftOutlet { x with jobs := head :: rest } j false
  else x

section Effects
variable (o : OutletId) (routing : PerStation OutletRouting) (x : Outlet)

theorem outletEffect_none (id : Nat) : OutletEffect o routing x x id fun s => s := by
  refine ⟨false, [], .outletDrained o 0, fun s hx _ => ?_⟩
  have : s.setOutlet o x = s := by rw [← hx, State.setOutlet, State.outletOf, PerOutlet.set_get]
  exact this.symm

theorem outletEffect_set (y : Outlet) (id : Nat) : OutletEffect o routing x y id fun s => s.setOutlet o y :=
  ⟨false, [], .outletDrained o 0, fun _ _ _ => rfl⟩

/-- A job leaves its queue. -/
theorem jobLeft_effect {j : QueuedJob} {id : Nat} (hid : j.id = id) (wasHead : Bool) :
    OutletEffect o routing x (leftOutlet x j wasHead) id fun s => s.jobLeft o j wasHead := by
  subst hid
  let ports : List Port := .office :: (Station.all.filter fun st => (routing.get st).names o).map .station
  refine ⟨decide (j.job.kind = .item), if x.jobs = [] ∧ x.mode = .drain then ports else [],
    .outletDrained o x.completed, fun s hx hrouting => ?_⟩
  have hclear : (if decide (j.job.kind = .item) then s.clearLabel o j.id else s) =
      if j.job.kind = .item then s.clearLabel o j.id else s := by simp
  have hports (v : State) (y : Outlet) (hv : v = if j.job.kind = .item then s.clearLabel o j.id else s) :
      (v.setOutlet o y).outletPorts o = ports := by
    have : v.txn.routing = routing := by rw [hv, ← hrouting]; split_ifs <;> rfl
    simp only [ports, ← this]; rfl
  rw [hclear]
  unfold State.jobLeft leftOutlet
  dsimp only
  rw [hx]
  generalize hv : (if j.job.kind = .item then s.clearLabel o j.id else s) = v
  cases hjobs : x.jobs with
  | nil =>
    by_cases hmode : x.mode = .drain
    · simp only [hmode, hports v _ hv.symm, and_self, if_true]
    · simp only [hmode, and_false, if_false]; rfl
  | cons _ _ => simp only [reduceCtorEq, false_and, if_false]; rfl

/-- A job leaves the queue of an outlet just changed. -/
theorem jobLeft_setOutlet (y : Outlet) {j : QueuedJob} {id : Nat} (hid : j.id = id) (wasHead : Bool) :
    OutletEffect o routing x (leftOutlet y j wasHead) id fun s => (s.setOutlet o y).jobLeft o j wasHead := by
  obtain ⟨cleared, ps, n, h⟩ := jobLeft_effect o routing y hid wasHead
  refine ⟨cleared, ps, n, fun s _ hrouting => ?_⟩
  have hset (v : State) (z : Outlet) : (v.setOutlet o y).setOutlet o z = v.setOutlet o z := by
    simp only [State.setOutlet, PerOutlet.set_set]
  have hcleared : (if cleared then (s.setOutlet o y).clearLabel o id else s.setOutlet o y) =
      (if cleared then s.clearLabel o id else s).setOutlet o y := by split_ifs <;> rfl
  exact (h (s.setOutlet o y) (PerOutlet.get_set_same _ _ _) hrouting).trans (by rw [hcleared, hset])

theorem dropHead_setOutlet (y : Outlet) {j : QueuedJob} {id : Nat} (hid : j.id = id) :
    OutletEffect o routing x (leftOutlet { y with jobs := y.jobs.drop 1 } j true) id
      fun s => (s.setOutlet o y).dropHead o j := by
  obtain ⟨cleared, ps, n, h⟩ := jobLeft_setOutlet o routing x { y with jobs := y.jobs.drop 1 } hid true
  refine ⟨cleared, ps, n, fun s hx hrouting => (?_ : _ = _).trans (h s hx hrouting)⟩
  have houtlet : (s.setOutlet o y).outletOf o = y := PerOutlet.get_set_same ..
  simp only [State.dropHead, houtlet]
  simp only [State.setOutlet, PerOutlet.set_set]

/-- The transaction table's order to cancel an item label job. -/
theorem cancelOrder_effect (id : Nat) :
    OutletEffect o routing x (cancelledOutlet x id) id fun s => s.cancelOrder o id := by
  have hof {y : Outlet} {f g : State → State} (h : OutletEffect o routing x y id g)
      (hfg : ∀ s, s.outletOf o = x → f s = g s) : OutletEffect o routing x y id f := by
    obtain ⟨cleared, ps, n, h⟩ := h
    exact ⟨cleared, ps, n, fun s hx hrouting => (hfg s hx).trans (h s hx hrouting)⟩
  unfold cancelledOutlet State.cancelOrder State.cancelQueued
  dsimp only
  by_cases hitem : (x.jobs.any fun j => j.id = id && j.job.kind = .item) = true
  · rw [if_pos hitem]
    cases hjobs : x.jobs with
    | nil => simp [hjobs] at hitem
    | cons head rest =>
      dsimp only
      by_cases hhead : head.id = id
      · rw [if_pos hhead]
        by_cases htransfer : x.transfer = true
        · rw [if_pos htransfer]
          refine hof (outletEffect_set o routing x _ id) fun s hx => ?_
          rw [hx, if_pos hitem]
          simp only [hjobs, hhead, htransfer, if_true]
          rfl
        · rw [if_neg htransfer]
          refine hof (dropHead_setOutlet o routing x _ hhead) fun s hx => ?_
          rw [hx, if_pos hitem]
          simp only [hjobs, hhead, if_true]
          rw [if_neg htransfer]
          split_ifs <;> rfl
      · rw [if_neg hhead]
        cases hother : takeFirst (fun (j : QueuedJob) => j.id = id) rest with
        | none =>
          refine hof (outletEffect_none o routing x id) fun s hx => ?_
          rw [hx, if_pos hitem]
          simp only [hjobs, hhead, if_false, hother]
        | some found =>
          obtain ⟨j, others⟩ := found
          obtain ⟨-, -, -, -, hj, -⟩ := takeFirst_eq_some hother
          refine hof (jobLeft_setOutlet o routing x _ (by simpa using hj) false) fun s hx => ?_
          rw [hx, if_pos hitem]
          simp only [hjobs, hhead, if_false, hother]
          rfl
  · rw [if_neg hitem]
    exact hof (outletEffect_none o routing x id) fun s hx => by rw [hx, if_neg hitem]

end Effects

/-! ### A line's label cancelled (R116 step 4) -/

section CancelLabel
variable (s : State) (l : Line)

/-- The outlets once a line's label job has been cancelled. -/
def cancelledOutlets (l : Line) (outlets : PerOutlet Outlet) : PerOutlet Outlet :=
  match l.label with
  | none => outlets
  | some (o, id) => outlets.set o (cancelledOutlet (outlets.get o) id)

/-- The cancelling of a line's label touches the links, its outlet, and the line that named the job. -/
theorem cancelLabel_frame : ∃ txn link,
    s.cancelLabel l = { s with txn := txn, link := link, outlets := cancelledOutlets l s.outlets } ∧
      (txn = s.txn ∨ ∃ o id, l.label = some (o, id) ∧ txn = (s.clearLabel o id).txn) := by
  unfold State.cancelLabel cancelledOutlets
  cases hlabel : l.label with
  | none => exact ⟨s.txn, s.link, rfl, .inl rfl⟩
  | some found =>
    obtain ⟨o, id⟩ := found
    obtain ⟨cleared, ps, n, h⟩ := cancelOrder_effect o s.txn.routing (s.outletOf o) id
    obtain ⟨link, hlink⟩ := notifyAll_frame
      ((if cleared then s.clearLabel o id else s).setOutlet o (cancelledOutlet (s.outletOf o) id)) ps n
    have heffect : s.cancelOrder o id = _ := (h s rfl rfl).trans hlink
    cases cleared with
    | false => exact ⟨s.txn, link, heffect, .inl rfl⟩
    | true => exact ⟨_, link, heffect, .inr ⟨o, id, rfl, rfl⟩⟩

@[simp] theorem cancelLabel_slots (p : Port) : ((s.cancelLabel l).linkOf p).slots = (s.linkOf p).slots := by
  unfold State.cancelLabel
  split
  · rfl
  · next o id _ =>
    obtain ⟨cleared, ps, n, h⟩ := cancelOrder_effect o s.txn.routing (s.outletOf o) id
    have heffect : s.cancelOrder o id = _ := h s rfl rfl
    rw [heffect, State.notifyAll_slots]
    cases cleared <;> rfl

/-- The cancelling of a line's label does not meet the taking of a request. -/
theorem cancelLabel_taken (p : Port) (t : Tag) (c : Instr) :
    (s.taken p t c).cancelLabel l = (s.cancelLabel l).taken p t c := by
  unfold State.cancelLabel
  split
  · rfl
  · next o id _ =>
    obtain ⟨cleared, ps, n, h⟩ := cancelOrder_effect o s.txn.routing (s.outletOf o) id
    have heffect : s.cancelOrder o id = _ := h s rfl rfl
    have heffectTaken : (s.taken p t c).cancelOrder o id = _ := h (s.taken p t c) rfl rfl
    rw [heffect, heffectTaken, ← State.notifyAll_taken]
    cases cleared <;> rfl

theorem cancelLabel_transit : (s.cancelLabel l).transit = s.transit := by
  obtain ⟨txn, link, h, -⟩ := cancelLabel_frame s l
  rw [h]

end CancelLabel

/-! ### VOID LINE (R116) -/

theorem exec_voidLine (p : Port) (t : Tag) (clerk index : Nat) (s : State) :
    exec (.voidLine p t clerk index) s = execVoidLine p t clerk index s := rfl

/-- The change that a return makes to a PLU's record (R82). -/
theorem recordChanged_returnedTable (n q : Nat) (table : List PluRecord) :
    RecordChanged table (returnedTable n q table) n (fun r => { r with
      openLines := r.openLines - 1
      stock := r.stock.map fun a => { a with
        remaining := a.remaining + q
        held := a.held - q
        lowNotified := a.lowNotified && a.watch.all fun level => a.remaining + q ≤ level } }) := by
  have hback : (fun a : Stock => { a with
      remaining := a.remaining + q
      held := a.held - q
      lowNotified := a.lowNotified && a.watch.all fun level => a.remaining + q ≤ level }) = (·.giveBack q) := by
    funext a
    cases hw : a.watch <;> simp [Stock.giveBack, optional, hw]
  rw [hback]
  unfold returnedTable
  cases hfind : findPlu n table with
  | none => exact ⟨by rw [hfind]; rfl, fun _ _ => rfl⟩
  | some r => exact recordChanged_putPlu (returned q) hfind rfl

section VoidLine
variable {s : State} {p : Port} {t : Tag} {clerk index : Nat} {c : ClerkNo}

theorem voidLine_refuses {e : Result} (hw : Waiting s p t (.voidLine p t clerk index))
    (h : s.voidLineTests clerk index = .error e) : Refuses (.voidLine p t clerk index) p t s e := by
  have htaken : (s.taken p t (.voidLine p t clerk index)).voidLineTests clerk index = .error e := h
  exact refuses_takeRequest hw (exec_voidLine ..) (by simp only [htaken])

theorem voidLineTests_of_val (hc : clerk = c.val + 1) :
    s.voidLineTests clerk index = (do
      let x ← orRefuse (s.openOf c) .noSuch
      let l ← orRefuse (x.lines.find? (fun l => l.index = index)) .noSuch
      require (!l.voided) .noSuch
      return (x, l)) := by
  rw [State.voidLineTests, namedClerk_of_val hc, ok_bind]

/-- A line index that names no unvoided line of the transaction (R116). -/
theorem voidLineTests_noLine {x : Txn} (hc : clerk = c.val + 1) (hx : s.openOf c = some x)
    (h : ∀ l ∈ x.lines, l.index = index → l.voided = true) : s.voidLineTests clerk index = .error .noSuch := by
  rw [voidLineTests_of_val hc, hx]
  cases hfind : x.lines.find? fun l => l.index = index with
  | none => simp [orRefuse, hfind]
  | some l =>
    have hvoid := h l (List.mem_of_find?_eq_some hfind) (by simpa using List.find?_some hfind)
    simp [orRefuse, hfind, hvoid]

/-- The state that VOID LINE leaves, but for the label's job and the reply (R116). -/
def lineVoided (s : State) (p : Port) (c : ClerkNo) (y : Txn) (l : Line) : State :=
  { (s.setTxn y).noteStation c p with
    plus := returnedTable l.plu l.quantity s.plus, totals := s.totals.postLineVoid c }

theorem voidLine_answers {x : Txn} {before after : List Line} {l : Line} (hw : Waiting s p t (.voidLine p t clerk index))
    (h : TableRules s) (hc : clerk = c.val + 1) (hx : s.openOf c = some x) (hl : x.lines = before ++ l :: after)
    (hindex : l.index = index) (hvoid : l.voided = false) :
    let y := { x with
      lines := before ++ { l with voided := true } :: after
      subtotal := x.subtotal - l.amount
      itemCount := x.itemCount - 1
      lastStation := p }
    Answers (.voidLine p t clerk index) p t s .ok (.lineVoided (x.subtotal - l.amount) (x.itemCount - 1))
      ((lineVoided s p c y l).cancelLabel l) := by
  intro y
  obtain ⟨hfind, hclerk, -, -⟩ := h.openOf hx
  have hlawful := h.lawful _ x hfind
  have hlookup : x.lines.find? (fun l => l.index = index) = some l := by
    rw [hl]
    refine List.find?_eq_some_iff_append.2 ⟨by simpa using hindex, before, after, rfl, fun z hz => ?_⟩
    have := Lawful.index_ne hlawful hl z hz
    simpa [hindex] using this
  have htests : s.voidLineTests clerk index = .ok (x, l) := by
    rw [voidLineTests_of_val hc, hx]
    simp [orRefuse, hlookup, hvoid]
  have hy : { x.voidLine l with lastStation := p } = y := by rw [voidLine_of_split hlawful hl rfl]
  refine answers_takeRequest hw (exec_voidLine ..) ?_ ?_ ?_
  · rw [cancelLabel_slots]; rfl
  · rw [cancelLabel_transit]; rfl
  · have htaken : (s.taken p t (.voidLine p t clerk index)).voidLineTests clerk index = .ok (x, l) := htests
    simp only [htaken, hy, returnStock_eq, hclerk]
    rw [← cancelLabel_taken]
    rfl

end VoidLine

/-- Settles O36: the clerk, the clerk's OPEN transaction, the line, then the voiding of that line. -/
theorem voidLine : Obligations.VoidLine := by
  intro s p t clerk index i hw hlaw
  have h := tableLaw_iff.1 hlaw
  refine ⟨fun hout => voidLine_refuses hw ?_, fun c hc => ?_⟩
  · rw [State.voidLineTests, namedClerk_of_out hout, error_bind]
  cases hx : s.openOf c with
  | none => exact voidLine_refuses hw (by rw [voidLineTests_of_val hc, hx]; rfl)
  | some x =>
    refine ⟨fun hnone => voidLine_refuses hw (voidLineTests_noLine hc hx hnone), fun before l after hl hindex hvoid => ?_⟩
    refine ⟨returnedTable l.plu l.quantity s.plus, recordChanged_returnedTable _ _ _, ?_⟩
    exact voidLine_answers hw h hc hx hl hindex hvoid

end Sys2Proof.Machine.Books

end

section
/-! PROOF. What an item taken leaves (`ItemTaken`), and the notices and the reply it sends (O34, O35). -/

namespace Sys2Proof.Machine.Books

open PlatterOps PluTable Ordered

/-! ### Notices that stay in the office's outbox (R16) -/

theorem weightPlatter_of_kind {n : Notice} (h : n.kind = .stockLow ∨ n.kind = .watchFired ∨ n.kind = .approvalNeeded) :
    n.weightPlatter = none := by
  cases n <;> simp_all [Notice.kind, Notice.weightPlatter]

section Queue
variable {l : Link} {n m : Notice} {k : Nat}

theorem queueNotice_tx (k : Nat) (m : Notice) (l : Link) : (l.queueNotice k m).tx = l.tx := by
  rcases Link.queueNotice_cases k m l with ⟨h, -⟩ | ⟨-, -, -, h⟩ | ⟨-, -, -, h⟩ | ⟨-, -, -, h⟩ <;> rw [h]

/-- A notice joins the tail of the queue, and at most the head leaves it. -/
theorem queueNotice_notices (hm : m.weightPlatter = none) (hup : l.state = .up) (hk : l.threshold ≤ k) :
    (l.queueNotice k m).notices = l.notices ++ [m] ∨
      Config.noticeQueue ≤ l.notices.length ∧ (l.queueNotice k m).notices = l.notices.drop 1 ++ [m] := by
  rcases Link.queueNotice_cases k m l with ⟨-, h⟩ | ⟨-, -, h, -⟩ | ⟨-, -, -, h⟩ | ⟨-, -, hlong, h⟩
  · exact absurd h (by simp [hup, Nat.not_lt.2 hk])
  · rw [hm] at h; cases h
  · exact .inl (by rw [h])
  · exact .inr ⟨hlong, by rw [h]⟩

/-- A notice with fewer than fifteen behind it stays when another joins. -/
theorem queueNotice_keeps {pre post : List Notice} (hm : m.weightPlatter = none) (hl : l.notices = pre ++ n :: post)
    (hpost : post.length < 15) :
    ∃ pre' post', (l.queueNotice k m).notices = pre' ++ n :: post' ∧ post'.length ≤ post.length + 1 := by
  rcases Link.queueNotice_cases k m l with ⟨h, -⟩ | ⟨-, -, h, -⟩ | ⟨-, -, -, h⟩ | ⟨-, -, hlong, h⟩
  · exact ⟨pre, post, by rw [h, hl], Nat.le_succ _⟩
  · rw [hm] at h; cases h
  · exact ⟨pre, post ++ [m], by rw [h, hl]; simp, by simp⟩
  · cases pre with
    | nil =>
      rw [hl] at hlong
      simp only [List.nil_append, List.length_cons, Config.noticeQueue] at hlong
      omega
    | cons first pre => exact ⟨pre, post ++ [m], by rw [h, hl]; simp, by simp⟩

theorem mem_queueNotice (hm : m.weightPlatter = none) (h : n ∈ (l.queueNotice k m).outbox) : n ∈ l.outbox ∨ n = m := by
  rw [Link.outbox, queueNotice_tx] at h
  rcases List.mem_append.1 h with h | h
  · exact .inl (List.mem_append_left _ h)
  · have hsub : n ∈ l.notices ∨ n = m := by
      rcases Link.queueNotice_cases k m l with ⟨he, -⟩ | ⟨-, -, he, -⟩ | ⟨-, -, -, he⟩ | ⟨-, -, -, he⟩
      · exact .inl (he ▸ h)
      · rw [hm] at he; cases he
      · rw [he] at h; simpa using h
      · rw [he] at h
        rcases List.mem_append.1 h with h | h
        · exact .inl (List.mem_of_mem_drop h)
        · exact .inr (List.mem_singleton.1 h)
    exact hsub.imp_left (List.mem_append_right _)

end Queue

theorem notify_office (s : State) (m : Notice) :
    (s.notify .office m).linkOf .office = (s.linkOf .office).queueNotice (s.link.priorities.get m.kind) m :=
  State.linkOf_mapLink_same s .office _

theorem officeHears_keeps {ns : List Notice} {s : State} {n : Notice} {pre post : List Notice}
    (hns : ∀ m ∈ ns, m.weightPlatter = none) (hl : (s.linkOf .office).notices = pre ++ n :: post)
    (hlength : post.length + ns.length ≤ 15) : n ∈ ((officeHears ns s).linkOf .office).outbox := by
  induction ns generalizing s pre post with
  | nil => exact List.mem_append_right _ (by rw [officeHears_nil, hl]; simp)
  | cons m ns ih =>
    simp only [List.length_cons] at hlength
    obtain ⟨pre', post', hl', hpost⟩ := queueNotice_keeps (k := s.link.priorities.get m.kind) (hns m (by simp)) hl (by omega)
    rw [← notify_office] at hl'
    exact ih (fun x hx => hns x (by simp [hx])) hl' (by omega)

theorem mem_officeHears {ns : List Notice} {s : State} {n : Notice} (hns : ∀ m ∈ ns, m.weightPlatter = none)
    (h : n ∈ ((officeHears ns s).linkOf .office).outbox) : n ∈ (s.linkOf .office).outbox ∨ n ∈ ns := by
  induction ns generalizing s with
  | nil => exact .inl h
  | cons m ns ih =>
    rcases ih (fun x hx => hns x (by simp [hx])) h with hn | hn
    · rw [notify_office] at hn
      exact (mem_queueNotice (hns m (by simp)) hn).imp_right fun heq => by simp [heq]
    · exact .inr (by simp [hn])

theorem officeHears_slots (ns : List Notice) (s : State) (p : Port) :
    ((officeHears ns s).linkOf p).slots = (s.linkOf p).slots := by
  induction ns generalizing s with
  | nil => rfl
  | cons n ns ih => rw [officeHears_cons, ih, State.notify_slots]

/-! ### The reply of a request (R11) -/

theorem takeReply_outbox (l : Link) (r : Requester) (reply : Reply) : (l.takeReply r reply).outbox = l.outbox := by
  unfold Link.takeReply; split <;> rfl

theorem reply_outbox (s : State) (r : Requester) (e : Result) (payload : Payload) (q : Port) :
    ((s.reply r e payload).linkOf q).outbox = (s.linkOf q).outbox := by
  rcases s.reply_cases r e payload with h | h <;> rw [h]
  rw [State.linkOf_mapLink]
  split_ifs
  · exact takeReply_outbox _ _ _
  · rfl

theorem transmitAll_outbox (s : State) (q : Port) : (s.transmitAll.linkOf q).outbox = (s.linkOf q).outbox := by
  obtain ⟨-, -, h, -⟩ := (s.linkOf q).startTransmitter_sameTraffic
  rw [State.transmitAll_linkOf]; exact h

/-- A reply whose slot waits for it, its request not being cancelled, is on its way. -/
theorem replied_of_waits {s : State} {r : Requester} (e : Result) (payload : Payload)
    (hslot : (s.linkOf r.port).slots.any (Slot.waitsFor r) = true)
    (hc : s.transit.cancellations.any (Cancellation.names r) = false) :
    Replied (s.reply r e payload).transmitAll r e payload := by
  have hreply : s.reply r e payload = s.mapLink r.port fun l => l.takeReply r (s.replyNow r e payload) := by
    simp [State.reply, hc]
  obtain ⟨-, hreplies, -, -⟩ := ((s.reply r e payload).linkOf r.port).startTransmitter_sameTraffic
  unfold Replied
  rw [State.transmitAll_linkOf, hreplies, hreply, State.linkOf_mapLink_same]
  refine List.mem_append_right _ ?_
  simp only [Link.takeReply, hslot, if_true]
  exact List.mem_append_right _ (List.mem_singleton.2 rfl)

/-- A request just taken waits for its reply. -/
theorem taken_waits {s : State} {p : Port} {t : Tag} {c : Instr} (hw : Waiting s p t c) :
    ((s.taken p t c).linkOf p).slots.any (Slot.waitsFor ⟨p, t, requestCode c⟩) = true := by
  rw [State.taken, State.linkOf_mapLink_same]
  exact (slots_answered (p := p) t c _ (hw.1.1 p).tags (State.awaits_slot hw.2)).1

/-! ### STOCK_LOW (R84) -/

/-- An account that a reserve brings to its watch level for the first time. -/
def FallsLow (s : State) (plu q : Nat) (a : Stock) (level : Nat) : Prop :=
  (findPlu plu s.plus).bind (·.stock) = some a ∧ a.watch = some level ∧ a.remaining - q ≤ level ∧ a.lowNotified = false

/-- The office's outbox after a reserve and other notices: STOCK_LOW is there just where the account fell low. -/
theorem reserve_tells {s : State} {record : PluRecord} {plu q : Nat} {ns : List Notice}
    (hfind : findPlu plu s.plus = some record) (hns : ∀ m ∈ ns, m.kind = .watchFired ∨ m.kind = .approvalNeeded)
    (hlength : ns.length ≤ 5) :
    (∀ a level, FallsLow s plu q a level → s.hears .office .stockLow →
      .stockLow plu (a.remaining - q) (a.held + q) level ∈
        ((officeHears ns (s.reserve record q)).linkOf .office).outbox) ∧
    ((∀ a level, ¬FallsLow s plu q a level) →
      ∀ n ∈ ((officeHears ns (s.reserve record q)).linkOf .office).outbox, n.kind = .stockLow →
        n ∈ (s.linkOf .office).outbox) := by
  have hlight : ∀ m ∈ ns, m.weightPlatter = none := fun m hm => weightPlatter_of_kind (.inr (hns m hm))
  have hnumber : record.number = plu := findPlu_number hfind
  have hlow {a : Stock} {level : Nat} : FallsLow s plu q a level ↔ record.stock = some a ∧ a.watch = some level ∧
      a.remaining - q ≤ level ∧ a.lowNotified = false := by simp only [FallsLow, hfind, Option.bind_some]
  refine ⟨fun a level hfalls ⟨hup, hk⟩ => ?_, fun hnone n hn hkind => ?_⟩
  · obtain ⟨hstock, hwatch, hle, hflag⟩ := hlow.1 hfalls
    rcases reserve_cases s record q with ⟨-, h⟩ | ⟨b, level', hb, hw, -, -, h⟩
    · rw [h a level hstock hwatch hle] at hflag; cases hflag
    · obtain rfl : a = b := Option.some.inj (hstock.symm.trans hb)
      obtain rfl : level = level' := Option.some.inj (hwatch.symm.trans hw)
      rw [hnumber] at h
      have hjoined := queueNotice_notices (k := s.link.priorities.get .stockLow)
        (weightPlatter_of_kind (n := .stockLow plu (a.remaining - q) (a.held + q) level) (.inl rfl)) hup hk
      have hqueue : ∃ pre, ((s.reserve record q).linkOf .office).notices =
          pre ++ .stockLow plu (a.remaining - q) (a.held + q) level :: [] := by
        rw [h, notify_office]
        exact hjoined.elim (fun h => ⟨_, h⟩) fun h => ⟨_, h.2⟩
      obtain ⟨pre, hpre⟩ := hqueue
      exact officeHears_keeps hlight hpre (by simp only [List.length_nil]; omega)
  · have hnot : s.reserve record q = s.setPlu (reserved q record) := by
      rcases reserve_cases s record q with ⟨h, -⟩ | ⟨b, level, hb, hw, hle, hflag, -⟩
      · exact h
      · exact absurd (hlow.2 ⟨hb, hw, hle, hflag⟩) (hnone b level)
    rcases mem_officeHears hlight hn with hn | hn
    · rw [hnot] at hn; exact hn
    · rcases hns n hn with h | h <;> rw [h] at hkind <;> cases hkind

/-! ### The opening of a transaction for an item (R107, R108) -/

section Opened
variable {s : State} {c : ClerkNo} {p : Port}

theorem openedFor_frame (s : State) (c : ClerkNo) (target : Option Nat) (p : Port) : ∃ txn,
    openedFor s c target p = { s with txn := txn } ∧ txn.routing = s.txn.routing ∧ txn.closed = s.txn.closed ∧
      txn.parked = s.txn.parked ∧ txn.inFlight = s.txn.inFlight := by
  unfold openedFor
  split_ifs
  · exact ⟨s.txn, rfl, rfl, rfl, rfl, rfl⟩
  · exact ⟨_, rfl, rfl, rfl, rfl, rfl⟩

theorem joinedTxn_number (h : TableRules s) :
    (joinedTxn s c p).number = (s.clerk c).openTxn.getD s.txn.takesNumber := by
  unfold joinedTxn
  cases hopen : (s.clerk c).openTxn with
  | none => rw [h.openOf_eq_none.2 hopen]; rfl
  | some n =>
    obtain ⟨x, hx, rfl⟩ := h.openOf_of_openTxn hopen
    rw [hx]; rfl

theorem openedFor_clerk_same (h : TableRules s) : (openedFor s c (s.clerk c).openTxn p).clerk c =
    { s.clerk c with openTxn := some (joinedTxn s c p).number } := by
  rw [joinedTxn_number h]
  unfold openedFor
  cases hopen : (s.clerk c).openTxn with
  | none => exact setClerk_clerk_same _ c _
  | some n =>
    change s.clerk c = { s.clerk c with openTxn := some n }
    rw [← hopen]

theorem openedFor_clerk_of_ne {k : ClerkNo} (hk : k ≠ c) (target : Option Nat) :
    (openedFor s c target p).clerk k = s.clerk k := by
  unfold openedFor
  split_ifs
  · rfl
  · exact setClerk_clerk_of_ne _ hk _

theorem openedFor_findTxn_of_ne {n : Nat} (h : TableRules s) (hn : n ≠ (joinedTxn s c p).number) :
    (openedFor s c (s.clerk c).openTxn p).findTxn n = s.findTxn n := by
  rw [joinedTxn_number h] at hn
  unfold openedFor
  cases hopen : (s.clerk c).openTxn with
  | none =>
    rw [hopen] at hn
    exact findTxn_setTxn_of_ne s hn
  | some _ => rfl

theorem openedFor_next (h : TableRules s) : (openedFor s c (s.clerk c).openTxn p).txn.nextNumber =
    if (s.clerk c).openTxn = none then
      (if (joinedTxn s c p).number < 9999 then (joinedTxn s c p).number + 1 else 1)
    else s.txn.nextNumber := by
  rw [joinedTxn_number h]
  unfold openedFor
  cases (s.clerk c).openTxn with
  | none =>
    change nextTxnNumber s.txn.takesNumber = _
    simp only [nextTxnNumber, Option.getD_none, if_true]
    split_ifs <;> omega
  | some _ => rfl

end Opened

/-! ### What an item taken leaves (`ItemTaken`) -/

/-- The PLU table after a reserve, as a change of one record (R81, R84). -/
theorem recordChanged_reserved {plu : Nat} {table : List PluRecord} {record : PluRecord} (q : Nat)
    (h : findPlu plu table = some record) : RecordChanged table (putPlu (reserved q record) table) plu (reserved q) :=
  recordChanged_putPlu (reserved q) h rfl

theorem labelFollows_congr {s t : State} {p : Port} {choice : LabelChoice} {job : Job} {label : Option (OutletId × Nat)}
    {status : LabelStatus} {outlets : PerOutlet Outlet} (houtlets : t.outlets = s.outlets)
    (hrouting : t.txn.routing = s.txn.routing) (h : LabelFollows t p choice job label status outlets) :
    LabelFollows s p choice job label status outlets := by
  have hasked : LabelAsked t p choice ↔ LabelAsked s p choice := by simp only [LabelAsked, hrouting]
  have htaker : labelTaker t p job = labelTaker s p job := by
    simp only [labelTaker, hrouting, State.outletOf, houtlets]
  unfold LabelFollows at h ⊢
  rw [hasked, htaker, houtlets] at h
  simp only [State.outletOf, houtlets] at h
  exact h

theorem joinedTxn_clerk {s : State} {c : ClerkNo} {p : Port} (h : TableRules s) :
    (joinedTxn s c p).clerk = c ∧ (joinedTxn s c p).parkedAt = none := by
  unfold joinedTxn
  cases hx : s.openOf c with
  | none => exact ⟨rfl, rfl⟩
  | some x =>
    obtain ⟨-, hclerk, hparked, -⟩ := h.openOf hx
    exact ⟨hclerk, hparked⟩

/-- A HOLD fire asks for approval of a transaction that has none yet (R119). -/
theorem withLine_approval {s : State} {x : Txn} {l : Line} {p : Port} {asked : Prop}
    (hasked : (heldAtLine s x l = true) ↔ asked) :
    (x.approval = .none → asked → (withLine x l p (heldAtLine s x l)).approval = .required) ∧
      (¬(x.approval = .none ∧ asked) → (withLine x l p (heldAtLine s x l)).approval = x.approval) := by
  exact ⟨fun hnone ha => if_pos ⟨hasked.2 ha, hnone⟩, fun h => if_neg fun ha => h ⟨ha.2, hasked.1 ha.1⟩⟩

theorem lineWatches_watches (s : State) (plu amount subtotal txn : Nat) (c : ClerkNo) :
    (s.lineWatches plu amount subtotal txn c).1.totals.watches =
      (lineFires s.totals.watches plu amount subtotal txn watchNumbers).1 := by
  rw [lineWatches_eq]
  let fired := (lineFires s.totals.watches plu amount subtotal txn watchNumbers).1
  exact congrArg (·.totals.watches)
    (officeHears_link _ s { s with totals := { s.totals with watches := fired } } rfl)

/-- What a transaction joined for an item was before (R108). -/
theorem joinedTxn_before (s : State) (c : ClerkNo) (p : Port) :
    (joinedTxn s c p).openedAt = ((s.openOf c).map (·.openedAt)).getD s.clock.now ∧
    (joinedTxn s c p).ticket = (s.openOf c).bind (·.ticket) ∧
    (joinedTxn s c p).approval = ((s.openOf c).map (·.approval)).getD .none ∧
    (joinedTxn s c p).lines = ((s.openOf c).map (·.lines)).getD [] ∧
    (joinedTxn s c p).subtotal = ((s.openOf c).map (·.subtotal)).getD 0 ∧
    (joinedTxn s c p).itemCount = ((s.openOf c).map (·.itemCount)).getD 0 := by
  unfold joinedTxn
  cases s.openOf c <;> exact ⟨rfl, rfl, rfl, rfl, rfl, rfl⟩

section Taken
variable {s v w t : State} {p : Port} {c : ClerkNo} {plu : Nat} {f : PluFields} {item : PricedItem}
  {capture : Option (Platter × Nat)} {choice : LabelChoice} {record : PluRecord} {vlink tlink : LinkController}
  {label : Option (OutletId × Nat)} {status : LabelStatus} {outlets : PerOutlet Outlet} {l : Line} {x y : Txn}

/-- What stands of the state before an item in the state with its line in hand. -/
theorem lineInHand_rest
    (hv : v = { s with link := vlink, plus := putPlu (reserved item.quantity record) s.plus })
    (hw : w = openedFor v c (s.clerk c).openTxn p) (ht : t = { lineInHand w c x p l outlets with link := tlink }) :
    (t.weigh = s.weigh ∧ t.totals.day = s.totals.day ∧ t.totals.acc = s.totals.acc ∧ t.clock = s.clock ∧
      t.queue = s.queue ∧ t.txn.closed = s.txn.closed ∧ t.txn.parked = s.txn.parked) ∧
    t.plus = putPlu (reserved item.quantity record) s.plus ∧ t.outlets = outlets ∧ t.txn.inFlight = s.txn.inFlight ∧
    t.transit.consumptions = s.transit.consumptions ++ l.capture.toList ∧
    t.transit.ticketReports = s.transit.ticketReports ++
      (if x.lines = [] then (x.ticket.map fun k => (k, TicketReport.bound .firstLine)).toList else []) ∧
    t.totals.watches = (firesAtLine s x l).1 ∧ t.txn.nextNumber = w.txn.nextNumber := by
  obtain ⟨txn, hopened, -, hclosed, hparked, hflights⟩ := openedFor_frame v c (s.clerk c).openTxn p
  rw [hopened] at hw
  subst ht hw hv
  exact ⟨⟨rfl, rfl, rfl, rfl, rfl, hclosed, hparked⟩, rfl, rfl, hflights, rfl, rfl, rfl, rfl⟩

/-- The transactions and the clerks once a line is in hand. -/
theorem lineInHand_table (hs : TableRules s)
    (hv : v = { s with link := vlink, plus := putPlu (reserved item.quantity record) s.plus })
    (hw : w = openedFor v c (s.clerk c).openTxn p) (hx : x = joinedTxn s c p)
    (hy : y = withLine x l p (heldAtLine s x l)) (ht : t = { lineInHand w c x p l outlets with link := tlink }) :
    t.findTxn x.number = some y ∧ (∀ n, n ≠ x.number → t.findTxn n = s.findTxn n) ∧
      t.clerk c = { s.clerk c with openTxn := some x.number, lastStation := some p } ∧
      (∀ k, k ≠ c → t.clerk k = s.clerk k) ∧
      w.txn.nextNumber = if (s.clerk c).openTxn = none then (if x.number < 9999 then x.number + 1 else 1)
        else s.txn.nextNumber := by
  have hvrules : TableRules v := tableRules_of_txn (by rw [hv]) hs
  have hclerk (k : ClerkNo) : v.clerk k = s.clerk k := by rw [hv]; rfl
  have hjoined : joinedTxn v c p = x := hx ▸ joinedTxn_congr (by rw [hv]) (by rw [hv]) c p
  have hwtotals : w.totals = s.totals := by
    obtain ⟨txn, hopened, -⟩ := openedFor_frame v c (s.clerk c).openTxn p
    rw [hw, hopened, hv]
  have hheld : heldAtLine w x l = heldAtLine s x l := by
    unfold heldAtLine firesAtLine
    rw [hwtotals]
  have htxn : t.txn = ((w.setTxn y).noteStation c p).txn := by rw [ht, hy, ← hheld]; rfl
  have hfind (n : Nat) : t.findTxn n = (w.setTxn y).findTxn n := by simp only [State.findTxn, htxn]; rfl
  have hclerks (k : ClerkNo) : t.clerk k = (w.noteStation c p).clerk k := by simp only [State.clerk, htxn]; rfl
  have hnumber : y.number = x.number := by rw [hy]; rfl
  have hwclerk := openedFor_clerk_same (c := c) (p := p) hvrules
  have hnext := openedFor_next (c := c) (p := p) hvrules
  have hothers {n : Nat} := openedFor_findTxn_of_ne (c := c) (p := p) (n := n) hvrules
  rw [hclerk, hjoined] at hwclerk hnext
  rw [hclerk, hjoined] at hothers
  rw [← hw] at hwclerk hnext hothers
  refine ⟨?_, fun n hn => ?_, ?_, fun k hk => ?_, ?_⟩
  · rw [hfind]; exact findTxn_setTxn_same w hnumber
  · rw [hfind, findTxn_setTxn_of_ne w (hnumber ▸ hn), hothers hn, hv]; rfl
  · rw [hclerks, State.noteStation, setClerk_clerk_same, hwclerk]
  · rw [hclerks, State.noteStation, setClerk_clerk_of_ne _ hk, hw, openedFor_clerk_of_ne hk, hclerk]
  · rw [hnext, hv]

/-- A line taken leaves what `ItemTaken` says: `v` is the state with the stock reserved, `w` has the transaction that the
line joins, and `t` differs from the state with the line in hand in its links alone. -/
theorem itemTaken_of (hs : TableRules s) (hfind : findPlu plu s.plus = some record)
    (hv : v = { s with link := vlink, plus := putPlu (reserved item.quantity record) s.plus })
    (hw : w = openedFor v c (s.clerk c).openTxn p) (hx : x = joinedTxn s c p)
    (hl : l = { newLine (x.lines.length + 1) plu f item capture p with label := label })
    (hy : y = withLine x l p (heldAtLine s x l)) (ht : t = { lineInHand w c x p l outlets with link := tlink })
    (hlabel : LabelFollows s p choice (itemLabel s.pricing plu f item c (s.clerk c).name p) label status outlets)
    (hlow : (∀ a level, FallsLow s plu item.quantity a level → s.hears .office .stockLow →
        .stockLow plu (a.remaining - item.quantity) (a.held + item.quantity) level ∈ (t.linkOf .office).outbox) ∧
      ((∀ a level, ¬FallsLow s plu item.quantity a level) →
        ∀ n ∈ (t.linkOf .office).outbox, n.kind = .stockLow → n ∈ (s.linkOf .office).outbox)) :
    ItemTaken s t p c plu f item capture choice y l status := by
  obtain ⟨hrest, hplus, houtlets, -, -, hreported, hwatches, hnext⟩ := lineInHand_rest hv hw ht
  obtain ⟨hfound, hothers, hclerk, hclerks, hnumbers⟩ := lineInHand_table hs hv hw hx hy ht
  obtain ⟨hopenedAt, hticket, hbefore, hlines, hbeforeSubtotal, hitems⟩ := hx ▸ joinedTxn_before s c p
  obtain ⟨hxclerk, hxparked⟩ := hx ▸ joinedTxn_clerk (c := c) (p := p) hs
  have hnumber : x.number = (s.clerk c).openTxn.getD s.txn.takesNumber := hx ▸ joinedTxn_number hs
  have hlplu : l.plu = plu := by rw [hl]; rfl
  have hlamount : l.amount = item.amount := by rw [hl]; rfl
  have hllabel : l.label = label := by rw [hl]
  have hsubtotal : y.subtotal = x.subtotal + item.amount := by rw [hy, ← hlamount]; rfl
  have hasked : heldAtLine s x l = true ↔ ∃ j : Fin 4,
      s.totals.watches[j].firesAt plu item.amount y.subtotal ∧ s.totals.watches[j].action = .hold := by
    rw [heldAtLine, decide_eq_true_iff, firesAtLine, lineFires_asked, hlplu, hlamount, hsubtotal]; rfl
  have happroval := withLine_approval (p := p) hasked
  rw [← hy, hbefore] at happroval
  have hlength : y.lines.length = x.lines.length + 1 := by rw [hy]; simp [withLine]
  have hynumber : y.number = x.number := by rw [hy]; rfl
  exact {
    number := hynumber.trans hnumber
    takes := fun hnone => by
      have htakes : y.number = s.txn.takesNumber := hynumber.trans (hnumber.trans (by rw [hnone]; rfl))
      exact htakes ▸ (tableLaw_iff.2 hs).takes
    next := by rw [hnext, hnumbers, hynumber]
    openedAt := by
      have hsame : y.openedAt = x.openedAt := by rw [hy]; rfl
      rw [hsame, hopenedAt]
      cases s.openOf c <;> rfl
    found := by rw [State.openOf, hclerk]; exact hfound
    lines := by
      have hadded : y.lines = x.lines ++ [l] := by rw [hy]; rfl
      rw [hadded, hlines]
      cases s.openOf c <;> rfl
    subtotal := by
      rw [hsubtotal, hbeforeSubtotal]
      cases s.openOf c <;> rfl
    items := by
      have hadded : y.itemCount = x.itemCount + 1 := by rw [hy]; rfl
      rw [hadded, hitems]
      cases s.openOf c <;> rfl
    kept := by
      refine ⟨?_, ?_, ?_, ?_⟩
      · rw [hy]; exact hxclerk
      · rw [hy]; exact hxparked
      · rw [hy]; rfl
      · rw [hy]; exact hticket
    approval := happroval
    watches := by
      rw [hwatches, lineWatches_watches, hsubtotal, hynumber, firesAtLine, hlplu, hlamount]
    reported := by
      rw [hreported, hlines, hticket]
      cases s.openOf c <;> rfl
    unlabelled := by rw [hllabel, houtlets]; exact hlabel.1
    labelled := by rw [hllabel, houtlets]; exact hlabel.2
    line := by rw [hlength, hllabel]; exact hl
    clerk := by rw [hynumber]; exact hclerk
    clerks := hclerks
    others := fun n hn => hothers n (hynumber ▸ hn)
    stock := by rw [hplus]; exact recordChanged_reserved item.quantity hfind
    lowStock := hlow
    rest := hrest }

end Taken

end Sys2Proof.Machine.Books

end

section
/-! PROOF. Items taken: captures that reach the transaction table, and ADD COUNT ITEM (O34, O35). -/

namespace Sys2Proof.Machine.Books

open PlatterOps PluTable Ordered

/-! ### A line taken, and its reply -/

theorem reply_frame (s : State) (r : Requester) (e : Result) (payload : Payload) :
    ∃ link, s.reply r e payload = { s with link := link } := by
  rcases s.reply_cases r e payload with h | h
  · exact ⟨s.link, h⟩
  · exact ⟨_, h⟩

theorem reserve_slots (s : State) (record : PluRecord) (q : Nat) (p : Port) :
    ((s.reserve record q).linkOf p).slots = (s.linkOf p).slots := by
  rcases reserve_cases s record q with ⟨h, -⟩ | ⟨a, level, -, -, -, -, h⟩
  · rw [h]; rfl
  · rw [h, State.notify_slots]; rfl

/-- An item taken in a state `u` that differs from `s` in its links alone, with the office's notices as they are there. -/
theorem takeLine_leaves {s u : State} {ulink : LinkController} {plu : Nat} {record : PluRecord} (r : Requester)
    (c : ClerkNo) (f : PluFields) (item : PricedItem) (capture : Option (Platter × Nat)) (choice : LabelChoice)
    (hs : TableRules s) (hu : u = { s with link := ulink }) (hfind : findPlu plu s.plus = some record)
    (hhears : s.hears .office .stockLow → u.hears .office .stockLow)
    (hbox : (u.linkOf .office).outbox = (s.linkOf .office).outbox) :
    ∃ t x l status,
      done ((u.reserve record item.quantity).takeLine r c (s.clerk c).openTxn plu f item capture choice) = .next t ∧
      ItemTaken s t r.port c plu f item capture choice x l status ∧
      t.transit.consumptions = s.transit.consumptions ++ capture.toList ∧ t.txn.inFlight = s.txn.inFlight ∧
      ((u.linkOf r.port).slots.any (Slot.waitsFor r) = true →
        s.transit.cancellations.any (Cancellation.names r) = false →
        Replied t r .ok (.lineAdded x.number l.index item.amount x.subtotal x.approval status)) := by
  obtain ⟨vlink, hreserve⟩ := reserve_eq u record item.quantity
  obtain ⟨v, hv⟩ : ∃ v, v = u.reserve record item.quantity := ⟨_, rfl⟩
  obtain ⟨w, hw⟩ : ∃ w, w = openedFor v c (s.clerk c).openTxn r.port := ⟨_, rfl⟩
  obtain ⟨x, hx⟩ : ∃ x, x = joinedTxn s c r.port := ⟨_, rfl⟩
  have hvs : v = { s with link := vlink, plus := putPlu (reserved item.quantity record) s.plus } := by
    rw [hv, hreserve, hu]
  have hclerk : (v.clerk c).openTxn = (s.clerk c).openTxn := by rw [hvs]; rfl
  have hjoined : joinedTxn v c r.port = x := hx ▸ joinedTxn_congr (by rw [hvs]) (by rw [hvs]) c r.port
  have hvrules : TableRules v := tableRules_of_txn (by rw [hvs]) hs
  have hwrules : TableRules w := by
    have := (openedFor_rules (c := c) (p := r.port) hvrules).1
    rwa [hclerk, ← hw] at this
  have hopen : w.openOf c = some x := by
    have := openedFor_openOf (c := c) (p := r.port) hvrules
    rwa [hclerk, hjoined, ← hw] at this
  have hlawful : x.Lawful := hwrules.lawful _ x (hwrules.openOf hopen).1
  obtain ⟨txn, hopened, hrouting, -⟩ := openedFor_frame v c (s.clerk c).openTxn r.port
  rw [← hw] at hopened
  have hwlink : w.link = v.link := by rw [hopened]
  have hwtotals : w.totals = s.totals := by rw [hopened, hvs]
  have hwtransit : w.transit = s.transit := by rw [hopened, hvs]
  obtain ⟨label, status, outlets, hlabel, htake⟩ :=
    takeLine_eq (s := v) (r := r) plu f item capture choice (by rw [← hw]; exact hopen) hlawful
  obtain ⟨l, hl⟩ : ∃ l, l = { newLine (x.lines.length + 1) plu f item capture r.port with label := label } := ⟨_, rfl⟩
  rw [← hw] at hlabel htake
  rw [← hl] at htake
  have hheld : heldAtLine w x l = heldAtLine s x l := by
    unfold heldAtLine firesAtLine
    rw [hwtotals]
  have hlamount : l.amount = item.amount := by rw [hl]; rfl
  have hlcapture : l.capture = capture := by rw [hl]; rfl
  have hfollows : LabelFollows s r.port choice (itemLabel s.pricing plu f item c (s.clerk c).name r.port) label status
      outlets := by
    have hname : (w.clerk c).name = (s.clerk c).name := by
      have := openedFor_clerk_same (c := c) (p := r.port) hvrules
      rw [hclerk, ← hw] at this
      rw [this, hvs]; rfl
    have hpricing : w.pricing = s.pricing := by rw [hopened, hvs]
    rw [hname, hpricing] at hlabel
    refine labelFollows_congr (by rw [hopened, hvs]) ?_ hlabel
    rw [hopened]
    exact hrouting.trans (by rw [hvs])
  obtain ⟨z, hz⟩ : ∃ z, z = lineInHand w c x r.port l outlets := ⟨_, rfl⟩
  obtain ⟨y, hy⟩ : ∃ y, y = withLine x l r.port (heldAtLine s x l) := ⟨_, rfl⟩
  rw [hheld, ← hy, ← hz] at htake
  obtain ⟨t, ht⟩ : ∃ t, t = (z.ok r (.lineAdded x.number l.index item.amount (x.subtotal + item.amount) y.approval
    status)).transmitAll := ⟨_, rfl⟩
  obtain ⟨tlink, htz⟩ : ∃ link, t = { lineInHand w c x r.port l outlets with link := link } := by
    obtain ⟨link, h⟩ := reply_frame z r .ok
      (.lineAdded x.number l.index item.amount (x.subtotal + item.amount) y.approval status)
    exact ⟨_, by rw [ht, State.ok, h, hz]; rfl⟩
  obtain ⟨-, -, -, hflights, hconsumptions, -⟩ := lineInHand_rest hvs hw htz
  let ns := lineNotices w.totals.watches l.plu l.amount (x.subtotal + l.amount) x.number c
  have hlinks (q : Port) : (officeHears ns v).linkOf q = z.linkOf q := by
    have hlink : (officeHears ns w).link = (officeHears ns v).link := by rw [officeHears_link ns v w hwlink]
    have hzlink : z.link = (officeHears ns v).link := by rw [hz, ← hlink]; rfl
    simp only [State.linkOf, hzlink]
  refine ⟨t, y, l, status, ?_, itemTaken_of hs hfind hvs hw hx hl hy htz hfollows ?_, hlcapture ▸ hconsumptions, hflights,
    fun hslot hc => ?_⟩
  · rw [← hv, htake, ht]; rfl
  · have hsent : (t.linkOf .office).outbox = ((officeHears ns (u.reserve record item.quantity)).linkOf .office).outbox := by
      rw [ht, transmitAll_outbox, State.ok, reply_outbox, ← hlinks, hv]
    have hfalls (a : Stock) (level : Nat) : FallsLow u plu item.quantity a level ↔ FallsLow s plu item.quantity a level := by
      rw [hu]; rfl
    have hufind : findPlu plu u.plus = some record := by rw [hu]; exact hfind
    obtain ⟨hkind, hlength⟩ := lineNotices_kind w.totals.watches l.plu l.amount (x.subtotal + l.amount) x.number c
    obtain ⟨htold, hquiet⟩ := reserve_tells (s := u) (q := item.quantity) hufind hkind hlength
    refine ⟨fun a level hlow hh => hsent ▸ htold a level ((hfalls a level).2 hlow) (hhears hh), fun hnone n hn hk => ?_⟩
    exact hbox ▸ hquiet (fun a level h => hnone a level ((hfalls a level).1 h)) n (hsent ▸ hn) hk
  · have hslots : (z.linkOf r.port).slots = (u.linkOf r.port).slots := by
      rw [← hlinks, officeHears_slots, hv, reserve_slots]
    have hzc : z.transit.cancellations = s.transit.cancellations := by rw [hz]; exact congrArg (·.cancellations) hwtransit
    have hynumber : y.number = x.number := by rw [hy]; rfl
    have hysubtotal : y.subtotal = x.subtotal + item.amount := by rw [hy, ← hlamount]; rfl
    rw [hynumber, hysubtotal, ht]
    exact replied_of_waits .ok _ (hslots ▸ hslot) (hzc ▸ hc)

/-! ### The last tests before a line is taken (R110, R114) -/

/-- A failing test is a refusal, and otherwise the tests after it decide. -/
theorem ite_refuses {α : Type} {c : Prop} [Decidable c] {tests rest : Except Result α} {e : Result} {R : Result → Prop}
    {Q : Prop} (htests : tests = if c then .error e else rest) (herror : ∀ e, tests = .error e → R e)
    (hrest : tests = rest → Q) : if c then R e else Q := by
  split_ifs at htests ⊢
  · exact herror e htests
  · exact hrest htests

theorem reserveTests_eq {plu q : Nat} {kind : PluKind} {table : List PluRecord} {r : PluRecord}
    (hfind : findPlu plu table = some r) (hact : ¬r.active = false) (hkind : r.fields.kind = kind) :
    reserveTests plu kind q table = if r.stock.any (fun a => a.remaining < q) then .error .stock else .ok r := by
  unfold reserveTests
  rw [pricingRead_found hfind hact hkind, ok_bind]
  cases hstock : r.stock with
  | none => simp
  | some a =>
    by_cases hlow : a.remaining < q
    · simp [hlow, Nat.not_le.2 hlow]
    · simp [hlow, Nat.not_lt.1 hlow]

theorem lineTests_eq {s : State} {c : ClerkNo} {plu : Nat} {item : PricedItem} {r : PluRecord}
    (hfind : findPlu plu s.plus = some r) (hact : ¬r.active = false) (hkind : r.fields.kind = item.kind) :
    s.lineTests c plu item =
      if 40 ≤ (s.targetLines c).1.length then .error .txnFull
      else if 9999999 < (s.targetLines c).2 + item.amount then .error .priceLimit
      else if r.stock.any (fun a => a.remaining < item.quantity) then .error .stock
      else .ok r := by
  rw [← reserveTests_eq hfind hact hkind]
  unfold State.lineTests
  split_ifs with hfull hlimit
  · simp [Config.linesPerTxn, Nat.not_lt.2 hfull]
  · simp [Config.linesPerTxn, Config.subtotalMax, Nat.not_le.1 hfull, Nat.not_le.2 hlimit]
  · simp [Config.linesPerTxn, Config.subtotalMax, Nat.not_le.1 hfull, Nat.not_lt.1 hlimit]

/-- The room of the transaction that an item joins, as the statements say it. -/
theorem targetLines_room (s : State) (c : ClerkNo) :
    (match s.openOf c with
      | some x => (x.lines.length, x.subtotal)
      | none => (0, 0)) = ((s.targetLines c).1.length, (s.targetLines c).2) := by
  unfold State.targetLines
  cases s.openOf c <;> rfl

/-! ### ADD COUNT ITEM (R93, R114) -/

theorem exec_addCountItem (p : Port) (t : Tag) (plu q clerk : Nat) (label : LabelChoice) (s : State) :
    exec (.addCountItem p t plu q clerk label) s = execAddCountItem p t plu q clerk label s := rfl

/-- The item of a quantity of a PLU priced by count (R93). -/
def countedItem (s : State) (f : PluFields) (q : Nat) : PricedItem :=
  let price := unitPriceFor f (s.totals.day.opened.map (·.date))
  ⟨.byCount, q, none, none, price.1, price.2, stepRound s.pricing.step (q * price.1), s.clock.now.date,
    f.shelfLife.map fun days => Date.advance days s.clock.now.date⟩

theorem priceByCount_eq {s : State} {f : PluFields} {q : Nat} (hkind : f.kind = .byCount) :
    priceByCount s.pricing s.business s.now.date f q =
      if q < 1 ∨ 99 < q then .error .badValue
      else if 99999 < (countedItem s f q).amount then .error .priceLimit
      else .ok (countedItem s f q) := by
  have hraw (price : Nat) : rawAmount f.kind q price = q * price := by rw [hkind]; rfl
  unfold priceByCount
  split_ifs with hout hlimit
  · have : (decide (1 ≤ q) && decide (q ≤ 99)) = false := by
      simp only [Bool.and_eq_false_iff, decide_eq_false_iff_not]; omega
    simp [this]
  all_goals
    have hin : (decide (1 ≤ q) && decide (q ≤ 99)) = true := by
      simp only [Bool.and_eq_true, decide_eq_true_eq]; omega
    simp only [hin, require_true, ok_bind, priceQuantity, hraw]
  · have : ¬stepRound s.pricing.step (q * (unitPriceFor f s.business).1) ≤ Config.lineAmountMax := Nat.not_le.2 hlimit
    simp [this]
  · have : stepRound s.pricing.step (q * (unitPriceFor f s.business).1) ≤ Config.lineAmountMax := Nat.not_lt.1 hlimit
    simp only [this, decide_true, require_true, ok_bind, hkind]
    rfl

section CountTests
variable {s : State} {plu q clerk : Nat} {c : ClerkNo} {r : PluRecord}

theorem countTests_closed (h : s.totals.day.opened = none) : s.countTests plu q clerk = .error .dayClosed := by
  simp [State.countTests, State.dayOpen, h]

theorem countTests_noClerk (hday : s.totals.day.opened ≠ none) (h : clerk < 1 ∨ 16 < clerk) :
    s.countTests plu q clerk = .error .badValue := by
  simp [State.countTests, State.dayOpen, Option.isSome_iff_ne_none.2 hday, namedClerk_of_out h]

theorem countTests_disabled (hday : s.totals.day.opened ≠ none) (hc : clerk = c.val + 1)
    (hen : (s.clerk c).enabled = false) : s.countTests plu q clerk = .error .noSuch := by
  simp [State.countTests, State.dayOpen, Option.isSome_iff_ne_none.2 hday, namedClerk_of_val hc, hen]

/-- With the day OPEN and an enabled clerk, the pricing read decides, then the price, then the room (R114 tests 4 to
8). -/
theorem countTests_enabled (hday : s.totals.day.opened ≠ none) (hc : clerk = c.val + 1) (hen : ¬(s.clerk c).enabled = false) :
    s.countTests plu q clerk = (do
      let read ← pricingRead plu .byCount s.plus
      let item ← priceByCount s.pricing s.business s.now.date read.fields q
      let reserved ← s.lineTests c plu item
      return (c, read, item, reserved)) := by
  have henabled : (s.clerk c).enabled = true := by simpa using hen
  simp only [State.countTests, State.dayOpen, Option.isSome_iff_ne_none.2 hday, namedClerk_of_val hc, henabled,
    require_true, ok_bind]

theorem countTests_unread {e : Result} (hday : s.totals.day.opened ≠ none) (hc : clerk = c.val + 1)
    (hen : ¬(s.clerk c).enabled = false) (hread : pricingRead plu .byCount s.plus = .error e) :
    s.countTests plu q clerk = .error e := by
  rw [countTests_enabled hday hc hen, hread, error_bind]

/-- A record read for pricing by count: the quantity's range and the price's limit, then room, the subtotal's limit and
the stock. -/
theorem countTests_read (hday : s.totals.day.opened ≠ none) (hc : clerk = c.val + 1) (hen : ¬(s.clerk c).enabled = false)
    (hfind : findPlu plu s.plus = some r) (hact : ¬r.active = false) (hkind : r.fields.kind = .byCount) :
    s.countTests plu q clerk =
      if q < 1 ∨ 99 < q then .error .badValue
      else if 99999 < (countedItem s r.fields q).amount then .error .priceLimit
      else if 40 ≤ (s.targetLines c).1.length then .error .txnFull
      else if 9999999 < (s.targetLines c).2 + (countedItem s r.fields q).amount then .error .priceLimit
      else if r.stock.any (fun a => a.remaining < q) then .error .stock
      else .ok (c, r, countedItem s r.fields q, r) := by
  rw [countTests_enabled hday hc hen, pricingRead_found hfind hact hkind, ok_bind, priceByCount_eq hkind]
  have hline := lineTests_eq (c := c) (item := countedItem s r.fields q) hfind hact hkind
  have hquantity : (countedItem s r.fields q).quantity = q := rfl
  rw [hquantity] at hline
  by_cases hout : q < 1 ∨ 99 < q
  · simp only [if_pos hout, error_bind]
  by_cases hlimit : 99999 < (countedItem s r.fields q).amount
  · simp only [if_neg hout, if_pos hlimit, error_bind]
  simp only [if_neg hout, if_neg hlimit, ok_bind, hline]
  split_ifs <;> rfl

end CountTests

section AddCountItem
variable {s : State} {p : Port} {tag : Tag} {n q clerk : Nat} {label : LabelChoice}

theorem addCountItem_refuses {e : Result} (hw : Waiting s p tag (.addCountItem p tag n q clerk label))
    (h : s.countTests n q clerk = .error e) : Refuses (.addCountItem p tag n q clerk label) p tag s e := by
  have htaken : (s.taken p tag (.addCountItem p tag n q clerk label)).countTests n q clerk = .error e := h
  exact refuses_takeRequest hw (exec_addCountItem ..) (by simp only [htaken])

/-- Taking a request changes slots alone: a port hears the same notices, and its outbox stands. -/
theorem taken_office (s : State) (p q : Port) (t : Tag) (c : Instr) (k : NoticeKind) :
    (s.hears q k → (s.taken p t c).hears q k) ∧ ((s.taken p t c).linkOf q).outbox = (s.linkOf q).outbox := by
  have hlink : ((s.taken p t c).linkOf q).threshold = (s.linkOf q).threshold ∧
      ((s.taken p t c).linkOf q).outbox = (s.linkOf q).outbox := by
    rw [State.taken, State.linkOf_mapLink]
    split_ifs <;> exact ⟨rfl, rfl⟩
  refine ⟨fun ⟨hup, hk⟩ => ⟨by rw [State.taken_linkState, hup], by rw [hlink.1]; exact hk⟩, hlink.2⟩

theorem addCountItem_taken {c : ClerkNo} {r : PluRecord} {item : PricedItem} (hs : TableRules s)
    (hw : Waiting s p tag (.addCountItem p tag n q clerk label)) (hfind : findPlu n s.plus = some r)
    (h : s.countTests n q clerk = .ok (c, r, item, r)) :
    ∃ t x l status, exec (.addCountItem p tag n q clerk label) s = .next t ∧
      ItemTaken s t p c n r.fields item none label x l status ∧
      t.transit.consumptions = s.transit.consumptions ∧ t.txn.inFlight = s.txn.inFlight ∧
      Replied t ⟨p, tag, requestCode (.addCountItem p tag n q clerk label)⟩ .ok
        (.lineAdded x.number l.index item.amount x.subtotal x.approval status) := by
  obtain ⟨hhears, hbox⟩ := taken_office s p .office tag (.addCountItem p tag n q clerk label) .stockLow
  obtain ⟨t, x, l, status, ht, htaken, hconsumptions, hflights, hreplied⟩ :=
    takeLine_leaves ⟨p, tag, requestCode (.addCountItem p tag n q clerk label)⟩ c r.fields item none label hs
      (u := s.taken p tag (.addCountItem p tag n q clerk label)) rfl hfind hhears hbox
  refine ⟨t, x, l, status, ?_, htaken, by simpa using hconsumptions, hflights,
    hreplied (taken_waits hw) (State.awaits_uncancelled hw.2)⟩
  have htests : (s.taken p tag (.addCountItem p tag n q clerk label)).countTests n q clerk = .ok (c, r, item, r) := h
  rw [exec_addCountItem, execAddCountItem, takeRequest_of_awaits hw.2, ← ht]
  simp only [htests]
  rfl

end AddCountItem

/-- Settles O35: the tests in order, then the line taken. -/
theorem countItemsAreAdded : Obligations.CountItemsAreAdded := by
  intro s p tag n q clerk label i hw hlaw
  have hs := tableLaw_iff.1 hlaw
  have herror (e : Result) (h : s.countTests n q clerk = .error e) : Refuses i p tag s e := addCountItem_refuses hw h
  by_cases hday : s.totals.day.opened = none
  · rw [if_pos hday]
    exact addCountItem_refuses hw (countTests_closed hday)
  rw [if_neg hday]
  by_cases hclerk : clerk < 1 ∨ 16 < clerk
  · rw [if_pos hclerk]
    exact addCountItem_refuses hw (countTests_noClerk hday hclerk)
  rw [if_neg hclerk]
  intro c hc lines
  have hlines : lines = ((s.targetLines c).1.length, (s.targetLines c).2) := targetLines_room s c
  by_cases hen : (s.clerk c).enabled = false
  · rw [if_pos hen]
    exact addCountItem_refuses hw (countTests_disabled hday hc hen)
  rw [if_neg hen]
  cases hfind : findPlu n s.plus with
  | none => exact addCountItem_refuses hw (countTests_unread hday hc hen (pricingRead_missing hfind))
  | some r =>
    dsimp only
    by_cases hact : r.active = false
    · rw [if_pos hact]
      exact addCountItem_refuses hw (countTests_unread hday hc hen (pricingRead_withdrawn hfind hact))
    rw [if_neg hact]
    by_cases hkind : r.fields.kind ≠ .byCount
    · rw [if_pos hkind]
      exact addCountItem_refuses hw (countTests_unread hday hc hen (pricingRead_otherKind hfind hact hkind))
    rw [if_neg hkind]
    have hlength : (s.targetLines c).1.length = lines.1 := (congrArg Prod.fst hlines).symm
    have hsubtotal : (s.targetLines c).2 = lines.2 := (congrArg Prod.snd hlines).symm
    have htests := countTests_read (q := q) hday hc hen hfind hact (not_not.1 hkind)
    simp only [hlength, hsubtotal] at htests
    refine ite_refuses htests herror fun htests => ?_
    refine ite_refuses htests herror fun htests => ?_
    refine ite_refuses htests herror fun htests => ?_
    refine ite_refuses htests herror fun htests => ?_
    exact ite_refuses htests herror fun htests => addCountItem_taken hs hw hfind htests

end Sys2Proof.Machine.Books

end

section
/-! PROOF. Captures that reach the transaction table (O34). -/

namespace Sys2Proof.Machine.Books

open PlatterOps PluTable Ordered

theorem exec_captureTaken (w : Platter) (s : State) : exec (.captureTaken w) s = execCaptureTaken w s := rfl

/-! ### The oldest entry that passes a test -/

theorem takeFirst_of_split {α : Type} {test : α → Bool} {before after : List α} {x : α}
    (hbefore : ∀ y ∈ before, test y = false) (hx : test x = true) :
    takeFirst test (before ++ x :: after) = some (x, before ++ after) := by
  induction before with
  | nil => simp [takeFirst, hx]
  | cons y ys ih =>
    have hy : test y = false := hbefore y (by simp)
    simp [takeFirst, hy, ih fun z hz => hbefore z (by simp [hz])]

theorem takeFirst_of_none {α : Type} {test : α → Bool} {xs : List α} (h : ∀ y ∈ xs, test y = false) :
    takeFirst test xs = none := by
  cases hfound : takeFirst test xs with
  | none => rfl
  | some found =>
    obtain ⟨x, rest⟩ := found
    obtain ⟨before, after, rfl, -, hx, -⟩ := takeFirst_eq_some hfound
    rw [h x (by simp)] at hx; cases hx

/-! ### The tests at a capture's completion (R110) -/

section CaptureTests
variable {s : State} {e : InFlight} {m : CaptureRecord} {r : PluRecord} {item : PricedItem}

/-- The day of the PRICE ITEM still OPEN, then the clerk enabled, then the record read, then its price (R110 tests 1 to
4). -/
theorem captureTests_eq : s.captureTests e m =
    if s.totals.day.opened = none ∨ s.totals.day.number ≠ e.day then .error .dayClosed
    else if (s.clerk e.clerk).enabled = false then .error .noSuch
    else do
      let read ← pricingRead e.plu .byWeight s.plus
      let item ← priceByWeight s.pricing s.business s.now.date read.fields m
      require ((s.clerk e.clerk).openTxn = e.target) .txnGone
      let reserved ← s.lineTests e.clerk e.plu item
      return (read, item, reserved) := by
  unfold State.captureTests
  split_ifs with hday hen
  · have : (s.dayOpen && decide (s.totals.day.number = e.day)) = false := by
      rcases hday with h | h
      · simp [State.dayOpen, h]
      · simp [h]
    simp [this]
  all_goals
    obtain ⟨hopen, hnumber⟩ := not_or.1 hday
    have htoday : (s.dayOpen && decide (s.totals.day.number = e.day)) = true := by
      simp [State.dayOpen, Option.isSome_iff_ne_none.2 hopen, not_not.1 hnumber]
    rw [htoday, require_true, ok_bind]
  · rw [hen]; rfl
  · have henabled : (s.clerk e.clerk).enabled = true := by simpa using hen
    rw [henabled, require_true, ok_bind]

/-- A record read and priced: the transaction aimed at, then room, the subtotal's limit and the stock (R110 tests 5 to
8). -/
theorem priced_eq {α : Type} {f : PluRecord → α} (hfind : findPlu e.plu s.plus = some r) (hact : ¬r.active = false)
    (hkind : r.fields.kind = item.kind) :
    (do
      require ((s.clerk e.clerk).openTxn = e.target) .txnGone
      let reserved ← s.lineTests e.clerk e.plu item
      return f reserved : Except Result α) =
    if (s.clerk e.clerk).openTxn ≠ e.target then .error .txnGone
    else if 40 ≤ (s.targetLines e.clerk).1.length then .error .txnFull
    else if 9999999 < (s.targetLines e.clerk).2 + item.amount then .error .priceLimit
    else if r.stock.any (fun a => a.remaining < item.quantity) then .error .stock
    else .ok (f r) := by
  rw [lineTests_eq hfind hact hkind]
  by_cases hgone : (s.clerk e.clerk).openTxn ≠ e.target
  · rw [if_pos hgone, decide_eq_false hgone]; rfl
  rw [if_neg hgone, decide_eq_true (not_not.1 hgone), require_true, ok_bind]
  split_ifs <;> rfl

end CaptureTests

/-! ### CAPTURE_TAKEN (R110, R111, R115) -/

section Captures
variable {s u : State} {w : Platter} {m : CaptureRecord} {rest : List CaptureRecord} {e : InFlight}
  {before after : List InFlight}

theorem captureTaken_dropped (hm : s.transit.captures = m :: rest) (hw : m.platter = w)
    (hnone : ∀ e ∈ s.txn.inFlight, e.platter ≠ w ∨ e.request ≠ m.request) :
    Leaves (.captureTaken w) s { s with transit := { s.transit with captures := rest } } := by
  have hcapture : takeFirst (fun x : CaptureRecord => x.platter = w) s.transit.captures = some (m, rest) := by
    rw [hm]; exact takeFirst_of_head (by simpa using hw)
  have hflight : takeFirst (fun x : InFlight => x.platter = w && x.request = m.request) s.txn.inFlight = none :=
    takeFirst_of_none fun y hy => by
      rcases hnone y hy with h | h <;> simp [h]
  refine leaves_of_done ?_
  rw [exec_captureTaken, execCaptureTaken, hcapture]
  simp only [hflight]

/-- A capture record that ends its PRICE ITEM: what follows is decided in the state without the two. -/
theorem captureTaken_eq (hm : s.transit.captures = m :: rest) (hw : m.platter = w)
    (hsplit : s.txn.inFlight = before ++ e :: after) (hplatter : e.platter = w) (hrequest : e.request = m.request)
    (hbefore : ∀ y ∈ before, y.platter ≠ w ∨ y.request ≠ m.request)
    (hu : u = { s with
      transit := { s.transit with captures := rest }, txn := { s.txn with inFlight := before ++ after } }) :
    exec (.captureTaken w) s = match u.captureTests e m with
      | .error code => done (u.refuse e.requester code)
      | .ok (read, item, reserved) =>
        done ((u.reserve reserved item.quantity).takeLine e.requester e.clerk e.target e.plu read.fields item
          (some (w, m.number)) e.label) := by
  have hcapture : takeFirst (fun x : CaptureRecord => x.platter = w) s.transit.captures = some (m, rest) := by
    rw [hm]; exact takeFirst_of_head (by simpa using hw)
  have hflight : takeFirst (fun x : InFlight => x.platter = w && x.request = m.request) s.txn.inFlight =
      some (e, before ++ after) := by
    rw [hsplit]
    refine takeFirst_of_split (fun y hy => ?_) (by simp [hplatter, hrequest])
    rcases hbefore y hy with h | h <;> simp [h]
  rw [exec_captureTaken, execCaptureTaken, hcapture]
  simp only [hflight]
  subst hu
  rfl

end Captures

/-- Settles O34: a record of no PRICE ITEM in flight, the tests in order, then the line taken. -/
theorem capturesArePriced : Obligations.CapturesArePriced := by
  intro s w m rest hlaw hm hw v
  refine ⟨captureTaken_dropped hm hw, ?_⟩
  intro before e after hsplit hplatter hrequest hbefore u refused lines
  have hexec := captureTaken_eq (u := u) hm hw hsplit hplatter hrequest hbefore rfl
  have herror (code : Result) (h : u.captureTests e m = .error code) : refused code := by
    rw [h] at hexec
    exact leaves_of_done hexec
  have hflights : (before ++ after).Pairwise fun x y => x.platter ≠ y.platter := by
    have := (tableLaw_iff.1 hlaw).flights
    rw [hsplit] at this
    exact this.sublist (List.sublist_append_iff.2 ⟨before, after, rfl, .refl _, List.sublist_cons_self e after⟩)
  have hu : TableRules u :=
    tableRules_of_txn (s := { s with txn := { s.txn with inFlight := before ++ after } }) rfl
      ((tableLaw_iff.1 hlaw).setFlights hflights)
  have hlines : lines = ((u.targetLines e.clerk).1.length, (u.targetLines e.clerk).2) := targetLines_room u e.clerk
  have htests := captureTests_eq (s := u) (e := e) (m := m)
  refine ite_refuses htests herror fun htests => ?_
  refine ite_refuses htests herror fun htests => ?_
  cases hfind : findPlu e.plu s.plus with
  | none => exact herror _ (htests.trans (by rw [pricingRead_missing hfind, error_bind]))
  | some r =>
    dsimp only
    by_cases hact : r.active = false
    · rw [if_pos hact]
      exact herror _ (htests.trans (by rw [pricingRead_withdrawn hfind hact, error_bind]))
    rw [if_neg hact]
    by_cases hkind : r.fields.kind ≠ .byWeight
    · rw [if_pos hkind]
      exact herror _ (htests.trans (by rw [pricingRead_otherKind hfind hact hkind, error_bind]))
    rw [if_neg hkind]
    rw [pricingRead_found hfind hact (not_not.1 hkind), ok_bind] at htests
    have hlength : (u.targetLines e.clerk).1.length = lines.1 := (congrArg Prod.fst hlines).symm
    have hsubtotal : (u.targetLines e.clerk).2 = lines.2 := (congrArg Prod.snd hlines).symm
    cases hprice : priceByWeight s.pricing (s.totals.day.opened.map (·.date)) s.clock.now.date r.fields m with
    | error code =>
      have hunpriced : priceByWeight u.pricing u.business u.now.date r.fields m = .error code := hprice
      exact herror code (htests.trans (by rw [hunpriced, error_bind]))
    | ok item =>
      have hpriced : priceByWeight u.pricing u.business u.now.date r.fields m = .ok item := hprice
      rw [hpriced, ok_bind, priced_eq (s := u) (e := e) (f := fun reserved => (r, item, reserved)) hfind hact (priceByWeight_ok hprice).2.symm]
        at htests
      simp only [hlength, hsubtotal] at htests
      dsimp only
      by_cases htarget : (s.clerk e.clerk).openTxn ≠ e.target
      · rw [if_pos htarget]
        exact herror _ (htests.trans (if_pos htarget))
      rw [if_neg htarget]
      replace htests := htests.trans (if_neg htarget)
      refine ite_refuses htests herror fun htests => ?_
      refine ite_refuses htests herror fun htests => ?_
      refine ite_refuses htests herror fun htests => ?_
      obtain ⟨t, x, l, status, ht, htaken, hconsumptions, hinFlight, hreplied⟩ :=
        takeLine_leaves (s := u) (u := u) e.requester e.clerk r.fields item (some (w, m.number)) e.label hu rfl hfind
          (fun h => h) rfl
      refine ⟨t, x, l, status, ?_, htaken, hconsumptions, hinFlight, hreplied⟩
      rw [hexec, htests, ← ht]
      show done _ = done _
      rw [show e.target = (u.clerk e.clerk).openTxn from (not_not.1 htarget).symm]

end Sys2Proof.Machine.Books

end

section
/-! PROOF. VOID TRANSACTION (O41). -/

namespace Sys2Proof.Machine.Books

open PlatterOps PluTable Ordered

/-! ### Postings in fields (R171, R176, R178) -/

theorem capAdd_eq_min (cap n k : Nat) : capAdd cap n k = min cap (n + k) := by
  unfold capAdd; split <;> omega

/-! ### Where a line's job is not recorded -/

/-- No job of the lines `ls` is recorded at these lines. -/
def Apart (ls others : List Line) : Prop := ∀ l ∈ others, l.label = none ∨ ∀ m ∈ ls, m.label ≠ l.label

theorem Apart.cons {l : Line} {ls others : List Line} (h : Apart (l :: ls) others) : Apart [l] others ∧ Apart ls others :=
  ⟨fun k hk => (h k hk).imp_right fun h m hm => h m (List.mem_cons.2 (.inl (List.mem_singleton.1 hm))),
    fun k hk => (h k hk).imp_right fun h m hm => h m (List.mem_cons_of_mem _ hm)⟩

theorem clearLabel_of_apart {l : Line} {others : List Line} {o : OutletId} {id : Nat} (h : Apart [l] others)
    (hl : l.label = some (o, id)) : others.map (Line.clearLabel o id) = others := by
  refine (List.map_congr_left fun k hk => ?_).trans (List.map_id others)
  have hother : ¬k.label = some (o, id) := by
    rcases h k hk with hnone | hne
    · simp [hnone]
    · exact hl ▸ (hne l (List.mem_singleton.2 rfl)).symm
  exact if_neg hother

/-! ### The lines of a transaction voided (R116, R125 step 2) -/

/-- The PLU table once the stock of some lines has returned. -/
def returnedLines (ls : List Line) (table : List PluRecord) : List PluRecord :=
  ls.foldl (fun table l => returnedTable l.plu l.quantity table) table

/-- The outlets once the label jobs of some lines have been cancelled. -/
def unlabelled (ls : List Line) (outlets : PerOutlet Outlet) : PerOutlet Outlet :=
  ls.foldl (fun outlets l => cancelledOutlets l outlets) outlets

/-- What the voiding of the lines `ls` of transaction `n` does beside the links: the stock returns, the label jobs are
cancelled, and of the transaction table only `n` and the lines that name one of those jobs may change. -/
structure LinesVoided (n : Nat) (ls : List Line) (s v : State) : Prop where
  frame : ∃ held closed link, v = { s with
    txn := { s.txn with held := held, closed := closed }
    link := link
    plus := returnedLines ls s.plus
    outlets := unlabelled ls s.outlets }
  numbers : v.txn.held.map (·.number) = s.txn.held.map (·.number)
  others : ∀ m y, m ≠ n → s.findTxn m = some y → Apart ls y.lines → v.findTxn m = some y
  closed : (∀ e ∈ s.txn.closed, Apart ls e.lines) → v.txn.closed = s.txn.closed
  slots : ∀ p, (v.linkOf p).slots = (s.linkOf p).slots

section LinesVoided
variable {n : Nat} {l : Line} {ls : List Line} {s u v : State}

theorem LinesVoided.nil (n : Nat) (s : State) : LinesVoided n [] s s :=
  ⟨⟨_, _, _, rfl⟩, rfl, fun _ _ _ h _ => h, fun _ => rfl, fun _ => rfl⟩

theorem LinesVoided.cons (h : LinesVoided n [l] s u) (h' : LinesVoided n ls u v) : LinesVoided n (l :: ls) s v := by
  refine ⟨?_, h'.numbers.trans h.numbers, fun m y hm hy ha => h'.others m y hm (h.others m y hm hy ha.cons.1) ha.cons.2,
    fun ha => ?_, fun p => (h'.slots p).trans (h.slots p)⟩
  · obtain ⟨held, closed, link, rfl⟩ := h.frame
    obtain ⟨held', closed', link', rfl⟩ := h'.frame
    exact ⟨held', closed', link', rfl⟩
  · have hu := h.closed fun e he => (ha e he).cons.1
    exact (h'.closed (hu ▸ fun e he => (ha e he).cons.2)).trans hu

/-- The held list with one transaction changed has the numbers and the other transactions as they were. -/
theorem mapTxn_frame {f : Txn → Txn} (ha : Ascending Txn.number s.txn.held) (hf : ∀ x, (f x).number = x.number) :
    ∃ held, s.mapTxn n f = { s with txn := { s.txn with held := held } } ∧
      held.map (·.number) = s.txn.held.map (·.number) ∧ ∀ m, m ≠ n → (s.mapTxn n f).findTxn m = s.findTxn m := by
  unfold State.mapTxn
  cases hx : s.findTxn n with
  | none => exact ⟨s.txn.held, rfl, rfl, fun _ _ => rfl⟩
  | some x =>
    have hnumber : (f x).number = n := (hf x).trans (findTxn_number hx)
    refine ⟨putTxn (f x) s.txn.held, rfl, ?_, fun m hm => findTxn_setTxn_of_ne s (hnumber ▸ hm)⟩
    rw [putTxn_eq_put]
    exact map_key_put ha (by rw [hf]; exact List.mem_map_of_mem (findTxn_mem hx))

/-- The forgetting of a line's label job leaves the transactions that do not name it. -/
theorem clearLabel_linesVoided {o : OutletId} {id : Nat} (hl : l.label = some (o, id)) :
    ((s.clearLabel o id).txn.held.map (·.number) = s.txn.held.map (·.number)) ∧
      (∀ m y, s.findTxn m = some y → Apart [l] y.lines → (s.clearLabel o id).findTxn m = some y) ∧
      ((∀ e ∈ s.txn.closed, Apart [l] e.lines) → (s.clearLabel o id).txn.closed = s.txn.closed) := by
  refine ⟨?_, fun m y hy ha => ?_, fun ha => ?_⟩
  · simp [State.clearLabel, Function.comp_def]
  · have : (s.clearLabel o id).findTxn m =
        (s.findTxn m).map fun x => { x with lines := x.lines.map (Line.clearLabel o id) } := by
      simp only [State.findTxn, State.clearLabel, List.find?_map]
      rfl
    rw [this, hy, Option.map_some, clearLabel_of_apart ha hl]
  · refine (List.map_congr_left fun e he => ?_).trans (List.map_id _)
    rw [clearLabel_of_apart (ha e he) hl]
    rfl

theorem voidOne_linesVoided (ha : Ascending Txn.number s.txn.held) (n : Nat) (l : Line) :
    LinesVoided n [l] s (s.voidOne n l) := by
  obtain ⟨held, hmap, hnumbers, hothers⟩ := mapTxn_frame (n := n) (f := fun x => x.voidLine l) ha fun _ => rfl
  unfold State.voidOne
  rw [hmap] at hothers ⊢
  rw [returnStock_eq]
  set u : State := { s with
    txn := { s.txn with held := held }
    plus := returnedTable l.plu l.quantity s.plus } with hu
  obtain ⟨txn, link, hcancel, hkeeps⟩ := cancelLabel_frame u l
  have hslots (p : Port) : ((u.cancelLabel l).linkOf p).slots = (s.linkOf p).slots := cancelLabel_slots u l p
  rcases hkeeps with rfl | ⟨o, id, hlabel, rfl⟩
  · refine ⟨⟨held, s.txn.closed, link, hcancel⟩, ?_, fun m y hm hy _ => ?_, fun _ => ?_, hslots⟩
    all_goals rw [hcancel]
    · exact hnumbers
    · exact (hothers m hm).trans hy
  · obtain ⟨hcleared, hfind, hclosed⟩ := clearLabel_linesVoided (s := u) hlabel
    refine ⟨⟨_, _, link, hcancel⟩, ?_, fun m y hm hy hapart => ?_, fun hapart => ?_, hslots⟩
    all_goals rw [hcancel]
    · exact hcleared.trans hnumbers
    · exact hfind m y ((hothers m hm).trans hy) hapart
    · exact hclosed hapart

theorem voidLines_linesVoided (ha : Ascending Txn.number s.txn.held) (n : Nat) (ls : List Line) :
    LinesVoided n ls s (ls.foldl (fun s l => s.voidOne n l) s) := by
  induction ls generalizing s with
  | nil => exact .nil n s
  | cons l ls ih =>
    have hone := voidOne_linesVoided ha n l
    refine hone.cons (ih ?_)
    exact List.pairwise_map.1 (hone.numbers ▸ List.pairwise_map.2 ha)

/-- The label jobs of the lines of a voided transaction are cancelled as any order to cancel does it. -/
theorem cancelLabels_outlets (ls : List Line) (s : State) :
    (ls.foldl (fun s l => s.cancelLabel l) s).outlets = unlabelled ls s.outlets := by
  induction ls generalizing s with
  | nil => rfl
  | cons l ls ih =>
    obtain ⟨txn, link, hcancel, -⟩ := cancelLabel_frame s l
    refine (ih (s.cancelLabel l)).trans ?_
    rw [hcancel]; rfl

end LinesVoided

/-! ### The stock that returns (R82) -/

/-- A PLU's record once open lines of it have been voided. -/
structure LinesReturned (r r' : PluRecord) (ls : List Line) : Prop where
  number : r'.number = r.number
  fields : r'.fields = r.fields
  active : r'.active = r.active
  openLines : r'.openLines = r.openLines - ls.length
  stock : ∀ a, r.stock = some a → ∃ a', r'.stock = some a' ∧
    a'.remaining = a.remaining + (ls.map (·.quantity)).sum ∧ a'.held = a.held - (ls.map (·.quantity)).sum ∧
    a'.loaded = a.loaded ∧ a'.sold = a.sold

theorem LinesReturned.nil (r : PluRecord) : LinesReturned r r [] := ⟨rfl, rfl, rfl, rfl, fun a ha => ⟨a, ha, rfl, rfl, rfl, rfl⟩⟩

theorem LinesReturned.cons {r r' : PluRecord} {l : Line} {ls : List Line}
    (h : LinesReturned (returned l.quantity r) r' ls) : LinesReturned r r' (l :: ls) := by
  refine ⟨h.number, h.fields, h.active, ?_, fun a ha => ?_⟩
  · rw [h.openLines, List.length_cons, Nat.add_comm, ← Nat.sub_sub]; rfl
  · have hback : (returned l.quantity r).stock = some (a.giveBack l.quantity) := by simp [returned, ha]
    obtain ⟨a', ha', hremaining, hheld, hloaded, hsold⟩ := h.stock _ hback
    refine ⟨a', ha', ?_, ?_, hloaded, hsold⟩
    · rw [hremaining, List.map_cons, List.sum_cons, ← Nat.add_assoc]; rfl
    · rw [hheld, List.map_cons, List.sum_cons, ← Nat.sub_sub]; rfl

theorem returnedTable_find_same {n q : Nat} {r : PluRecord} {table : List PluRecord} (hr : findPlu n table = some r) :
    findPlu n (returnedTable n q table) = some (returned q r) := by
  unfold returnedTable
  rw [hr]
  exact findPlu_putPlu_same (r := returned q r) (findPlu_number (r := r) hr) table

theorem returnedLines_find {n : Nat} {r : PluRecord} (ls : List Line) {table : List PluRecord}
    (hr : findPlu n table = some r) :
    ∃ r', findPlu n (returnedLines ls table) = some r' ∧ LinesReturned r r' (ls.filter fun l => l.plu = n) := by
  induction ls generalizing table r with
  | nil => exact ⟨r, hr, .nil r⟩
  | cons l ls ih =>
    by_cases hn : l.plu = n
    · subst hn
      obtain ⟨r', hr', h⟩ := ih (returnedTable_find_same (q := l.quantity) hr)
      refine ⟨r', hr', ?_⟩
      rw [List.filter_cons_of_pos (by simp)]
      exact h.cons
    · have hsame := (recordChanged_returnedTable l.plu l.quantity table).2 n (Ne.symm hn)
      obtain ⟨r', hr', h⟩ := ih (hsame.trans hr)
      refine ⟨r', hr', ?_⟩
      rw [List.filter_cons_of_neg (by simpa using hn)]
      exact h

/-! ### The transaction removed (R105, R125 steps 3 to 5) -/

theorem exec_voidTransaction (p : Port) (t : Tag) (name : TxnName) (s : State) :
    exec (.voidTransaction p t name) s = execVoidTransaction p t name s := rfl

/-- The state that VOID TRANSACTION leaves, but for the reply, once the lines are voided. -/
def removedTxn (v : State) (x : Txn) (name : TxnName) (p : Port) : State :=
  (((v.mapTotals fun u => u.postVoid x.clerk x.subtotal).reportTicket x.ticket (.outcome .noSale)).removeTxn x).noteNamed
    name x.clerk p

section Removed
variable (v : State) (x : Txn) (name : TxnName) (p : Port)

theorem reportTicket_eq (s : State) (ticket : Option TicketId) (report : TicketReport) :
    s.reportTicket ticket report = { s with transit := { s.transit with
      ticketReports := s.transit.ticketReports ++ (ticket.map fun k => (k, report)).toList } } := by
  cases ticket with
  | none => simp [State.reportTicket]
  | some k => rfl

theorem removeTxn_frame (s : State) : ∃ clerks, s.removeTxn x = { s with txn := { s.txn with
    held := s.txn.held.filter fun y => y.number ≠ x.number
    parked := s.txn.parked.filter fun n => n ≠ x.number
    clerks := clerks } } := by
  unfold State.removeTxn
  dsimp only
  split <;> exact ⟨_, rfl⟩

theorem noteNamed_frame (s : State) (c : ClerkNo) : ∃ clerks,
    s.noteNamed name c p = { s with txn := { s.txn with clerks := clerks } } := by
  cases name <;> exact ⟨_, rfl⟩

theorem removedTxn_frame : ∃ clerks, removedTxn v x name p = { v with
    txn := { v.txn with
      held := v.txn.held.filter fun y => y.number ≠ x.number
      parked := v.txn.parked.filter fun n => n ≠ x.number
      clerks := clerks }
    totals := v.totals.postVoid x.clerk x.subtotal
    transit := { v.transit with
      ticketReports := v.transit.ticketReports ++ (x.ticket.map fun k => (k, TicketReport.outcome .noSale)).toList } } := by
  obtain ⟨clerks, hremoved⟩ := removeTxn_frame x
    ((v.mapTotals fun u => u.postVoid x.clerk x.subtotal).reportTicket x.ticket (.outcome .noSale))
  obtain ⟨clerks', hnoted⟩ := noteNamed_frame name p
    (((v.mapTotals fun u => u.postVoid x.clerk x.subtotal).reportTicket x.ticket (.outcome .noSale)).removeTxn x) x.clerk
  refine ⟨clerks', ?_⟩
  rw [removedTxn, hnoted, hremoved, reportTicket_eq]
  rfl

theorem removedTxn_findTxn_of_ne {n : Nat} (hn : n ≠ x.number) : (removedTxn v x name p).findTxn n = v.findTxn n := by
  have hnoted (s : State) : (s.noteNamed name x.clerk p).findTxn n = s.findTxn n := by cases name <;> rfl
  rw [removedTxn, hnoted, removeTxn_findTxn_of_ne _ hn, reportTicket_eq]
  rfl

theorem removedTxn_clerk_of_ne {c : ClerkNo} (hc : c ≠ x.clerk) : (removedTxn v x name p).clerk c = v.clerk c := by
  have hnoted (s : State) : (s.noteNamed name x.clerk p).clerk c = s.clerk c := by
    cases name
    · exact setClerk_clerk_of_ne s hc _
    · rfl
  rw [removedTxn, hnoted, removeTxn_clerk_of_ne _ hc, reportTicket_eq]
  rfl

variable {x} in
/-- The clerk of a removed transaction: it was the clerk's OPEN transaction just where it was not PARKED. -/
theorem removedTxn_clerk_same (h : (v.clerk x.clerk).openTxn = some x.number ↔ x.parkedAt = none) :
    (removedTxn v x name p).clerk x.clerk = { v.clerk x.clerk with
      openTxn := if x.parkedAt = none then none else (v.clerk x.clerk).openTxn
      lastStation := match name with
        | .byClerk _ => some p
        | .byNumber _ => (v.clerk x.clerk).lastStation } := by
  have hremoved : (((v.mapTotals fun u => u.postVoid x.clerk x.subtotal).reportTicket x.ticket
      (.outcome .noSale)).removeTxn x).clerk x.clerk =
      { v.clerk x.clerk with openTxn := if x.parkedAt = none then none else (v.clerk x.clerk).openTxn } := by
    rw [removeTxn_clerk_same, reportTicket_eq]
    change (if (v.clerk x.clerk).openTxn = some x.number then { v.clerk x.clerk with openTxn := none }
      else v.clerk x.clerk) = _
    simp only [h]
    split_ifs <;> rfl
  cases name with
  | byClerk _ => rw [removedTxn, State.noteNamed, State.noteStation, setClerk_clerk_same, hremoved]
  | byNumber _ => exact hremoved

end Removed

/-! ### VOID TRANSACTION (R125) -/

section VoidTransaction
variable {s : State} {p : Port} {t : Tag} {name : TxnName}

theorem voidTests_byClerk (s : State) (k : Nat) : s.voidTests (.byClerk k) =
    if h : 1 ≤ k ∧ k ≤ 16 then orRefuse (s.openOf ⟨k - 1, by omega⟩) .noSuch else .error .badValue := by
  change (namedClerk k >>= fun c => orRefuse (s.openOf c) .noSuch) = _
  split_ifs with h
  · rw [namedClerk_of_val (c := ⟨k - 1, by omega⟩) (by dsimp only; omega), ok_bind]
  · rw [namedClerk_of_out (by omega), error_bind]

theorem voidTests_byNumber (s : State) (n : Nat) : s.voidTests (.byNumber n) =
    if n < 1 ∨ 9999 < n then .error .badValue else orRefuse (s.findTxn n) .noSuch := by
  change (require (txnNumberInRange n) .badValue >>= fun _ => orRefuse (s.findTxn n) .noSuch) = _
  split_ifs with h
  · have : txnNumberInRange n = false := by simp [txnNumberInRange]; omega
    rw [this, require_false, error_bind]
  · have : txnNumberInRange n = true := by simp [txnNumberInRange]; omega
    rw [this, require_true, ok_bind]

theorem voidTransaction_refuses {e : Result} (hw : Waiting s p t (.voidTransaction p t name))
    (h : s.voidTests name = .error e) : Refuses (.voidTransaction p t name) p t s e := by
  have htaken : (s.taken p t (.voidTransaction p t name)).voidTests name = .error e := h
  exact refuses_takeRequest hw (exec_voidTransaction ..) (by simp only [htaken])

/-- A transaction is its clerk's OPEN one just where it is not PARKED (R105). -/
theorem openTxn_iff_not_parked {x : Txn} (h : TableRules s) (hx : s.findTxn x.number = some x) :
    (s.clerk x.clerk).openTxn = some x.number ↔ x.parkedAt = none := by
  rw [h.openTxns x.clerk x.number]
  constructor
  · rintro ⟨y, hy, -, hparked⟩
    exact Option.some.inj (hx.symm.trans hy) ▸ hparked
  · exact fun hparked => ⟨x, hx, rfl, hparked⟩

/-- VOID TRANSACTION in passing: the lines voided, the transaction removed, and the reply. -/
theorem voidTransaction_next {x : Txn} (hw : Waiting s p t (.voidTransaction p t name)) (h : s.voidTests name = .ok x)
    (ha : Ascending Txn.number s.txn.held) :
    ∃ v link, LinesVoided x.number (unvoided x.lines) (s.taken p t (.voidTransaction p t name)) v ∧
      exec (.voidTransaction p t name) s = .next { removedTxn v x name p with link := link } ∧
      Replied { removedTxn v x name p with link := link } ⟨p, t, requestCode (.voidTransaction p t name)⟩ .ok
        (.voided x.number x.subtotal) := by
  set i := Instr.voidTransaction p t name
  have hvoided := voidLines_linesVoided (s := s.taken p t i) ha x.number (unvoided x.lines)
  set v := (unvoided x.lines).foldl (fun s l => s.voidOne x.number l) (s.taken p t i)
  have hlink : (removedTxn v x name p).link = v.link ∧
      (removedTxn v x name p).transit.cancellations = s.transit.cancellations := by
    obtain ⟨clerks, hframe⟩ := removedTxn_frame v x name p
    obtain ⟨held, closed, link, hv⟩ := hvoided.frame
    rw [hframe]
    exact ⟨rfl, by rw [hv]; rfl⟩
  have hslots : ((removedTxn v x name p).linkOf p).slots = ((s.taken p t i).linkOf p).slots := by
    rw [State.linkOf, hlink.1]; exact hvoided.slots p
  have hreplied := replied_of_waits (s := removedTxn v x name p) (r := ⟨p, t, requestCode i⟩) .ok
    (.voided x.number x.subtotal) (by rw [hslots]; exact taken_waits hw)
    (by rw [hlink.2]; exact State.awaits_uncancelled hw.2)
  obtain ⟨link, hreply⟩ := reply_frame (removedTxn v x name p) ⟨p, t, requestCode i⟩ .ok (.voided x.number x.subtotal)
  refine ⟨v, ({ removedTxn v x name p with link := link } : State).transmitAll.link, hvoided, ?_, ?_⟩
  · have htests : (s.taken p t i).voidTests name = .ok x := h
    rw [exec_voidTransaction, execVoidTransaction, takeRequest_of_awaits hw.2]
    simp only [i, htests]
    change done (((removedTxn v x name p).reply ⟨p, t, requestCode i⟩ .ok (.voided x.number x.subtotal))) = _
    rw [hreply]
    rfl
  · rw [hreply] at hreplied
    exact hreplied

end VoidTransaction

/-- Settles O41: the postings in fields, the tests, then the lines voided and the transaction removed. -/
theorem voidTransaction : Obligations.VoidTransaction := by
  unfold Obligations.VoidTransaction
  intro up passes posted
  refine ⟨?_, ?_, ?_⟩
  · intro a c n k g
    have hup (cap n k : Nat) : up cap n k = capAdd cap n k := (capAdd_eq_min cap n k).symm
    simp only [hup]
    exact ⟨rfl, rfl⟩
  · intro x c n d
    exact ⟨rfl, rfl⟩
  intro s p tag name i hw hlaw hstock found
  have hfound : found = s.voidTests name := by
    cases name with
    | byClerk k =>
      rw [voidTests_byClerk]
      simp only [found, orRefuse]
      split_ifs with h
      · cases s.openOf ⟨k - 1, by omega⟩ <;> rfl
      · rfl
    | byNumber n =>
      rw [voidTests_byNumber]
      simp only [found, orRefuse]
      split_ifs
      · rfl
      · cases s.findTxn n <;> rfl
  clear_value found
  subst hfound
  cases htests : s.voidTests name with
  | error e => exact voidTransaction_refuses hw htests
  | ok x =>
    have hs := tableLaw_iff.1 hlaw
    have hx := voidTests_ok hs htests
    obtain ⟨v, link, hvoided, hexec, hreplied⟩ := voidTransaction_next hw htests hs.ascending
    have hmine : (x.lines.filter fun l => l.voided = false) = unvoided x.lines := by
      unfold unvoided; congr 1; funext l; cases l.voided <;> rfl
    refine ⟨_, hexec, hreplied, ?_⟩
    obtain ⟨clerks, hremoved⟩ := removedTxn_frame v x name p
    obtain ⟨held, closed, link', hv⟩ := hvoided.frame
    have hclerk (c : ClerkNo) : v.clerk c = s.clerk c := by rw [hv]; rfl
    refine ⟨?numbers, ?parked, ?clerk, ?clerks, ?lines, ?next, ?flights, ?routing, ?acc, ?day, ?reports, ?plus, ?rest⟩
    case numbers =>
      change (removedTxn v x name p).txn.held.map (·.number) = _
      rw [hremoved]
      change (v.txn.held.filter _).map (·.number) = _
      have hnumbers : v.txn.held.map (·.number) = s.txn.held.map (·.number) := hvoided.numbers
      rw [← hnumbers, List.filter_map]
      rfl
    case clerk =>
      change (removedTxn v x name p).clerk x.clerk = _
      have hsame := removedTxn_clerk_same v name p (by rw [hclerk]; exact openTxn_iff_not_parked hs hx)
      rw [hclerk] at hsame
      exact hsame.trans (by cases name <;> rfl)
    case clerks =>
      intro c hc
      exact (removedTxn_clerk_of_ne v x name p hc).trans (hclerk c)
    case lines =>
      intro mine apart
      refine ⟨fun n y hn hy hapart => ?_, fun hapart => ?_, ?_⟩
      · exact (removedTxn_findTxn_of_ne v x name p hn).trans (hvoided.others n y hn hy (hmine ▸ hapart))
      · change (removedTxn v x name p).txn.closed = _
        rw [hremoved]
        exact hvoided.closed (hmine ▸ hapart)
      · refine Eq.trans ?_ (cancelLabels_outlets mine s).symm
        rw [hremoved, hv, show mine = unvoided x.lines from hmine]
        rfl
    case plus =>
      intro r hr
      obtain ⟨r', hr', h⟩ := returnedLines_find (unvoided x.lines) (findPlu_of_mem (stockLaw_iff.1 hstock).order hr)
      refine ⟨r', ?_, h.number, h.fields, h.active, ?_⟩
      · rw [hremoved, hv]
        exact findPlu_mem hr'
      · rw [hmine]
        exact ⟨h.openLines, h.stock⟩
    all_goals rw [hremoved, hv]
    case rest => exact ⟨rfl, rfl, rfl, rfl⟩
    all_goals rfl

end Sys2Proof.Machine.Books

end

section
/-! PROOF. The calendar: the day after a date, the second after a moment, and the commands of the clocks (O31, O59). -/

namespace Sys2Proof.Machine.Calendar

open PlatterOps PluTable

/-! ### Dates (R94) -/

/-- The days of a month, as the statements write them. -/
theorem daysIn_eq (year month : Nat) : daysIn year month =
    if month = 2 then (if year % 4 = 0 then 29 else 28) else if month ∈ [4, 6, 9, 11] then 30 else 31 := by
  simp only [daysIn, isLeap, decide_eq_true_eq, List.mem_cons, List.not_mem_nil, or_false]

theorem date_real_iff (d : Date) : d.real = true ↔
    2000 ≤ d.year ∧ d.year ≤ 2099 ∧ 1 ≤ d.month ∧ d.month ≤ 12 ∧ 1 ≤ d.day ∧ d.day ≤ daysIn d.year d.month := by
  simp only [Date.real, Bool.and_eq_true, decide_eq_true_eq, and_assoc]

theorem time_real_iff (t : Time) : t.real = true ↔ t.hour ≤ 23 ∧ t.minute ≤ 59 ∧ t.second ≤ 59 := by
  simp only [Time.real, Bool.and_eq_true, decide_eq_true_eq, and_assoc]

theorem next_last : Date.last.next = Date.last := if_pos rfl

theorem next_of_day_lt {d : Date} (h : d ≠ Date.last) (hday : d.day < daysIn d.year d.month) :
    d.next = ⟨d.year, d.month, d.day + 1⟩ := by
  rw [Date.next, if_neg h, if_pos hday]

theorem next_of_last_day {d : Date} (h : d ≠ Date.last) (hday : d.day = daysIn d.year d.month) :
    d.next = if d.month < 12 then ⟨d.year, d.month + 1, 1⟩ else ⟨d.year + 1, 1, 1⟩ := by
  rw [Date.next, if_neg h, if_neg (by omega)]

theorem one_le_daysIn (year month : Nat) : 1 ≤ daysIn year month := by
  unfold daysIn; split_ifs <;> decide

/-- The day after a real date is a real date: only the last day of 2099 has no next year. -/
theorem next_real {d : Date} (h : d.real = true) : d.next.real = true := by
  by_cases hlast : d = Date.last
  · rw [hlast, next_last]; decide
  obtain ⟨hy, hy', hm, hm', hd, hd'⟩ := (date_real_iff d).1 h
  rw [date_real_iff]
  rcases Nat.lt_or_eq_of_le hd' with hday | hday
  · rw [next_of_day_lt hlast hday]
    exact ⟨hy, hy', hm, hm', Nat.le_add_left 1 _, hday⟩
  rw [next_of_last_day hlast hday]
  split_ifs with hmonth
  · exact ⟨hy, hy', Nat.le_add_left 1 _, hmonth, Nat.le_refl 1, one_le_daysIn _ _⟩
  · have hdec : d.month = 12 := by omega
    have hyear : d.year ≠ 2099 := fun he => hlast <| by
      have : d.day = 31 := by rw [hday, he, hdec]; rfl
      rw [Date.last, ← he, ← hdec, ← this]
    exact ⟨Nat.le_succ_of_le hy, Nat.lt_of_le_of_ne hy' hyear, Nat.le_refl 1, by dsimp only; omega, Nat.le_refl 1,
      one_le_daysIn _ _⟩

theorem advance_real {d : Date} (h : d.real = true) (n : Nat) : (Date.advance n d).real = true := by
  induction n with
  | zero => exact h
  | succ n ih => rw [Date.advance_succ]; exact next_real ih

/-! ### Seconds (R188, R190) -/

theorem tick_clockEnd : clockEnd.tick = clockEnd := if_pos rfl

section Tick
variable {c : DateTime}

theorem tick_of_second_lt (h : c.time.second < 59) :
    c.tick = ⟨c.date, ⟨c.time.hour, c.time.minute, c.time.second + 1⟩⟩ := by
  have hend : c ≠ clockEnd := by rintro rfl; exact absurd h (by decide)
  rw [DateTime.tick, if_neg hend, if_pos h]

theorem tick_of_minute_lt (hs : c.time.second = 59) (h : c.time.minute < 59) :
    c.tick = ⟨c.date, ⟨c.time.hour, c.time.minute + 1, 0⟩⟩ := by
  have hend : c ≠ clockEnd := by rintro rfl; exact absurd h (by decide)
  rw [DateTime.tick, if_neg hend, if_neg (by omega), if_pos h]

theorem tick_of_hour_lt (hs : c.time.second = 59) (hm : c.time.minute = 59) (h : c.time.hour < 23) :
    c.tick = ⟨c.date, ⟨c.time.hour + 1, 0, 0⟩⟩ := by
  have hend : c ≠ clockEnd := by rintro rfl; exact absurd h (by decide)
  rw [DateTime.tick, if_neg hend, if_neg (by omega), if_neg (by omega), if_pos h]

theorem tick_of_midnight (h : c.time = ⟨23, 59, 59⟩) (hend : c ≠ clockEnd) : c.tick = ⟨c.date.next, ⟨0, 0, 0⟩⟩ := by
  simp [DateTime.tick, hend, h]

end Tick

/-! ### The commands of the clocks -/

theorem exec_setClock (p : Port) (t : Tag) (d : Date) (h : Time) (s : State) :
    exec (.setClock p t d h) s = execSetClock p t d h s := rfl

theorem leaves_clockSecond (s : State) :
    Leaves .clockSecond s { s with clock := { s.clock with now := s.clock.now.tick } } := leaves_of_done rfl

/-- Settles O59: the second's cases by the lemma of the field that goes up, SET CLOCK by its range test, and the cap. -/
theorem clocks : Obligations.Clocks := by
  refine ⟨?_, ?_, fun s => leaves_of_done rfl⟩
  · intro s n becomes last days
    have hdays : days = daysIn n.date.year n.date.month := (daysIn_eq _ _).symm
    have hbecomes {x : DateTime} (h : n.tick = x) : becomes x := h ▸ leaves_clockSecond s
    refine ⟨fun h => hbecomes ?_, fun h => hbecomes (tick_of_second_lt h),
      fun hs hm => hbecomes (tick_of_minute_lt hs hm), fun hs hm hh => hbecomes (tick_of_hour_lt hs hm hh),
      fun htime hnot => ?_⟩
    · rw [show n = clockEnd from h, tick_clockEnd]
    have htick : n.tick = ⟨n.date.next, ⟨0, 0, 0⟩⟩ := tick_of_midnight htime hnot
    have hdate : n.date ≠ Date.last := fun h => hnot <| by
      show (⟨n.date, n.time⟩ : DateTime) = _
      rw [h, htime]; rfl
    rw [hdays]
    refine ⟨fun hday => hbecomes ?_, fun hday hmonth => hbecomes ?_, fun hday hmonth => hbecomes ?_⟩
    · rw [htick, next_of_day_lt hdate hday]
    · rw [htick, next_of_last_day hdate hday, if_pos hmonth]
    · rw [htick, next_of_last_day hdate hday, if_neg (by omega)]
  · intro s p t d h i hw days
    have hreal : (2000 ≤ d.year ∧ d.year ≤ 2099 ∧ 1 ≤ d.month ∧ d.month ≤ 12 ∧ 1 ≤ d.day ∧ d.day ≤ days ∧
        h.hour ≤ 23 ∧ h.minute ≤ 59 ∧ h.second ≤ 59) ↔ (d.real && h.real) = true := by
      rw [Bool.and_eq_true, date_real_iff, time_real_iff, daysIn_eq]
      simp only [and_assoc, days]
    by_cases htest : (d.real && h.real) = true
    · rw [if_pos (hreal.2 htest)]
      exact answers_takeRequest hw (exec_setClock ..) rfl rfl (if_pos htest)
    · rw [if_neg (mt hreal.1 htest)]
      exact refuses_takeRequest hw (exec_setClock ..) (if_neg htest)

end Sys2Proof.Machine.Calendar
end

section
/-! PROOF. A price request by weight: the tare it settles, the tests of the net weight, and the amount (O31). -/

namespace Sys2Proof.Machine.Pricing

open PlatterOps Calendar

/-! ### Rounding (R89, R92) -/

/-- The nearest multiple of `den`, a half going up. -/
theorem roundUp_nearest (num : Nat) {den : Nat} (h : 0 < den) :
    2 * num < 2 * (roundUp num den * den) + den ∧ 2 * (roundUp num den * den) ≤ 2 * num + den := by
  have hlow : (2 * num + den) / (2 * den) * (2 * den) ≤ 2 * num + den := Nat.div_mul_le_self _ _
  have hhigh : 2 * num + den < ((2 * num + den) / (2 * den) + 1) * (2 * den) :=
    Nat.lt_mul_of_div_lt (Nat.lt_succ_self _) (by omega)
  have hdouble : (2 * num + den) / (2 * den) * (2 * den) = 2 * (roundUp num den * den) := by
    rw [roundUp, ← Nat.mul_assoc, ← Nat.mul_assoc, Nat.mul_comm _ 2, Nat.mul_assoc]
  rw [Nat.add_mul, hdouble] at hhigh
  rw [hdouble] at hlow
  omega

/-! ### Tests passed and failed -/

theorem require_of {test : Prop} [Decidable test] {e : Result} (h : test) : require (decide test) e = .ok () := by
  rw [decide_eq_true h, require_true]

theorem require_of_not {test : Prop} [Decidable test] {e : Result} (h : ¬test) :
    require (decide test) e = .error e := by
  rw [decide_eq_false h, require_false]

/-- A test in its place: where it finds fault the refusal, and the rest where it finds none. -/
theorem require_not_bind {α : Type} {fault : Prop} [Decidable fault] (e : Result) (rest : Unit → Except Result α) :
    (require (!decide fault) e >>= rest) = if fault then .error e else rest () := by
  by_cases h : fault <;> simp [h]

/-! ### The price in force (R91) -/

/-- A promotion is in force where the business date lies between its dates, both included. -/
def PromotionInForce (f : PluFields) (business : Option Date) : Prop :=
  ∃ pr d, f.promotion = some pr ∧ business = some d ∧ pr.first.key ≤ d.key ∧ d.key ≤ pr.last.key

theorem unitPriceFor_of_inForce {f : PluFields} {business : Option Date} (h : PromotionInForce f business) :
    ∃ pr, f.promotion = some pr ∧ unitPriceFor f business = (pr.price, true) := by
  obtain ⟨pr, d, hpr, hd, hfirst, hlast⟩ := h
  exact ⟨pr, hpr, by simp [unitPriceFor, promotionFor, hpr, hd, hfirst, hlast]⟩

theorem unitPriceFor_of_not_inForce {f : PluFields} {business : Option Date} (h : ¬PromotionInForce f business) :
    unitPriceFor f business = (f.unitPrice, false) := by
  have hnone : promotionFor f business = none := by
    unfold promotionFor
    split
    · next pr d hpr => exact if_neg fun hdates => h ⟨pr, d, hpr, rfl, hdates⟩
    · rfl
  rw [unitPriceFor, hnone]

theorem unitPriceFor_flag (f : PluFields) (business : Option Date) :
    (unitPriceFor f business).2 = true ↔ PromotionInForce f business := by
  by_cases h : PromotionInForce f business
  · obtain ⟨pr, -, he⟩ := unitPriceFor_of_inForce h
    simp [he, h]
  · simp [unitPriceFor_of_not_inForce h, h]

/-! ### The tare (R89) -/

section Tare
variable {m : CaptureRecord}

theorem settleTare_plu {g : Nat} (hkind : m.tareKind = .none)
    (h : m.met.e1 ≤ m.met.roundTare g ∧ m.met.roundTare g ≤ m.met.max1) :
    settleTare m (some g) = .ok (some (m.met.roundTare g, .plu), m.grossFine - 1000 * m.met.roundTare g,
      m.met.roundWeight (m.grossFine - 1000 * m.met.roundTare g),
      m.met.divisionFor (m.grossFine - 1000 * m.met.roundTare g)) := by
  simp [settleTare, hkind, h.1, h.2]

theorem settleTare_out_of_limits {g : Nat} (hkind : m.tareKind = .none)
    (h : ¬(m.met.e1 ≤ m.met.roundTare g ∧ m.met.roundTare g ≤ m.met.max1)) :
    settleTare m (some g) = .error .tareLimit := by
  have : (decide (m.met.e1 ≤ m.met.roundTare g) && decide (m.met.roundTare g ≤ m.met.max1)) = false := by
    rw [← Bool.decide_and, decide_eq_false h]
  simp [settleTare, hkind, this]

theorem settleTare_untared (hkind : m.tareKind = .none) :
    settleTare m none = .ok (none, m.netFine, m.net, m.division) := by
  simp [settleTare, hkind]

/-- A capture made under a tare keeps it, whatever the PLU's. -/
theorem settleTare_platter (hkind : m.tareKind ≠ .none) (preset : Option Nat) :
    settleTare m preset = .ok (some (m.tare, .platter), m.netFine, m.net, m.division) := by
  unfold settleTare
  split
  · next h => exact absurd h hkind
  · next h => exact absurd h hkind
  · rfl

end Tare

/-! ### The net weight and the amount (R90, R92) -/

/-- The item of a net weight of a PLU priced by weight. -/
def weighedItem (set : PricingSettings) (business : Option Date) (today : Date) (f : PluFields) (quantity division : Nat)
    (tare : Option (Nat × TareSource)) : PricedItem :=
  let price := unitPriceFor f business
  ⟨.byWeight, quantity, some division, tare, price.1, price.2,
    stepRound set.step (roundUp (quantity * price.1) 1000), today, f.shelfLife.map fun days => Date.advance days today⟩

section Weighed
variable {set : PricingSettings} {business : Option Date} {today : Date} {f : PluFields} {m : CaptureRecord}
  {tare : Option (Nat × TareSource)} {fine net : Int} {division : Nat}

theorem priceQuantity_byWeight (hkind : f.kind = .byWeight) (quantity : Nat) :
    priceQuantity set business today f quantity (some division) tare =
      if 99999 < (weighedItem set business today f quantity division tare).amount then .error .priceLimit
      else .ok (weighedItem set business today f quantity division tare) := by
  have hraw (price : Nat) : rawAmount f.kind quantity price = roundUp (quantity * price) 1000 := by rw [hkind]; rfl
  simp only [priceQuantity, hraw]
  generalize hamount : stepRound set.step (roundUp (quantity * (unitPriceFor f business).1) 1000) = amount
  have hitem : (weighedItem set business today f quantity division tare).amount = amount := hamount
  rw [hitem]
  split_ifs with hlimit
  · rw [require_of_not (show ¬amount ≤ Config.lineAmountMax from Nat.not_le.2 hlimit), error_bind]
  · rw [require_of (show amount ≤ Config.lineAmountMax from Nat.not_lt.1 hlimit), ok_bind, weighedItem, hamount, hkind]
    rfl

/-- With its tare settled, a request is judged by its net weight, then by its fine weight, then by its amount. -/
theorem priceByWeight_eq (hkind : f.kind = .byWeight)
    (hsettled : settleTare m f.presetTare = .ok (tare, fine, net, division)) :
    priceByWeight set business today f m =
      if net < 0 then .error .negative
      else if net < 20 * m.met.e1 then .error .belowMin
      else if 1000 * m.met.max2 < fine then .error .overload
      else if 99999 < (weighedItem set business today f net.toNat division tare).amount then .error .priceLimit
      else .ok (weighedItem set business today f net.toNat division tare) := by
  simp only [priceByWeight, hsettled, ok_bind, ← priceQuantity_byWeight hkind]
  split_ifs with hneg hmin hmax
  · rw [require_of_not (Int.not_le.2 hneg), error_bind]
  · rw [require_of (Int.not_lt.1 hneg), ok_bind, require_of_not (Int.not_le.2 hmin), error_bind]
  · rw [require_of (Int.not_lt.1 hneg), ok_bind, require_of (Int.not_lt.1 hmin), ok_bind,
      require_of_not (Int.not_le.2 hmax), error_bind]
  · rw [require_of (Int.not_lt.1 hneg), ok_bind, require_of (Int.not_lt.1 hmin), ok_bind,
      require_of (Int.not_lt.1 hmax), ok_bind]

end Weighed

theorem priceByWeight_of_tareLimit {set : PricingSettings} {business : Option Date} {today : Date} {f : PluFields}
    {m : CaptureRecord} {e : Result} (h : settleTare m f.presetTare = .error e) :
    priceByWeight set business today f m = .error e := by
  rw [priceByWeight, h, error_bind]

/-- Settles O31: the calendar by the next day's lemmas; a request by the tare it settles (PLU, none, platter), then the
tests that `priceByWeight_eq` puts in order. -/
theorem pricingByWeight : Obligations.PricingByWeight := by
  refine ⟨?_, ?_⟩
  · intro d n e f days
    have hdays : days = daysIn e.year e.month := (daysIn_eq _ _).symm
    have hf : f = e.next := Date.advance_succ n d
    rw [hdays, hf]
    refine ⟨rfl, fun h => advance_real h n, fun h => ?_, fun h => ⟨next_of_day_lt h, next_of_last_day h⟩⟩
    rw [show e = Date.last from h, next_last]
  intro set business today f m hkind price weighed
  have hweighed {tare : Option (Nat × TareSource)} {fine net : Int} {division : Nat}
      (hsettled : settleTare m f.presetTare = .ok (tare, fine, net, division)) : weighed tare fine net division := by
    have hprice := priceByWeight_eq (set := set) (business := business) (today := today) hkind hsettled
    refine ⟨fun hneg => ?_, fun hpos hmin => ?_, fun hpos hmin hmax => ?_, fun hpos hmin hmax => ?_⟩
    · exact hprice.trans (if_pos hneg)
    · rw [if_neg (Int.not_lt.2 hpos), if_pos hmin] at hprice
      exact hprice
    · rw [if_neg (Int.not_lt.2 hpos), if_neg (Int.not_lt.2 hmin), if_pos hmax] at hprice
      exact hprice
    rw [if_neg (Int.not_lt.2 hpos), if_neg (Int.not_lt.2 hmin), if_neg (Int.not_lt.2 hmax)] at hprice
    intro inForce
    let unit := (unitPriceFor f business).1
    let raw := roundUp (net.toNat * unit) 1000
    have hraw := roundUp_nearest (net.toNat * unit) (den := 1000) (by decide)
    refine ⟨unit, raw, roundUp raw set.step, fun h pr hpr => ?_, fun h => ?_, ?_, ?_, roundUp_nearest raw,
      fun hlimit => hprice.trans (if_pos hlimit), fun hlimit => ⟨_, unitPriceFor_flag f business, ?_⟩⟩
    · obtain ⟨pr', hpr', he⟩ := unitPriceFor_of_inForce h
      obtain rfl : pr = pr' := Option.some.inj (hpr.symm.trans hpr')
      exact congrArg Prod.fst he
    · exact congrArg Prod.fst (unitPriceFor_of_not_inForce h)
    · show 2 * (net.toNat * unit) < 2000 * raw + 1000
      omega
    · show 2000 * raw ≤ 2 * (net.toNat * unit) + 1000
      omega
    · exact hprice.trans (if_neg (Nat.not_lt.2 hlimit))
  split
  · next g htare hpreset =>
    intro he
    have hround := roundUp_nearest g he
    have hlimits : m.met.e1 ≤ m.met.roundTare g ↔ roundUp g m.met.e1 ≠ 0 := by
      rw [Metrology.roundTare, le_mul_iff_one_le_left he, Nat.one_le_iff_ne_zero]
    refine ⟨roundUp g m.met.e1, hround.1, hround.2, fun hout => ?_, fun hk hmax => ?_⟩
    · refine priceByWeight_of_tareLimit ?_
      rw [hpreset]
      refine settleTare_out_of_limits htare fun hin => ?_
      rcases hout with hzero | hmax
      · exact hlimits.1 hin.1 hzero
      · exact Nat.not_lt.2 hin.2 hmax
    · refine hweighed ?_
      rw [hpreset]
      exact settleTare_plu htare ⟨hlimits.2 hk, hmax⟩
  · next htare hpreset => exact hweighed (by rw [hpreset]; exact settleTare_untared htare)
  · next hsome hnone =>
    refine hweighed (settleTare_platter (fun htare => ?_) _)
    cases hpreset : f.presetTare with
    | none => exact hnone htare hpreset
    | some g => exact hsome g htare hpreset

end Sys2Proof.Machine.Pricing
end

section
/-! PROOF. CLERK WRITE, CONFIGURE STATION and READ CLERK (O32). -/

namespace Sys2Proof.Machine.Clerks

open PlatterOps PluTable Pricing

/-! ### The arms of `exec` -/

section Arms
variable (p : Port) (t : Tag) (n : Nat) (s : State)

theorem exec_clerkWrite (name : Text) (on : Bool) :
    exec (.clerkWrite p t n name on) s = execClerkWrite p t n name on s := rfl
theorem exec_configureStation (q : Port) (f : StationFields) :
    exec (.configureStation p t q f) s = execConfigureStation p t q f s := rfl
theorem exec_readClerk : exec (.readClerk p t n) s = execReadClerk p t n s := rfl

end Arms

/-! ### CLERK WRITE (R103, R104) -/

section Write
variable {s : State} {n : Nat} {name : Text} {on : Bool} {c : ClerkNo}

theorem hasParked_iff : s.hasParked c = true ↔ ∃ x ∈ s.txn.held, x.clerk = c ∧ x.parkedAt ≠ none := by
  simp [State.hasParked, Option.isSome_iff_ne_none]

theorem clerkWriteTests_badValue (h : n < 1 ∨ 16 < n ∨ 12 < name.length) :
    s.clerkWriteTests n name on = .error .badValue := by
  unfold State.clerkWriteTests
  by_cases hout : n < 1 ∨ 16 < n
  · rw [namedClerk_of_out hout, error_bind]
  · obtain ⟨c, hc⟩ : ∃ c : ClerkNo, n = c.val + 1 := ⟨⟨n - 1, by omega⟩, by dsimp only; omega⟩
    rw [namedClerk_of_val hc, ok_bind, require_of_not (by omega), error_bind]

/-- A named clerk is disabled only with no transaction in hand, OPEN or PARKED. -/
theorem clerkWriteTests_named (hname : name.length ≤ 12) (hc : n = c.val + 1) :
    s.clerkWriteTests n name on =
      if on = false ∧ ((s.clerk c).openTxn ≠ none ∨ ∃ x ∈ s.txn.held, x.clerk = c ∧ x.parkedAt ≠ none) then
        .error .inUse
      else .ok c := by
  unfold State.clerkWriteTests
  have hbusy : (on || ((s.clerk c).openTxn.isNone && !s.hasParked c)) =
      !decide (on = false ∧ ((s.clerk c).openTxn ≠ none ∨ ∃ x ∈ s.txn.held, x.clerk = c ∧ x.parkedAt ≠ none)) := by
    simp only [← hasParked_iff]
    cases on <;> cases (s.clerk c).openTxn <;> simp
  rw [namedClerk_of_val hc, ok_bind, require_of hname, ok_bind, hbusy, require_not_bind]
  rfl

theorem clerkWriteTests_taken (p : Port) (t : Tag) (i : Instr) :
    (s.taken p t i).clerkWriteTests n name on = s.clerkWriteTests n name on := rfl

end Write

/-! ### CONFIGURE STATION (R87, R113) -/

theorem optional_eq_not_any {α : Type} {test bad : α → Bool} (h : ∀ a, test a = !bad a) (x : Option α) :
    optional test x = !x.any bad := by
  cases x with
  | none => rfl
  | some a => exact h a

theorem configureStationTests_office (p : Port) (f : StationFields) :
    configureStationTests p .office f = .error .badValue := rfl

/-- The tests of R113 and R87 for a station, in order. -/
theorem configureStationTests_station (p : Port) (st : Station) (f : StationFields) :
    configureStationTests p (.station st) f =
      if p ≠ .office ∧ p ≠ .station st then .error .denied
      else if (f.prefixDigit ≠ none ∨ f.step ≠ none) ∧ p ≠ .office then .error .denied
      else if f.prefixDigit.any (fun d => 9 < d) ∨ f.step.any (fun n => n ∉ [1, 5, 10]) then .error .badValue
      else if f.callSet.any (fun set => 16 ≤ set.toNat) then .error .badValue
      else .ok st := by
  have hport : (decide (p = .office) || decide (p = .station st)) = !decide (p ≠ .office ∧ p ≠ .station st) := by
    by_cases h : p = .office <;> simp [h]
  have hwide : (!hasStoreWide f || decide (p = .office)) =
      !decide ((f.prefixDigit ≠ none ∨ f.step ≠ none) ∧ p ≠ .office) := by
    cases hp : f.prefixDigit <;> cases hs : f.step <;> simp [hasStoreWide, hp, hs]
  have hstep (n : Nat) : (decide (n = 1) || decide (n = 5) || decide (n = 10)) = !decide (n ∉ [1, 5, 10]) := by
    simp [Bool.or_assoc]
  have hvalues : (optional (fun d => decide (d ≤ 9)) f.prefixDigit &&
      optional (fun n => decide (n = 1) || decide (n = 5) || decide (n = 10)) f.step) =
      !decide (f.prefixDigit.any (fun d => 9 < d) = true ∨ f.step.any (fun n => n ∉ [1, 5, 10]) = true) := by
    rw [optional_eq_not_any (bad := fun d => decide (9 < d))
        (fun d => by rw [← decide_not, decide_eq_decide, Nat.not_lt]), optional_eq_not_any hstep,
      Bool.decide_or, Bool.decide_eq_true, Bool.decide_eq_true, Bool.not_or]
  have hset : optional (fun set : CallSet => decide (set.toNat < 16)) f.callSet =
      !decide (f.callSet.any (fun set => 16 ≤ set.toNat) = true) := by
    rw [optional_eq_not_any (bad := fun set : CallSet => decide (16 ≤ set.toNat))
        (fun set => by rw [← decide_not, decide_eq_decide, Nat.not_le]),
      Bool.decide_eq_true]
  unfold configureStationTests
  simp only [Port.station?, orRefuse, ok_bind, hport, hwide, hvalues, hset, require_not_bind]
  rfl

/-! ### READ CLERK (R128) -/

/-- A clerk's PARKED transactions, each number looked up in turn. -/
theorem parkedOf_eq (s : State) (c : ClerkNo) : s.parkedOf c =
    s.txn.parked.filterMap fun k => (s.findTxn k).bind fun x => if x.clerk = c then some x.number else none := by
  unfold State.parkedOf
  induction s.txn.parked with
  | nil => rfl
  | cons k ks ih =>
    cases hx : s.findTxn k with
    | none => simpa [hx] using ih
    | some x => by_cases hc : x.clerk = c <;> simpa [hx, hc] using ih

/-- Settles O32: each request by its tests in order, then by what it sets or shows. -/
theorem clerksAndStations : Obligations.ClerksAndStations := by
  refine ⟨?_, ?_, ?_⟩
  · intro s p t n name on i hw
    refine ⟨fun hbad => ?_, fun hname c hc => ?_⟩
    · have htests := clerkWriteTests_badValue (s := s) (on := on) hbad
      exact refuses_takeRequest hw (exec_clerkWrite ..) (by simp only [clerkWriteTests_taken, htests])
    have htests := clerkWriteTests_named (s := s) (on := on) hname hc
    split_ifs at htests ⊢ with hbusy
    · exact refuses_takeRequest hw (exec_clerkWrite ..) (by simp only [clerkWriteTests_taken, htests])
    · exact answers_takeRequest hw (exec_clerkWrite ..) rfl rfl (by simp only [clerkWriteTests_taken, htests]; rfl)
  · intro s p t q f i hw
    cases q with
    | office =>
      exact refuses_takeRequest hw (exec_configureStation ..) (by simp only [configureStationTests_office])
    | station st =>
      have htests := configureStationTests_station p st f
      dsimp only
      split_ifs at htests ⊢ with hdenied hwide hvalue hcall
      · exact refuses_takeRequest hw (exec_configureStation ..) (by simp only [htests])
      · exact refuses_takeRequest hw (exec_configureStation ..) (by simp only [htests])
      · exact refuses_takeRequest hw (exec_configureStation ..) (by simp only [htests])
      · exact refuses_takeRequest hw (exec_configureStation ..) (by simp only [htests])
      · exact answers_takeRequest hw (exec_configureStation ..) rfl rfl (by simp only [htests]; rfl)
  · intro s p t n hw
    refine ⟨fun hout => ?_, fun c hc => ⟨_, (parkedOf_eq s c), ?_⟩⟩
    · exact refuses_takeRequest hw (exec_readClerk ..) (by simp only [namedClerk_of_out hout])
    · exact answers_takeRequest hw (exec_readClerk ..) rfl rfl (by simp only [namedClerk_of_val hc]; rfl)

end Sys2Proof.Machine.Clerks
end

section
/-! PROOF. The lines of every kind of job, REPRINT TOTAL and READ TRANSACTION (O40). -/

namespace Sys2Proof.Machine.Labels

open PlatterOps PluTable Books Pricing

/-! ### Lines and their length (R97) -/

theorem cut_eq_take : cut = List.take 32 := rfl

theorem cut_of_length_le {line : Text} (h : line.length ≤ 32) : cut line = line := List.take_of_length_le h

theorem length_figureOf {w n : Nat} (hw : 0 < w) (h : n < 10 ^ w) : (figureOf w n).length = w := by
  have := (length_figure_le hw).2 h
  rw [figureOf, List.length_append, List.length_replicate]
  omega

theorem length_asText (word : String) : (asText word).length = word.toList.length := List.length_map _

theorem length_momentFigure {m : DateTime} (hd : m.date.real = true) (ht : m.time.real = true) :
    (momentFigure m).length = 19 := by
  obtain ⟨-, hy, -, hm, -, hday⟩ := (Calendar.date_real_iff _).1 hd
  obtain ⟨hh, hmin, hs⟩ := (Calendar.time_real_iff _).1 ht
  have hdays : m.date.day < 10 ^ 2 := by
    unfold daysIn at hday; split_ifs at hday <;> omega
  simp only [momentFigure, dateFigure, List.length_append, length_asText,
    length_figureOf (w := 4) (by decide) (show m.date.year < 10 ^ 4 by omega),
    length_figureOf (w := 2) (by decide) (show m.date.month < 10 ^ 2 by omega),
    length_figureOf (w := 2) (by decide) hdays,
    length_figureOf (w := 2) (by decide) (show m.time.hour < 10 ^ 2 by omega),
    length_figureOf (w := 2) (by decide) (show m.time.minute < 10 ^ 2 by omega),
    length_figureOf (w := 2) (by decide) (show m.time.second < 10 ^ 2 by omega)]
  rfl

theorem length_ticketFigure {k : TicketId} (h : k.number ≤ 99) : (ticketFigure k).length ≤ 3 := by
  have hn : (figure k.number).length ≤ 2 := (length_figure_le (by decide)).2 (by omega)
  have hc (word : String) (hw : word.toList.length = 1) : (asText word ++ figure k.number).length ≤ 3 := by
    rw [List.length_append, length_asText]; omega
  unfold ticketFigure
  cases k.cls <;> exact hc _ rfl

theorem length_portFigure (p : Port) : (portFigure p).length ≤ 2 := by
  cases p with
  | office => decide +kernel
  | station st => cases st <;> decide +kernel

/-! ### Item labels (R98) -/

theorem itemLabel_lines (set : PricingSettings) (plu : Nat) {f : PluFields} {item : PricedItem} (c : ClerkNo)
    (name : Text) (p : Port) (hquantity : item.quantity < 1000000000) (hprice : item.unitPrice ≤ 999999)
    (hamount : item.amount ≤ 99999) (hpacked : item.packed.real = true)
    (hsell : ∀ d, item.sellBy = some d → d.real = true) :
    (itemLabel set plu f item c name p).lines = ([f.name] ++ f.second.toList ++
      [if item.kind = .byWeight then asText "NET " ++ figure item.quantity ++ asText " g"
        else figure item.quantity ++ asText " x",
       (if item.promotion then asText "PROMO " else []) ++ moneyFigure item.unitPrice ++
        asText (if item.kind = .byWeight then " /kg" else " /ea"),
       asText "PRICE " ++ moneyFigure item.amount, asText "PACKED " ++ dateFigure item.packed] ++
      (item.sellBy.map fun d => asText "USE BY " ++ dateFigure d).toList ++
      [asText "CLK " ++ figureOf 2 (c.val + 1) ++ asText " " ++ name ++ asText " " ++ portFigure p,
       labelCodeText set.prefixDigit plu item.amount]).map (List.take 32) := by
  have hdate : (item.sellBy.map fun d => asText "USE BY " ++ dateText d) =
      item.sellBy.map fun d => asText "USE BY " ++ dateFigure d :=
    Option.map_congr fun d hd => by rw [dateText_eq (hsell d hd)]
  simp only [itemLabel, cut_eq_take, hdate, decimal_eq_figure (show item.quantity < 10 ^ 21 by omega),
    amountText_eq (show item.unitPrice < 10 ^ 21 by omega), amountText_eq (show item.amount < 10 ^ 21 by omega),
    dateText_eq hpacked, clerkText_eq, portText_eq]
  cases item.kind <;> rfl

/-! ### Total labels and copies (R99, R100) -/

theorem totalItemLine_eq {l : Line} (h : l.amount ≤ 99999) :
    totalItemLine l = l.name.take 12 ++ List.replicate (12 - l.name.length) 0x20#8 ++ asText " " ++
      List.replicate (9 - (moneyFigure l.amount).length) 0x20#8 ++ moneyFigure l.amount := by
  have hpad : padRight 12 l.name = l.name.take 12 ++ List.replicate (12 - l.name.length) 0x20#8 := by
    rw [padRight, List.take_append, List.take_replicate, Nat.min_eq_left (Nat.sub_le _ _)]
  rw [totalItemLine, hpad, padLeft, amountText_eq (by omega)]
  simp only [List.append_assoc]

theorem unvoided_eq (lines : List Line) : unvoided lines = lines.filter fun l => l.voided = false :=
  List.filter_congr fun l _ => by cases l.voided <;> rfl

theorem totalLabel_lines (set : PricingSettings) (copy : Bool) {number : Nat} (c : ClerkNo) (name : Text)
    {ticket : Option TicketId} {subtotal : Nat} {lines : List Line} {m : DateTime} (p : Port) (hnumber : number ≤ 9999)
    (hticket : ∀ k, ticket = some k → k.number ≤ 99) (hsubtotal : subtotal ≤ 9999999) (hroom : lines.length ≤ 40)
    (hamounts : ∀ l ∈ lines, l.amount ≤ 99999) (hd : m.date.real = true) (ht : m.time.real = true) :
    let sold := lines.filter fun l => l.voided = false
    (totalLabel set copy number c name ticket subtotal lines m p).lines =
      ([asText (if copy then "SALE COPY" else "SALE")] ++
        (ticket.map fun k => asText "TICKET " ++ ticketFigure k).toList ++
        [asText "CLK " ++ figureOf 2 (c.val + 1) ++ asText " " ++ name ++ asText " TXN " ++ figureOf 4 number,
         momentFigure m] ++
        (sold.map fun l => l.name.take 12 ++ List.replicate (12 - l.name.length) 0x20#8 ++ asText " " ++
          List.replicate (9 - (moneyFigure l.amount).length) 0x20#8 ++ moneyFigure l.amount) ++
        [asText "ITEMS " ++ figure sold.length, asText "TOTAL " ++ moneyFigure subtotal] ++
        (if subtotal ≤ 99999 then [labelCodeText set.prefixDigit 0 subtotal] else [])).map (List.take 32) := by
  intro sold
  have htickets : (ticket.map fun k => asText "TICKET " ++ ticketText k) =
      ticket.map fun k => asText "TICKET " ++ ticketFigure k :=
    Option.map_congr fun k hk => by rw [ticketText_eq (hticket k hk)]
  have hsold : sold.map totalItemLine = sold.map fun l => l.name.take 12 ++
      List.replicate (12 - l.name.length) 0x20#8 ++ asText " " ++
        List.replicate (9 - (moneyFigure l.amount).length) 0x20#8 ++ moneyFigure l.amount :=
    List.map_congr_left fun l hl => totalItemLine_eq (hamounts l (List.mem_of_mem_filter hl))
  have hlength : sold.length ≤ 40 := (List.length_filter_le _ _).trans hroom
  have hword : (if copy then asText "SALE COPY" else asText "SALE") = asText (if copy then "SALE COPY" else "SALE") :=
    (apply_ite asText _ _ _).symm
  simp only [totalLabel, cut_eq_take, htickets, hword, unvoided_eq, clerkText_eq, momentText_eq hd ht,
    digits_eq_figureOf (w := 4) (by decide) (show number < 10 ^ 4 by omega),
    amountText_eq (show subtotal < 10 ^ 21 by omega)]
  rw [show lines.filter (fun l => l.voided = false) = sold from rfl, hsold,
    decimal_eq_figure (show sold.length < 10 ^ 21 by omega)]
  rfl

/-! ### Ticket jobs and display jobs (R101, R102) -/

theorem ticketJob_lines {k : TicketId} {ahead : Nat} {m : DateTime} (hk : k.number ≤ 99) (hahead : ahead < 1000000000)
    (hd : m.date.real = true) (ht : m.time.real = true) :
    (ticketJob k ahead m).lines = [ticketFigure k, asText "AHEAD " ++ figure ahead, momentFigure m] := by
  have hticket : (ticketFigure k).length ≤ 32 := (length_ticketFigure hk).trans (by decide)
  have hfigure : (asText "AHEAD " ++ figure ahead).length ≤ 32 := by
    have hn : (figure ahead).length ≤ 9 := (length_figure_le (by decide)).2 (by omega)
    have hword : (asText "AHEAD ").length = 6 := length_asText _
    rw [List.length_append, hword]; omega
  have hmoment : (momentFigure m).length ≤ 32 := (length_momentFigure hd ht).trans_le (by decide)
  simp only [ticketJob, ticketText_eq hk, decimal_eq_figure (show ahead < 10 ^ 21 by omega), momentText_eq hd ht,
    List.map_cons, List.map_nil, cut_of_length_le hticket, cut_of_length_le hfigure, cut_of_length_le hmoment]

theorem displayJob_lines {recent : List (TicketId × Port)} (p : Port) (h : ∀ e ∈ recent, e.1.number ≤ 99) :
    (displayJob recent p).lines = recent.map fun e => ticketFigure e.1 ++ asText " > " ++ portFigure e.2 := by
  refine List.map_congr_left fun e he => ?_
  have hticket := length_ticketFigure (h e he)
  have hport := length_portFigure e.2
  have hword : (asText " > ").length = 3 := length_asText _
  rw [ticketText_eq (h e he), portText_eq]
  refine cut_of_length_le ?_
  rw [List.length_append, List.length_append, hword]
  omega

/-! ### REPRINT TOTAL (R112, R124) -/

section Reprint
variable {s : State} {p : Port} {t : Tag} {n : Nat}

theorem exec_reprintTotal (p : Port) (t : Tag) (n : Nat) (s : State) :
    exec (.reprintTotal p t n) s = execReprintTotal p t n s := rfl

theorem reprintTests_taken (s : State) (q : Port) (t : Tag) (i : Instr) (n : Nat) :
    (s.taken q t i).reprintTests n = s.reprintTests n := rfl

theorem txnNumberInRange_eq (n : Nat) : txnNumberInRange n = !decide (n < 1 ∨ 9999 < n) := by
  rw [txnNumberInRange, ← decide_not, ← Bool.decide_and, decide_eq_decide]; omega

/-- A transaction number's range, then the closed list. -/
theorem reprintTests_eq (s : State) (n : Nat) : s.reprintTests n =
    if n < 1 ∨ 9999 < n then .error .badValue
    else orRefuse (s.txn.closed.find? fun e => e.number = n) .noSuch := by
  rw [State.reprintTests, txnNumberInRange_eq, require_not_bind]

theorem reprintTotal_refuses {e : Result} (hw : Waiting s p t (.reprintTotal p t n)) (h : s.reprintTests n = .error e) :
    Refuses (.reprintTotal p t n) p t s e :=
  refuses_takeRequest hw (exec_reprintTotal ..) (by simp only [reprintTests_taken, h])

variable {e : ClosedEntry}

/-- The copy of a closed transaction's total label. -/
def totalCopy (s : State) (e : ClosedEntry) (p : Port) : Job :=
  totalLabel s.pricing true e.number e.clerk e.clerkName e.ticket e.subtotal e.lines e.closedAt p

/-- What becomes of a label is decided by the routing, the outlets and the prices, which taking a request leaves. -/
theorem routeLabel_taken (s : State) (p q : Port) (t : Tag) (i : Instr) (job : Job) :
    (s.taken q t i).routeLabel p job =
      ((s.labelOutlets p).find? fun o => ((s.outletOf o).offer job).isSome).bind fun o =>
        ((s.outletOf o).offer job).map fun y => ((s.taken q t i).setOutlet o y.1, o, y.2) :=
  offerInOrder_eq (s.taken q t i) job (s.labelOutlets p)

theorem reprintTotal_without_outlet (hw : Waiting s p t (.reprintTotal p t n)) (h : s.reprintTests n = .ok e)
    (hnone : (s.labelOutlets p).find? (fun o => ((s.outletOf o).offer (totalCopy s e p)).isSome) = none) :
    Refuses (.reprintTotal p t n) p t s .noOutlet := by
  have hroute := routeLabel_taken s p p t (.reprintTotal p t n) (totalCopy s e p)
  rw [hnone, Option.bind_none, totalCopy] at hroute
  exact refuses_takeRequest hw (exec_reprintTotal ..) (by simp only [reprintTests_taken, h, State.taken_pricing, hroute])

theorem reprintTotal_offered {o : OutletId} {x : Outlet} {id : Nat} (hw : Waiting s p t (.reprintTotal p t n))
    (h : s.reprintTests n = .ok e)
    (hfirst : (s.labelOutlets p).find? (fun o => ((s.outletOf o).offer (totalCopy s e p)).isSome) = some o)
    (hoffer : (s.outletOf o).offer (totalCopy s e p) = some (x, id)) :
    Answers (.reprintTotal p t n) p t s .ok (.reprinted o id) (s.setOutlet o x) := by
  have hroute := routeLabel_taken s p p t (.reprintTotal p t n) (totalCopy s e p)
  rw [hfirst, Option.bind_some, hoffer, Option.map_some, totalCopy] at hroute
  exact answers_takeRequest hw (exec_reprintTotal ..) rfl rfl
    (by simp only [reprintTests_taken, h, State.taken_pricing, hroute]; rfl)

end Reprint

/-! ### READ TRANSACTION (R128) -/

section Read
variable {s : State} {p : Port} {t : Tag} {name : TxnName} {first : Nat}

theorem exec_readTransaction (p : Port) (t : Tag) (name : TxnName) (first : Nat) (s : State) :
    exec (.readTransaction p t name first) s = execReadTransaction p t name first s := rfl

theorem readTxn_taken (s : State) (q : Port) (t : Tag) (i : Instr) (name : TxnName) (first : Nat) :
    (s.taken q t i).readTxn name first = s.readTxn name first := rfl

theorem readTransaction_refuses {e : Result} (hw : Waiting s p t (.readTransaction p t name first))
    (h : s.readTxn name first = .error e) : Refuses (.readTransaction p t name first) p t s e :=
  refuses_takeRequest hw (exec_readTransaction ..) (by simp only [readTxn_taken, h])

theorem readTransaction_shows {v : Payload} (hw : Waiting s p t (.readTransaction p t name first))
    (h : s.readTxn name first = .ok v) : Answers (.readTransaction p t name first) p t s .ok v s :=
  answers_takeRequest hw (exec_readTransaction ..) rfl rfl (by simp only [readTxn_taken, h]; rfl)

theorem lineIndexInRange_eq (first : Nat) :
    (decide (1 ≤ first) && decide (first ≤ 40)) = !decide (first < 1 ∨ 40 < first) := by
  rw [← decide_not, ← Bool.decide_and, decide_eq_decide]; omega

theorem readTxn_index_out (h : first < 1 ∨ 40 < first) : s.readTxn name first = .error .badValue := by
  unfold State.readTxn
  rw [lineIndexInRange_eq, require_not_bind, if_pos h]

/-- A held transaction as READ TRANSACTION shows it. -/
def heldView (first : Nat) (x : Txn) : Payload := .heldTxn { x with lines := pageLines first x.lines } x.lines.length

/-- A closed entry as READ TRANSACTION shows it. -/
def closedView (first : Nat) (e : ClosedEntry) : Payload :=
  .closedTxn { e with lines := pageLines first e.lines } e.lines.length

theorem readTxn_byClerk (h : ¬(first < 1 ∨ 40 < first)) (n : Nat) : s.readTxn (.byClerk n) first =
    (namedClerk n).bind fun c => (orRefuse (s.openOf c) .noSuch).map (heldView first) := by
  simp only [State.readTxn, lineIndexInRange_eq, require_not_bind, if_neg h]
  rfl

theorem readTxn_byNumber (h : ¬(first < 1 ∨ 40 < first)) (n : Nat) : s.readTxn (.byNumber n) first =
    if n < 1 ∨ 9999 < n then .error .badValue
    else
      match s.findTxn n with
      | some x => .ok (heldView first x)
      | none => (orRefuse (s.txn.closed.find? fun e => e.number = n) .noSuch).map (closedView first) := by
  simp only [State.readTxn, lineIndexInRange_eq, txnNumberInRange_eq, require_not_bind, if_neg h]
  rfl

end Read

/-- Settles O40: every job's lines by the lemma of its kind, REPRINT TOTAL by the outlet that takes the copy, and READ
TRANSACTION by what its name finds. -/
theorem reprintsReadingsAndJobs : Obligations.ReprintsReadingsAndJobs := by
  refine ⟨?_, ?_, ?_, ?_, ?_, ?_⟩
  · intro set plu f item c name p hprefix _ hquantity hprice hamount hpacked hsell
    exact ⟨_, labelCodeText_code hprefix plu item.amount, rfl, rfl, rfl,
      itemLabel_lines set plu c name p hquantity hprice hamount hpacked hsell⟩
  · intro set copy number c name ticket subtotal lines m p hprefix hnumber hticket hsubtotal hroom hamounts hd ht
    exact ⟨_, labelCodeText_code hprefix 0 subtotal, rfl, rfl, rfl,
      totalLabel_lines set copy c name p hnumber hticket hsubtotal hroom hamounts hd ht⟩
  · intro k ahead m hk hahead hd ht
    exact ⟨rfl, rfl, rfl, ticketJob_lines hk hahead hd ht⟩
  · intro recent p h
    exact ⟨rfl, rfl, rfl, displayJob_lines p h⟩
  · intro s p t n i hw
    have htests := reprintTests_eq s n
    split_ifs at htests ⊢ with hrange
    · exact reprintTotal_refuses hw htests
    cases hfind : s.txn.closed.find? fun e => e.number = n with
    | none =>
      rw [hfind] at htests
      exact reprintTotal_refuses hw htests
    | some e =>
      rw [hfind] at htests
      dsimp only
      split
      · next hnone => exact reprintTotal_without_outlet hw htests hnone
      · next o hfirst => exact fun x id hoffer => reprintTotal_offered hw htests hfirst hoffer
  · intro s p t name first i hw page shows
    by_cases hindex : first < 1 ∨ 40 < first
    · rw [if_pos hindex]
      exact readTransaction_refuses hw (readTxn_index_out hindex)
    rw [if_neg hindex]
    cases name with
    | byClerk k =>
      have hread := readTxn_byClerk (s := s) hindex k
      refine ⟨fun hout => ?_, fun c hc => ?_⟩
      · rw [namedClerk_of_out hout] at hread
        exact readTransaction_refuses hw hread
      rw [namedClerk_of_val hc, Except.bind] at hread
      cases hopen : s.openOf c with
      | none =>
        rw [hopen] at hread
        exact readTransaction_refuses hw hread
      | some x =>
        rw [hopen] at hread
        exact readTransaction_shows hw hread
    | byNumber n =>
      have hread := readTxn_byNumber (s := s) hindex n
      dsimp only
      split_ifs at hread ⊢ with hrange
      · exact readTransaction_refuses hw hread
      cases hfind : s.findTxn n with
      | some x =>
        rw [hfind] at hread
        exact readTransaction_shows hw hread
      | none =>
        cases hclosed : s.txn.closed.find? fun e => e.number = n with
        | some e =>
          rw [hfind, hclosed] at hread
          exact readTransaction_shows hw hread
        | none =>
          rw [hfind, hclosed] at hread
          exact readTransaction_refuses hw hread

end Sys2Proof.Machine.Labels
end

section
/-! PROOF. The recent calls and the displays, the call timer, and RECALL (O47). -/

namespace Sys2Proof.Machine.Calls

open PlatterOps PluTable Pricing

/-! ### A job offered to several outlets (R141) -/

/-- An outlet once a job was offered to it: with the job where it accepts it. -/
def afterOffer (job : Job) (x : Outlet) : Outlet := ((x.offer job).map (·.1)).getD x

/-- The outlets once a job was offered to each of some. -/
def offered (job : Job) (os : List OutletId) (outlets : PerOutlet Outlet) : PerOutlet Outlet :=
  os.foldl (fun m o => m.set o (afterOffer job (m.get o))) outlets

theorem offer_getD (s : State) (o : OutletId) (job : Job) :
    ((s.offer o job).map (·.1)).getD s = s.setOutlet o (afterOffer job (s.outletOf o)) := by
  unfold State.offer afterOffer
  cases (s.outletOf o).offer job with
  | none => simp [State.setOutlet, State.outletOf]
  | some y => rfl

theorem offerEach_eq (s : State) (job : Job) (os : List OutletId) :
    s.offerEach job os = { s with outlets := offered job os s.outlets } := by
  induction os generalizing s with
  | nil => rfl
  | cons o os ih =>
    have := ih (s.setOutlet o (afterOffer job (s.outletOf o)))
    rw [← offer_getD] at this
    refine this.trans ?_
    rw [offer_getD]; rfl

theorem offered_get {job : Job} {os : List OutletId} (h : os.Nodup) (outlets : PerOutlet Outlet) (o : OutletId) :
    (offered job os outlets).get o = if o ∈ os then afterOffer job (outlets.get o) else outlets.get o := by
  induction os generalizing outlets with
  | nil => rfl
  | cons a os ih =>
    obtain ⟨ha, hos⟩ := List.nodup_cons.1 h
    have hrest := ih hos (outlets.set a (afterOffer job (outlets.get a)))
    rw [PerOutlet.get_set] at hrest
    refine Eq.trans hrest ?_
    by_cases ho : o = a
    · subst ho; simp [ha]
    · simp [ho]

theorem nodup_outletsOf (s : State) (kind : OutletKind) : (s.outletsOf kind).Nodup :=
  (show OutletId.all.Nodup by decide).filter _

theorem mem_outletsOf (s : State) (kind : OutletKind) (o : OutletId) :
    o ∈ s.outletsOf kind ↔ (s.outletOf o).kind = kind := by
  have : o ∈ OutletId.all := by cases o <;> decide
  simp [State.outletsOf, this]

/-! ### The recent calls (R102, R146) -/

/-- The outlets once a call is shown: each DISPLAY outlet has been offered the display job. -/
def displayed (s : State) (k : TicketId) (p : Port) : PerOutlet Outlet :=
  offered (displayJob (takeRecent k p s.queue.recent) p) (s.outletsOf .display) s.outlets

theorem showCall_eq (s : State) (k : TicketId) (p : Port) : s.showCall k p = { s with
    queue := { s.queue with recent := takeRecent k p s.queue.recent }, outlets := displayed s k p } :=
  offerEach_eq _ _ _

theorem displayed_get (s : State) (k : TicketId) (p : Port) (o : OutletId) : (displayed s k p).get o =
    if (s.outletOf o).kind = .display then
      (((s.outletOf o).offer (displayJob (takeRecent k p s.queue.recent) p)).map (·.1)).getD (s.outletOf o)
    else s.outletOf o := by
  rw [displayed, offered_get (nodup_outletsOf s .display)]
  simp only [mem_outletsOf]
  rfl

theorem showCall_taken (s : State) (k : TicketId) (p q : Port) (t : Tag) (i : Instr) :
    (s.taken q t i).showCall k p = (s.showCall k p).taken q t i := by
  rw [showCall_eq, showCall_eq]; rfl

/-! ### The call timer (R143) -/

section Timer
variable {s : State} {k : TicketId} {x : CalledTicket}

theorem callTimerExpiry_recalls (hx : s.findCalled k = some x) (htimer : x.timer ≠ none) (h : x.recalls < 3) :
    exec (.callTimerExpiry k) s = done
      (((s.setCalled { x with recalls := x.recalls + 1, timer := some (s.classOf k.cls).callTimeout }).showCall k
        x.station).notify x.station (.callExpired k x.txn .recall (x.recalls + 1))) := by
  show execCallTimerExpiry k s = _
  simp only [execCallTimerExpiry, hx, if_neg htimer, if_pos h]

theorem callTimerExpiry_discards (hx : s.findCalled k = some x) (htimer : x.timer ≠ none) (h : ¬x.recalls < 3) :
    exec (.callTimerExpiry k) s = done { s.setCalled { x with timer := none } with
      transit := { s.transit with discards := s.transit.discards ++ [⟨k, x.txn, true, none⟩] } } := by
  show execCallTimerExpiry k s = _
  simp only [execCallTimerExpiry, hx, if_neg htimer, if_neg h]
  rfl

end Timer

/-! ### RECALL (R145) -/

theorem exec_recall (p : Port) (t : Tag) (clerk : Nat) (s : State) :
    exec (.recall p t clerk) s = execRecall p t clerk s := rfl

theorem recallTests_taken (s : State) (q : Port) (t : Tag) (i : Instr) (clerk : Nat) :
    (s.taken q t i).recallTests clerk = s.recallTests clerk := rfl

theorem recallTests_noClerk {s : State} {clerk : Nat} (h : clerk < 1 ∨ 16 < clerk) :
    s.recallTests clerk = .error .badValue := by
  simp [State.recallTests, State.boundLookup, namedClerk_of_out h]

/-- A clerk's recall is for the CALLED ticket of the OPEN transaction, three times at most. -/
theorem recallTests_named {s : State} {clerk : Nat} {c : ClerkNo} (hc : clerk = c.val + 1) :
    s.recallTests clerk =
      (orRefuse ((s.openOf c).bind fun y => y.ticket.bind s.findCalled) .noSuch).bind fun x =>
        if 3 ≤ x.recalls then .error .limit else .ok x := by
  unfold State.recallTests State.boundLookup
  rw [namedClerk_of_val hc, ok_bind]
  cases s.openOf c with
  | none => rfl
  | some y =>
    cases hk : y.ticket with
    | none => simp [orRefuse, hk, Except.bind]
    | some k =>
      cases hx : s.findCalled k with
      | none => simp [orRefuse, hk, hx, Except.bind]
      | some x =>
        by_cases hlimit : 3 ≤ x.recalls
        · simp [orRefuse, hk, hx, Except.bind, hlimit, require_of_not (Nat.not_lt.2 hlimit)]
        · simp [orRefuse, hk, hx, Except.bind, hlimit, require_of (Nat.not_le.1 hlimit)]

section Recall
variable {s : State} {p : Port} {t : Tag} {clerk : Nat}

theorem recall_refuses {e : Result} (hw : Waiting s p t (.recall p t clerk)) (h : s.recallTests clerk = .error e) :
    Refuses (.recall p t clerk) p t s e :=
  refuses_takeRequest hw (exec_recall ..) (by simp only [recallTests_taken, h])

theorem recall_answers {x : CalledTicket} (hw : Waiting s p t (.recall p t clerk)) (h : s.recallTests clerk = .ok x) :
    Answers (.recall p t clerk) p t s .ok (.recalled x.ticket.id (x.recalls + 1))
      ((s.setCalled { x with
        recalls := x.recalls + 1
        station := p
        timer := if x.bound = .openEmpty then some (s.classOf x.ticket.id.cls).callTimeout else x.timer }).showCall
          x.ticket.id p) := by
  refine answers_takeRequest hw (exec_recall ..) (by rw [showCall_eq]; rfl) (by rw [showCall_eq]; rfl) ?_
  simp only [recallTests_taken, h]
  rw [← showCall_taken]
  rfl

end Recall

/-- Settles O47: the expiry by the recalls made so far, RECALL by its tests, and the showing of a call by what it offers
each outlet. -/
theorem recalls : Obligations.Recalls := by
  refine ⟨?_, ?_, ?_⟩
  · intro s k x hx htimer y
    split_ifs with h
    · exact leaves_of_done (callTimerExpiry_recalls hx htimer h)
    · exact leaves_of_done (callTimerExpiry_discards hx htimer h)
  · intro s p t clerk i hw
    refine ⟨fun hout => recall_refuses hw (recallTests_noClerk hout), fun c hc => ?_⟩
    have htests := recallTests_named (s := s) hc
    cases hopen : s.openOf c with
    | none =>
      rw [hopen] at htests
      exact recall_refuses hw htests
    | some y =>
      rw [hopen, Option.bind_some] at htests
      dsimp only
      cases hcalled : y.ticket.bind s.findCalled with
      | none =>
        rw [hcalled] at htests
        exact recall_refuses hw htests
      | some x =>
        rw [hcalled, orRefuse, Except.bind] at htests
        dsimp only
        by_cases hlimit : 3 ≤ x.recalls
        · rw [if_pos hlimit] at htests ⊢
          exact recall_refuses hw htests
        · rw [if_neg hlimit] at htests ⊢
          exact recall_answers hw htests
  · intro s k p u
    have hu : u = _ := showCall_eq s k p
    refine ⟨by rw [hu]; rfl, fun o => ?_, by rw [hu]⟩
    rw [hu]
    exact displayed_get s k p o

end Sys2Proof.Machine.Calls
end

section
/-! PROOF. The open-bound order: the call confirmed, or its ticket back in its list (O46). -/

namespace Sys2Proof.Machine.Calls

open PlatterOps PluTable Books Pricing

/-! ### Notices in a port's outbox (R16) -/

@[simp] theorem queueNotice_threshold (k : Nat) (n : Notice) (l : Link) :
    (l.queueNotice k n).threshold = l.threshold := by
  rcases Link.queueNotice_cases k n l with ⟨h, -⟩ | ⟨-, -, -, h⟩ | ⟨-, -, -, h⟩ | ⟨-, -, -, h⟩ <;> rw [h]

theorem notify_linkOf_of_ne (s : State) {p q : Port} (n : Notice) (h : q ≠ p) :
    (s.notify p n).linkOf q = s.linkOf q := State.linkOf_mapLink_of_ne s _ h

/-- What a port hears is settled by its link's state and threshold, which a notice leaves. -/
theorem notify_hears (s : State) (p q : Port) (n : Notice) (k : NoticeKind) :
    (s.notify q n).hears p k ↔ s.hears p k := by
  have hpriorities : (s.notify q n).link.priorities = s.link.priorities := State.mapLink_priorities s q _
  have hthreshold : ((s.notify q n).linkOf p).threshold = (s.linkOf p).threshold := by
    rw [State.notify, State.linkOf_mapLink]
    split_ifs
    · exact queueNotice_threshold _ _ _
    · rfl
  simp only [State.hears, State.notify_linkState, hpriorities, hthreshold]

/-- A notice that a port hears is the last of its outbox. -/
theorem notify_mem_outbox {s : State} {p : Port} {n : Notice} (hn : n.weightPlatter = none) (h : s.hears p n.kind) :
    n ∈ ((s.notify p n).linkOf p).outbox := by
  rw [State.notify, State.linkOf_mapLink_same]
  refine List.mem_append_right _ ?_
  rcases queueNotice_notices hn h.1 h.2 with he | ⟨-, he⟩ <;> rw [he] <;> simp

theorem notifyAll_linkOf_of_notMem {s : State} {ps : List Port} {p : Port} (n : Notice) (h : p ∉ ps) :
    (s.notifyAll ps n).linkOf p = s.linkOf p := by
  induction ps generalizing s with
  | nil => rfl
  | cons q ps ih =>
    obtain ⟨hq, hps⟩ := not_or.1 (mt List.mem_cons.2 h)
    exact (ih hps).trans (notify_linkOf_of_ne s n hq)

theorem notifyAll_mem_outbox {s : State} {ps : List Port} {p : Port} {n : Notice} (hn : n.weightPlatter = none)
    (hp : p ∈ ps) (h : s.hears p n.kind) : n ∈ ((s.notifyAll ps n).linkOf p).outbox := by
  induction ps generalizing s with
  | nil => cases hp
  | cons q ps ih =>
    by_cases hps : p ∈ ps
    · exact ih hps ((notify_hears s p q n _).2 h)
    · obtain rfl : p = q := (List.mem_cons.1 hp).resolve_right hps
      change n ∈ (((s.notify p n).notifyAll ps n).linkOf p).outbox
      rw [notifyAll_linkOf_of_notMem n hps]
      exact notify_mem_outbox hn h

theorem officeHears_hears (ns : List Notice) (s : State) (p : Port) (k : NoticeKind) :
    (officeHears ns s).hears p k ↔ s.hears p k := by
  induction ns generalizing s with
  | nil => exact Iff.rfl
  | cons n ns ih => exact (ih _).trans (notify_hears s p .office n k)

/-! ### The QUEUE_LENGTH watches (R186) -/

/-- What the QUEUE_LENGTH watches do, in every state with these totals: their records change, and the office hears. -/
def WatchesEffect (totals : Totals) (f : State → State) : Prop :=
  ∃ ns watches, ∀ s : State, s.totals = totals →
    f s = officeHears ns { s with totals := { totals with watches := watches } }

theorem watchesEffect_none (totals : Totals) : WatchesEffect totals fun s => s :=
  ⟨[], totals.watches, fun s hs => by subst hs; rfl⟩

theorem officeHears_frame (ns : List Notice) (s : State) :
    officeHears ns s = { s with link := (officeHears ns s).link } := officeHears_link ns s s rfl

theorem WatchesEffect.trans {totals : Totals} {f g : State → State} (hf : WatchesEffect totals f)
    (hg : ∀ watches, WatchesEffect { totals with watches := watches } g) : WatchesEffect totals fun s => g (f s) := by
  obtain ⟨ns, watches, hf⟩ := hf
  obtain ⟨ms, watches', hg⟩ := hg watches
  refine ⟨ns ++ ms, watches', fun s hs => ?_⟩
  let first : State := { s with totals := { totals with watches := watches } }
  have hfirst : f s = officeHears ns first := hf s hs
  have htotals : (f s).totals = first.totals := by rw [hfirst, officeHears_frame]
  have hswap : ({ officeHears ns first with totals := { totals with watches := watches' } } : State) =
      officeHears ns { s with totals := { totals with watches := watches' } } := by
    rw [officeHears_link ns first { s with totals := { totals with watches := watches' } } rfl, officeHears_frame]
  rw [officeHears_append, ← hswap, ← hfirst]
  exact hg (f s) htotals

theorem WatchesEffect.congr {totals : Totals} {f g : State → State} (hf : WatchesEffect totals f)
    (h : ∀ s, s.totals = totals → g s = f s) : WatchesEffect totals g := by
  obtain ⟨ns, watches, hf⟩ := hf
  exact ⟨ns, watches, fun s hs => (h s hs).trans (hf s hs)⟩

theorem watchesEffect_fire (totals : Totals) (i : Fin 4) (value : Nat) (txn : Option Nat) (armed : Bool) :
    WatchesEffect totals fun s => s.fireWatch i value txn armed :=
  ⟨[.watchFired (i.val + 1) totals.watches[i].cond value txn (saturate 65535 totals.watches[i].fires)],
    totals.watches.set i { totals.watches[i] with fires := saturate 65535 totals.watches[i].fires, armed := armed },
    fun s hs => by subst hs; rfl⟩

theorem watchesEffect_set (totals : Totals) (i : Fin 4) (w : Watch) :
    WatchesEffect totals fun s => s.mapTotals fun t => { t with watches := t.watches.set i w } :=
  ⟨[], totals.watches.set i w, fun s hs => by subst hs; rfl⟩

theorem queueWatch_effect (totals : Totals) (k : TicketClass) (n : Nat) (i : Fin 4) :
    WatchesEffect totals fun s => s.queueWatch k n i := by
  cases hcond : totals.watches[i].cond with
  | off | pluSale | txnAmount | clerkAmount =>
    exact (watchesEffect_none totals).congr fun s hs => by simp only [State.queueWatch, hs, hcond]
  | queueLength target threshold =>
    by_cases htarget : target = k
    · cases harmed : totals.watches[i].armed with
      | true =>
        by_cases hreached : threshold ≤ n
        · exact (watchesEffect_fire totals i n none false).congr fun s hs => by
            simp only [State.queueWatch, hs, hcond, htarget, harmed, if_true, if_pos hreached]
        · exact (watchesEffect_none totals).congr fun s hs => by
            simp only [State.queueWatch, hs, hcond, htarget, harmed, if_true, if_neg hreached]
      | false =>
        by_cases hbelow : n < threshold
        · exact (watchesEffect_set totals i { totals.watches[i] with armed := true }).congr fun s hs => by
            simp only [State.queueWatch, hs, hcond, htarget, harmed, if_true, Bool.false_eq_true, if_false, if_pos hbelow]
        · exact (watchesEffect_none totals).congr fun s hs => by
            simp only [State.queueWatch, hs, hcond, htarget, harmed, if_true, Bool.false_eq_true, if_false, if_neg hbelow]
    · exact (watchesEffect_none totals).congr fun s hs => by
        simp only [State.queueWatch, hs, hcond, if_neg htarget]

theorem queueWatches_effect (totals : Totals) (k : TicketClass) (n : Nat) :
    WatchesEffect totals fun s => s.queueWatches k n := by
  unfold State.queueWatches
  induction watchNumbers generalizing totals with
  | nil => exact watchesEffect_none totals
  | cons i is ih => exact (queueWatch_effect totals k n i).trans fun watches => ih { totals with watches := watches }

/-! ### A ticket at its place in its list (R138) -/

theorem insertTicket_split (t : Ticket) (list : List Ticket) : ∃ before after, list = before ++ after ∧
    (∀ y ∈ before, t.precedes y = false) ∧ (∀ y ∈ after.head?, t.precedes y = true) ∧
    insertTicket t list = before ++ t :: after := by
  induction list with
  | nil => exact ⟨[], [], rfl, by simp, by simp, rfl⟩
  | cons x xs ih =>
    cases hx : t.precedes x with
    | true => exact ⟨[], x :: xs, rfl, by simp, by simp [hx], by simp [insertTicket, hx]⟩
    | false =>
      obtain ⟨before, after, rfl, hbefore, hafter, hinsert⟩ := ih
      exact ⟨x :: before, after, rfl, by simpa [hx] using hbefore, hafter, by simp [insertTicket, hx, hinsert]⟩

/-! ### A call confirmed (R141) -/

/-- The state of a confirmed call before its class's count goes to the watches: the ticket CALLED with its timer started,
and the call shown on the displays. -/
def shownState (s : State) (t : Ticket) (txn : Nat) (p : Port) : State := { s with
  queue := { s.queue with
    called := s.queue.called ++ [⟨{ t with reinstated := none, calledAt := some s.clock.daySeconds }, 0, txn, p,
      .openEmpty, some (s.classOf t.id.cls).callTimeout⟩]
    recent := takeRecent t.id p s.queue.recent }
  outlets := displayed s t.id p }

/-- The state of a confirmed call, but for the notices it sends. -/
def calledState (s : State) (t : Ticket) (txn : Nat) (p : Port) : State := { shownState s t txn p with
  totals := { s.totals with
    watches := (s.queueWatches t.id.cls (s.classOf t.id.cls).waiting.length).totals.watches } }

/-- QUEUE_CHANGE as a call sends it. -/
def callNotice (s : State) (k : TicketClass) : Notice :=
  .queueChange k .call (s.classOf k).waiting.length ((s.classOf k).waiting.head?.map (·.id.number))

section Confirmed
variable (s : State) (t : Ticket) (txn : Nat) (p : Port)

theorem confirmCall_shown : s.confirmCall t txn p =
    ((shownState s t txn p).queueWatches t.id.cls (s.classOf t.id.cls).waiting.length).queueChange t.id.cls .call := by
  unfold State.confirmCall
  dsimp only
  rw [showCall_eq]
  rfl

/-- A confirmed call hands the office the notices of its watches, then QUEUE_CHANGE to its class's stations. -/
theorem confirmCall_eq : ∃ ns, s.confirmCall t txn p =
    (officeHears ns (calledState s t txn p)).notifyAll (s.classPorts t.id.cls) (callNotice s t.id.cls) := by
  obtain ⟨ns, watches, heffect⟩ := queueWatches_effect s.totals t.id.cls (s.classOf t.id.cls).waiting.length
  dsimp only at heffect
  have hwatches : (s.queueWatches t.id.cls (s.classOf t.id.cls).waiting.length).totals.watches = watches := by
    rw [heffect s rfl, officeHears_frame]
  have hfired : (shownState s t txn p).queueWatches t.id.cls (s.classOf t.id.cls).waiting.length =
      officeHears ns (calledState s t txn p) := by
    rw [heffect (shownState s t txn p) rfl, calledState, hwatches]
  refine ⟨ns, ?_⟩
  rw [confirmCall_shown, hfired, State.queueChange, officeHears_frame]
  rfl

theorem confirmCall_frame : ∃ link, s.confirmCall t txn p = { calledState s t txn p with link := link } := by
  obtain ⟨ns, h⟩ := confirmCall_eq s t txn p
  obtain ⟨link, hlink⟩ := notifyAll_frame (officeHears ns (calledState s t txn p)) (s.classPorts t.id.cls)
    (callNotice s t.id.cls)
  exact ⟨link, by rw [h, hlink, officeHears_frame]⟩

theorem confirmCall_transit : (s.confirmCall t txn p).transit = s.transit := by
  obtain ⟨link, h⟩ := confirmCall_frame s t txn p
  rw [h]
  rfl

theorem confirmCall_slots (q : Port) : ((s.confirmCall t txn p).linkOf q).slots = (s.linkOf q).slots := by
  obtain ⟨ns, h⟩ := confirmCall_eq s t txn p
  rw [h, State.notifyAll_slots, officeHears_slots]
  rfl

/-- The stations that call the class have QUEUE_CHANGE in their outboxes where they hear it. -/
theorem confirmCall_tells {st : Station} (hset : (s.queue.callSets.get st).getLsbD (t.id.cls.code - 1) = true)
    (h : s.hears (.station st) .queueChange) :
    callNotice s t.id.cls ∈ ((s.confirmCall t txn p).linkOf (.station st)).outbox := by
  obtain ⟨ns, hconfirm⟩ := confirmCall_eq s t txn p
  have hport : Port.station st ∈ s.classPorts t.id.cls := by
    have : st ∈ Station.all := by cases st <;> decide
    simpa [State.classPorts, inCallSet, this] using hset
  rw [hconfirm]
  exact notifyAll_mem_outbox rfl hport ((officeHears_hears ns _ _ _).2 h)

end Confirmed

/-! ### What the transaction table alone decides -/

theorem findTxn_congr {s t : State} (h : t.txn = s.txn) (n : Nat) : t.findTxn n = s.findTxn n := by
  rw [State.findTxn, h, State.findTxn]

theorem clerk_congr {s t : State} (h : t.txn = s.txn) (c : ClerkNo) : t.clerk c = s.clerk c := by
  rw [State.clerk, h, State.clerk]

/-! ### The bound transaction opened (R107, R108) -/

section Opened
variable (s : State) (c : ClerkNo) (k : Option TicketId) (p : Port)

theorem openTxn_clerk_same : (s.openTxn c k p).clerk c = { s.clerk c with openTxn := some s.txn.takesNumber } :=
  setClerk_clerk_same _ c _

theorem noteStation_clerk_same : (s.noteStation c p).clerk c = { s.clerk c with lastStation := some p } :=
  setClerk_clerk_same s c _

theorem openTxn_findTxn_same : (s.openTxn c k p).findTxn s.txn.takesNumber = some (openedTxn s c k p) :=
  findTxn_setTxn_same s rfl

theorem openTxn_findTxn_of_ne {m : Nat} (h : m ≠ s.txn.takesNumber) : (s.openTxn c k p).findTxn m = s.findTxn m :=
  findTxn_setTxn_of_ne s (x := openedTxn s c k p) h

theorem openTxn_nextNumber : (s.openTxn c k p).txn.nextNumber =
    if s.txn.takesNumber < 9999 then s.txn.takesNumber + 1 else 1 := by
  change nextTxnNumber s.txn.takesNumber = _
  unfold nextTxnNumber
  split_ifs <;> omega

end Opened

theorem openingTest_eq (s : State) (c : ClerkNo) : s.openingTest c =
    if (s.clerk c).enabled = false then .error .noSuch
    else if (s.clerk c).openTxn ≠ none then .error .openTxn
    else .ok () := by
  unfold State.openingTest
  cases (s.clerk c).enabled <;> cases (s.clerk c).openTxn <;> rfl

theorem mapQueue_openingTest (s : State) (f : TicketQueue → TicketQueue) (c : ClerkNo) :
    (s.mapQueue f).openingTest c = s.openingTest c := rfl

/-! ### The open-bound order (R127, R139) -/

section Order
variable {s : State} {x : Call} {rest : List Call}

/-- The state once the open-bound order of the call at the front has been taken. -/
def orderTaken (s : State) (rest : List Call) : State := { s with queue := { s.queue with calls := rest } }

/-- The state once the bound transaction of a call has opened. -/
def boundOpened (s : State) (x : Call) (rest : List Call) : State :=
  ((orderTaken s rest).openTxn x.clerk (some x.ticket.id) x.port).noteStation x.clerk x.port

/-- The opening touches the transaction table alone. -/
theorem boundOpened_frame (s : State) (x : Call) (rest : List Call) :
    boundOpened s x rest = { orderTaken s rest with txn := (boundOpened s x rest).txn } := rfl

theorem orderTaken_txn (s : State) (rest : List Call) : (orderTaken s rest).txn = s.txn := rfl

theorem boundOpened_findTxn_same : (boundOpened s x rest).findTxn s.txn.takesNumber =
    some ⟨s.txn.takesNumber, x.clerk, some x.ticket.id, .none, [], 0, 0, s.clock.now, none, x.port⟩ := by
  have h := openTxn_findTxn_same (orderTaken s rest) x.clerk (some x.ticket.id) x.port
  rw [openedTxn, orderTaken_txn] at h
  rw [boundOpened, noteStation_findTxn, h]
  rfl

theorem boundOpened_findTxn_of_ne {m : Nat} (h : m ≠ s.txn.takesNumber) :
    (boundOpened s x rest).findTxn m = s.findTxn m := by
  rw [boundOpened, noteStation_findTxn, openTxn_findTxn_of_ne _ _ _ _ (orderTaken_txn s rest ▸ h)]
  rfl

theorem boundOpened_nextNumber : (boundOpened s x rest).txn.nextNumber =
    if s.txn.takesNumber < 9999 then s.txn.takesNumber + 1 else 1 :=
  openTxn_nextNumber (orderTaken s rest) x.clerk (some x.ticket.id) x.port

theorem boundOpened_clerk : (boundOpened s x rest).clerk x.clerk =
    { s.clerk x.clerk with openTxn := some s.txn.takesNumber, lastStation := some x.port } := by
  rw [boundOpened, noteStation_clerk_same, openTxn_clerk_same]
  rfl

theorem openBound_refused {e : Result} (hcalls : s.queue.calls = x :: rest) (htest : s.openingTest x.clerk = .error e) :
    exec (.openBound x.ticket.id) s = done (((orderTaken s rest).enlist x.ticket).refuse x.replyTo e) := by
  have hfirst := takeFirst_of_head (test := fun y : Call => y.ticket.id = x.ticket.id) (xs := rest) (decide_eq_true rfl)
  show execOpenBound x.ticket.id s = _
  simp only [execOpenBound, hcalls, hfirst, mapQueue_openingTest, htest]
  rfl

theorem openBound_confirmed (hcalls : s.queue.calls = x :: rest) (htest : s.openingTest x.clerk = .ok ()) :
    exec (.openBound x.ticket.id) s =
      done (((boundOpened s x rest).confirmCall x.ticket s.txn.takesNumber x.port).ok x.replyTo
        (.called x.ticket.id s.txn.takesNumber 0)) := by
  have hfirst := takeFirst_of_head (test := fun y : Call => y.ticket.id = x.ticket.id) (xs := rest) (decide_eq_true rfl)
  show execOpenBound x.ticket.id s = _
  simp only [execOpenBound, hcalls, hfirst, mapQueue_openingTest, htest]
  rfl

theorem queueWatches_congr {s t : State} (h : t.totals = s.totals) (k : TicketClass) (n : Nat) :
    (t.queueWatches k n).totals.watches = (s.queueWatches k n).totals.watches := by
  obtain ⟨ns, watches, heffect⟩ := queueWatches_effect s.totals k n
  dsimp only at heffect
  rw [heffect t h, heffect s rfl, officeHears_frame, officeHears_frame ns { s with totals := _ }]

/-- The state of a confirmed call, but for the links: the transaction table with the opened transaction, the ticket
CALLED, the call shown, the watches told. -/
def callMade (s : State) (x : Call) (rest : List Call) (txn : TxnTable) (n : Nat) : State :=
  let k := x.ticket.id
  let c := s.classOf k.cls
  { s with
    txn := txn
    queue := { s.queue with
      calls := rest
      called := s.queue.called ++ [⟨{ x.ticket with reinstated := none, calledAt := some s.clock.daySeconds }, 0, n,
        x.port, .openEmpty, some c.callTimeout⟩]
      recent := takeRecent k x.port s.queue.recent }
    outlets := displayed s k x.port
    totals := { s.totals with watches := (s.queueWatches k.cls c.waiting.length).totals.watches } }

theorem calledState_withTxn (s : State) (x : Call) (rest : List Call) (txn : TxnTable) (n : Nat) :
    calledState { orderTaken s rest with txn := txn } x.ticket n x.port = callMade s x rest txn n := by
  have hwatches := queueWatches_congr (s := s) (t := { orderTaken s rest with txn := txn }) rfl x.ticket.id.cls
    (s.classOf x.ticket.id.cls).waiting.length
  rw [callMade, ← hwatches]
  rfl

theorem calledState_boundOpened (s : State) (x : Call) (rest : List Call) (n : Nat) :
    calledState (boundOpened s x rest) x.ticket n x.port = callMade s x rest (boundOpened s x rest).txn n := by
  rw [← calledState_withTxn, ← boundOpened_frame]

/-- A confirmed call and its reply leave the call made, up to what the links carry. -/
theorem openBound_frame (s : State) (x : Call) (rest : List Call) (r : Requester) (result : Result)
    (payload : Payload) : ∃ link,
    (((boundOpened s x rest).confirmCall x.ticket s.txn.takesNumber x.port).reply r result payload).transmitAll =
      { callMade s x rest (boundOpened s x rest).txn s.txn.takesNumber with link := link } := by
  obtain ⟨link, hconfirm⟩ := confirmCall_frame (boundOpened s x rest) x.ticket s.txn.takesNumber x.port
  rw [calledState_boundOpened] at hconfirm
  rcases State.reply_cases ((boundOpened s x rest).confirmCall x.ticket s.txn.takesNumber x.port) r result payload with
    h | h <;> exact ⟨_, by rw [h, hconfirm]; rfl⟩

/-- A refused order puts the ticket back at its place (R138, R139). -/
theorem openBound_returns {e : Result} (hcalls : s.queue.calls = x :: rest) (htest : s.openingTest x.clerk = .error e) :
    ∃ before after, (s.classOf x.ticket.id.cls).waiting = before ++ after ∧
      (∀ y ∈ before, x.ticket.precedes y = false) ∧ (∀ y ∈ after.head?, x.ticket.precedes y = true) ∧
      Leaves (.openBound x.ticket.id) s ({ orderTaken s rest with queue := { (orderTaken s rest).queue with
        classes := s.queue.classes.set x.ticket.id.cls
          { s.classOf x.ticket.id.cls with waiting := before ++ x.ticket :: after } } }.reply x.replyTo e .empty) := by
  obtain ⟨before, after, hlist, hbefore, hafter, hinsert⟩ :=
    insertTicket_split x.ticket (s.classOf x.ticket.id.cls).waiting
  refine ⟨before, after, hlist, hbefore, hafter, ?_⟩
  rw [← hinsert]
  exact leaves_of_done (openBound_refused hcalls htest)

end Order

/-- Settles O46: the opening test decides; a refused order by the ticket's place in its list, a confirmed one by the
transaction opened, the call's frame, and the notices and the reply on the links. -/
theorem openBound : Obligations.OpenBound := by
  intro s x rest hcalls k c u returned
  have htest := openingTest_eq s x.clerk
  by_cases hdisabled : (s.clerk x.clerk).enabled = false
  · rw [if_pos hdisabled] at htest ⊢
    exact openBound_returns hcalls htest
  rw [if_neg hdisabled] at htest ⊢
  by_cases hopen : (s.clerk x.clerk).openTxn ≠ none
  · rw [if_pos hopen] at htest ⊢
    exact openBound_returns hcalls htest
  rw [if_neg hopen] at htest ⊢
  intro n
  let confirmed := (boundOpened s x rest).confirmCall x.ticket n x.port
  let t := (confirmed.ok x.replyTo (.called k n 0)).transmitAll
  obtain ⟨link, hframe⟩ : ∃ link, t = { callMade s x rest (boundOpened s x rest).txn n with link := link } :=
    openBound_frame s x rest x.replyTo .ok (.called k n 0)
  have htxn : t.txn = (boundOpened s x rest).txn := by rw [hframe]; rfl
  refine ⟨t, openBound_confirmed hcalls htest, ?opened, State.TableLaw.takes, fun m hm => ?others, ?next, ?clerk,
    ?called, ?recent, ?classes, ?missed, ?calls, fun o => ?displays, ?watches, fun st hset hhears => ?told,
    fun hslot hcancel => ?replied, ?rest⟩
  case displays =>
    rw [hframe]
    exact displayed_get s k x.port o
  case told =>
    rw [transmitAll_outbox, State.ok, reply_outbox]
    exact confirmCall_tells (boundOpened s x rest) x.ticket n x.port hset hhears
  case replied =>
    refine replied_of_waits .ok (.called k n 0) ?_ ?_
    · rw [confirmCall_slots]; exact hslot
    · rw [confirmCall_transit]; exact hcancel
  case opened => rw [findTxn_congr htxn]; exact boundOpened_findTxn_same
  case others => rw [findTxn_congr htxn]; exact boundOpened_findTxn_of_ne hm
  case next => rw [htxn]; exact boundOpened_nextNumber
  case clerk => rw [clerk_congr htxn]; exact boundOpened_clerk
  all_goals rw [hframe]
  case rest => exact ⟨rfl, rfl, rfl, rfl, rfl⟩
  all_goals rfl

end Sys2Proof.Machine.Calls
end

section
/-! PROOF. The desk: the part of the state that the laws of the tickets, of the closed day and of the bound transactions
speak of, and the moves that change it (O9). -/

namespace Sys2Proof.Machine.Tickets

/-! ### The desk -/

/-- What the laws of the tickets see of the state: whether the day is open, every ticket in hand, the counters, the number
and the ticket of each held transaction, the discard orders, and the tickets reported gone. -/
structure Desk where
  dayOpen : Bool
  waiting : PerClass (List Ticket)
  calls : List Ticket
  called : List (TicketId × Nat)
  missed : List Ticket
  recent : List TicketId
  issueCounter : Nat
  reinstateTurn : Nat
  held : List (Nat × Option TicketId)
  discards : List DiscardOrder
  gone : List TicketId

/-- The ticket of a report that its transaction has gone. -/
def goneTicket (m : TicketId × TicketReport) : Option TicketId :=
  match m.2 with
  | .outcome _ => some m.1
  | .bound _ => none

/-- The waiting lists of the class records. -/
def waitingLists (cs : PerClass ClassRecord) : PerClass (List Ticket) :=
  ⟨cs.a.waiting, cs.b.waiting, cs.c.waiting, cs.d.waiting⟩

/-- A CALLED ticket, by its id and the transaction it names. -/
def bond (x : CalledTicket) : TicketId × Nat := (x.ticket.id, x.txn)

/-- A held transaction, by its number and its ticket. -/
def txnBond (x : Txn) : Nat × Option TicketId := (x.number, x.ticket)

/-- The desk of a state. -/
def desk (s : State) : Desk where
  dayOpen := s.dayOpen
  waiting := waitingLists s.queue.classes
  calls := s.queue.calls.map (·.ticket)
  called := s.queue.called.map bond
  missed := s.queue.missed
  recent := s.queue.recent.map (·.1)
  issueCounter := s.queue.issueCounter
  reinstateTurn := s.queue.reinstateTurn
  held := s.txn.held.map txnBond
  discards := s.transit.discards
  gone := s.transit.ticketReports.filterMap goneTicket

/-! ### The laws, on the desk -/

/-- The lists of the four classes one after another. -/
def allWaiting (w : PerClass (List Ticket)) : List Ticket := w.a ++ w.b ++ w.c ++ w.d

/-- The tickets that wait, and those that a call in progress has chosen. -/
def Desk.queued (d : Desk) : List Ticket := allWaiting d.waiting ++ d.calls

/-- Every ticket in hand. -/
def Desk.inHand (d : Desk) : List TicketId := d.queued.map (·.id) ++ d.called.map (·.1) ++ d.missed.map (·.id)

/-- A CLOSED day holds no transaction and no ticket but CALLED ones (R173). -/
def Desk.DayLaw (d : Desk) : Prop :=
  d.dayOpen = false → d.held = [] ∧ d.calls = [] ∧ d.missed = [] ∧ ∀ k, d.waiting.get k = []

/-- A ticket's place among the counters (R133, R138). -/
def Desk.Counts (d : Desk) (x : Ticket) : Prop :=
  (x.reinstated = none → x.seq < d.issueCounter) ∧ ∀ n, x.reinstated = some n → n < d.reinstateTurn

/-- The law of the tickets. -/
structure Desk.TicketLaw (d : Desk) : Prop where
  once : d.inHand.Nodup
  own : ∀ k, ∀ x ∈ d.waiting.get k, x.id.cls = k
  order : ∀ k, (d.waiting.get k).Pairwise fun a b => a.precedes b = true
  apart : d.queued.Pairwise Ticket.apart
  ahead : ∀ x ∈ d.queued, d.Counts x
  missed : d.missed.length ≤ Config.missedPlaces
  recent : d.recent.length ≤ Config.recentPlaces ∧ d.recent.Nodup

/-- The law of the bound transactions. -/
structure Desk.BoundLaw (d : Desk) : Prop where
  bound : ∀ x ∈ d.called, (x.2, some x.1) ∈ d.held ∨ x.1 ∈ d.gone
  called : ∀ n k, (n, some k) ∈ d.held → (k, n) ∈ d.called ∧ k ∉ d.gone
  once : d.held.Pairwise fun x y => x.2 = none ∨ x.2 ≠ y.2
  gone : d.gone.Nodup ∧ ∀ k ∈ d.gone, ∃ n, (k, n) ∈ d.called
  closed : d.dayOpen = false → d.called = [] ∧ d.discards = []

@[simp] theorem waitingLists_get (cs : PerClass ClassRecord) (k : TicketClass) :
    (waitingLists cs).get k = (cs.get k).waiting := by cases k <;> rfl

@[simp] theorem waitingLists_set (cs : PerClass ClassRecord) (k : TicketClass) (x : ClassRecord) :
    waitingLists (cs.set k x) = (waitingLists cs).set k x.waiting := by cases k <;> rfl

theorem mem_gone {s : State} {k : TicketId} : k ∈ (desk s).gone ↔ s.reportedGone k := by
  constructor
  · intro h
    obtain ⟨⟨k', m⟩, hm, hk⟩ := List.mem_filterMap.1 h
    cases m with
    | bound r => cases hk
    | outcome o =>
      cases hk
      exact ⟨o, hm⟩
  · rintro ⟨o, h⟩
    exact List.mem_filterMap.2 ⟨_, h, rfl⟩

theorem desk_queued (s : State) : (desk s).queued = s.queue.queued := rfl

theorem desk_inHand (s : State) : (desk s).inHand = s.queue.inHand := by
  rw [Desk.inHand, desk_queued, TicketQueue.inHand]
  simp [desk, Function.comp_def, bond]

theorem dayLaw_iff {s : State} : s.DayLaw ↔ (desk s).DayLaw := by
  simp [State.DayLaw, Desk.DayLaw, desk, State.classOf]

theorem ticketLaw_iff {s : State} : s.TicketLaw ↔ (desk s).TicketLaw := by
  have hwaiting (k : TicketClass) : (desk s).waiting.get k = (s.classOf k).waiting := waitingLists_get _ _
  constructor
  · rintro ⟨once, own, order, apart, ahead, missed, recent, hrecent⟩
    refine ⟨desk_inHand s ▸ once, by simpa only [hwaiting] using own, by simpa only [hwaiting] using order, apart, ahead,
      missed, ?_, hrecent⟩
    simpa [desk] using recent
  · rintro ⟨once, own, order, apart, ahead, missed, recent, hrecent⟩
    refine ⟨desk_inHand s ▸ once, by simpa only [hwaiting] using own, by simpa only [hwaiting] using order, apart, ahead,
      missed, ?_, hrecent⟩
    simpa [desk] using recent

theorem mem_called {s : State} {k : TicketId} {n : Nat} :
    (k, n) ∈ (desk s).called ↔ ∃ x ∈ s.queue.called, x.ticket.id = k ∧ x.txn = n := by
  simp [desk, bond]

theorem mem_held {s : State} {n : Nat} {k : Option TicketId} :
    (n, k) ∈ (desk s).held ↔ ∃ y ∈ s.txn.held, y.number = n ∧ y.ticket = k := by
  simp [desk, txnBond]

theorem boundLaw_iff {s : State} : s.BoundLaw ↔ (desk s).BoundLaw := by
  have honce : (desk s).held.Pairwise (fun x y => x.2 = none ∨ x.2 ≠ y.2) ↔
      s.txn.held.Pairwise fun x y => x.ticket = none ∨ x.ticket ≠ y.ticket := List.pairwise_map
  have hclosed : ((desk s).called = [] ∧ (desk s).discards = []) ↔ s.queue.called = [] ∧ s.transit.discards = [] := by
    simp [desk]
  constructor
  · rintro ⟨bound, called, once, gone, closed⟩
    refine ⟨fun ⟨k, n⟩ hx => ?_, fun n k hy => ?_, honce.2 once, ⟨gone.1, fun k hk => ?_⟩, fun h => hclosed.2 (closed h)⟩
    · obtain ⟨x, hcalled, rfl, rfl⟩ := mem_called.1 hx
      refine (bound x hcalled).imp (fun ⟨y, hy, hk, hn⟩ => mem_held.2 ⟨y, hy, hn, hk⟩) mem_gone.2
    · obtain ⟨y, hheld, rfl, hk⟩ := mem_held.1 hy
      obtain ⟨hx, hgone⟩ := called y hheld k hk
      exact ⟨mem_called.2 hx, mt mem_gone.1 hgone⟩
    · obtain ⟨x, hx, hid⟩ := gone.2 k (mem_gone.1 hk)
      exact ⟨x.txn, mem_called.2 ⟨x, hx, hid, rfl⟩⟩
  · rintro ⟨bound, called, once, gone, closed⟩
    refine ⟨fun x hx => ?_, fun y hy k hk => ?_, honce.1 once, ⟨gone.1, fun k hk => ?_⟩, fun h => hclosed.1 (closed h)⟩
    · refine (bound (x.ticket.id, x.txn) (mem_called.2 ⟨x, hx, rfl, rfl⟩)).imp (fun h => ?_) mem_gone.1
      obtain ⟨y, hy, hn, hk⟩ := mem_held.1 h
      exact ⟨y, hy, hk, hn⟩
    · obtain ⟨hx, hgone⟩ := called y.number k (mem_held.2 ⟨y, hy, rfl, hk⟩)
      exact ⟨mem_called.1 hx, mt mem_gone.2 hgone⟩
    · obtain ⟨n, hn⟩ := gone.2 k (mem_gone.2 hk)
      obtain ⟨x, hx, hid, -⟩ := mem_called.1 hn
      exact ⟨x, hx, hid⟩

end Sys2Proof.Machine.Tickets
end

section
/-! PROOF. The moves of tickets on the desk, and that each keeps the law of the tickets (O9). -/

namespace Sys2Proof.Machine.Tickets

/-! ### Lists -/

/-- The entries of a key are one: taking them away leaves the rest. -/
theorem perm_cons_filter_ne {α β : Type} [DecidableEq β] (key : α → β) {l : List α} {x : α} (h : (l.map key).Nodup)
    (hx : x ∈ l) : l.Perm (x :: l.filter fun y => key y ≠ key x) := by
  induction l with
  | nil => cases hx
  | cons y l ih =>
    obtain ⟨hy, hl⟩ := List.nodup_cons.1 (List.map_cons ▸ h)
    rcases List.mem_cons.1 hx with rfl | hx
    · have hkeep : l.filter (fun y => key y ≠ key x) = l :=
        List.filter_eq_self.2 fun z hz => decide_eq_true fun he => hy (he ▸ List.mem_map_of_mem hz)
      rw [List.filter_cons_of_neg (by simp), hkeep]
    · have hne : key y ≠ key x := fun he => hy (he ▸ List.mem_map_of_mem hx)
      rw [List.filter_cons_of_pos (by simpa using hne)]
      exact ((ih hl hx).cons y).trans (List.Perm.swap x y _)

theorem takeFirst_perm {α : Type} {test : α → Bool} {l rest : List α} {x : α} (h : takeFirst test l = some (x, rest)) :
    l.Perm (x :: rest) := by
  obtain ⟨before, after, rfl, rfl, -, -⟩ := takeFirst_eq_some h
  exact List.perm_middle

theorem insertTicket_perm (t : Ticket) (l : List Ticket) : (insertTicket t l).Perm (t :: l) := by
  induction l with
  | nil => exact .refl _
  | cons x l ih =>
    unfold insertTicket
    split
    · exact .refl _
    · exact (ih.cons x).trans (List.Perm.swap t x l)

/-! ### The order of a waiting list (R138) -/

theorem apart_symm {a b : Ticket} (h : a.apart b) : b.apart a := by
  unfold Ticket.apart at *
  cases ha : a.reinstated <;> cases hb : b.reinstated <;> simp_all [eq_comm]

/-- Of two tickets with different places one precedes the other. -/
theorem precedes_total {a b : Ticket} (h : a.apart b) (hn : a.precedes b = false) : b.precedes a = true := by
  unfold Ticket.apart at h
  unfold Ticket.precedes at *
  cases ha : a.reinstated <;> cases hb : b.reinstated <;> simp_all <;> omega

theorem precedes_trans {a b c : Ticket} (h : a.precedes b = true) (h' : b.precedes c = true) : a.precedes c = true := by
  unfold Ticket.precedes at *
  cases ha : a.reinstated <;> cases hb : b.reinstated <;> cases hc : c.reinstated <;> simp_all <;> omega

/-- A ticket with a place of its own keeps the order of the list it joins. -/
theorem insertTicket_ordered {t : Ticket} {l : List Ticket} (h : l.Pairwise fun a b => a.precedes b = true)
    (hapart : ∀ x ∈ l, t.apart x) : (insertTicket t l).Pairwise fun a b => a.precedes b = true := by
  induction l with
  | nil => exact List.pairwise_singleton _ _
  | cons x l ih =>
    obtain ⟨hx, hl⟩ := List.pairwise_cons.1 h
    unfold insertTicket
    split
    · next ht =>
      refine List.pairwise_cons.2 ⟨fun y hy => ?_, h⟩
      rcases List.mem_cons.1 hy with rfl | hy
      · exact ht
      · exact precedes_trans ht (hx y hy)
    · next ht =>
      refine List.pairwise_cons.2 ⟨fun y hy => ?_, ih hl fun y hy => hapart y (List.mem_cons_of_mem _ hy)⟩
      rcases List.mem_cons.1 ((insertTicket_perm t l).mem_iff.1 hy) with rfl | hy
      · exact precedes_total (hapart x List.mem_cons_self) (by simpa using ht)
      · exact hx y hy

/-! ### Every waiting list -/

/-- One class's list stands among the lists of all classes. -/
theorem allWaiting_set (w : PerClass (List Ticket)) (k : TicketClass) :
    ∃ others, ∀ l, (allWaiting (w.set k l)).Perm (l ++ others) := by
  cases k with
  | a => exact ⟨w.b ++ w.c ++ w.d, fun l => by simp [allWaiting, PerClass.set]⟩
  | b => exact ⟨w.a ++ w.c ++ w.d, fun l => by
      simpa [allWaiting, PerClass.set] using List.perm_append_comm_assoc w.a l (w.c ++ w.d)⟩
  | c => exact ⟨w.a ++ w.b ++ w.d, fun l => by
      simpa [allWaiting, PerClass.set] using List.perm_append_comm_assoc (w.a ++ w.b) l w.d⟩
  | d => exact ⟨w.a ++ w.b ++ w.c, fun l => List.perm_append_comm⟩

theorem allWaiting_get (w : PerClass (List Ticket)) (k : TicketClass) :
    ∃ others, (allWaiting w).Perm (w.get k ++ others) ∧ ∀ l, (allWaiting (w.set k l)).Perm (l ++ others) := by
  obtain ⟨others, hset⟩ := allWaiting_set w k
  exact ⟨others, by simpa using hset (w.get k), hset⟩

/-- The list of a class changed, the lists of all classes change as it does. -/
theorem allWaiting_set_perm (w : PerClass (List Ticket)) {k : TicketClass} {l more : List Ticket}
    (h : l.Perm (more ++ w.get k)) : (allWaiting (w.set k l)).Perm (more ++ allWaiting w) := by
  obtain ⟨others, hself, hset⟩ := allWaiting_get w k
  exact (hset l).trans (((h.append_right others).trans (by simp)).trans (hself.symm.append_left more))

theorem mem_allWaiting {w : PerClass (List Ticket)} {k : TicketClass} {x : Ticket} (h : x ∈ w.get k) :
    x ∈ allWaiting w := by
  cases k <;> simp_all [allWaiting, PerClass.get]

/-- What every list keeps when one of them is replaced. -/
theorem forall_set {w : PerClass (List Ticket)} {k : TicketClass} {l : List Ticket} {P : TicketClass → List Ticket → Prop}
    (h : ∀ j, P j (w.get j)) (hl : P k l) (j : TicketClass) : P j ((w.set k l).get j) := by
  rw [PerClass.get_set]
  split_ifs with hj
  · exact hj ▸ hl
  · exact h j

/-! ### The moves -/

/-- The desk with a ticket at its place in its class's list (R138). -/
def Desk.enlist (d : Desk) (t : Ticket) : Desk :=
  { d with waiting := d.waiting.set t.id.cls (insertTicket t (d.waiting.get t.id.cls)) }

/-- The desk with a ticket at the tail of its class's list, the issue counter one further (R134). -/
def Desk.issue (d : Desk) (x : Ticket) : Desk :=
  { d with waiting := d.waiting.set x.id.cls (d.waiting.get x.id.cls ++ [x]), issueCounter := d.issueCounter + 1 }

/-- The desk with a ticket's place in its class's list given up. -/
def Desk.delist (d : Desk) (k : TicketId) : Desk :=
  { d with waiting := d.waiting.set k.cls ((d.waiting.get k.cls).filter fun x => x.id ≠ k) }

/-- The desk without one CALLED ticket. -/
def Desk.dropCalled (d : Desk) (k : TicketId) : Desk := { d with called := d.called.filter fun x => x.1 ≠ k }

/-- A change that leaves the waiting lists and the calls alone, and takes no ticket into hand. -/
theorem Desk.TicketLaw.of_hand {d e : Desk} (h : d.TicketLaw) (hqueued : e.queued = d.queued)
    (hwaiting : e.waiting = d.waiting) (hissue : e.issueCounter = d.issueCounter)
    (hturn : e.reinstateTurn = d.reinstateTurn) (hhand : e.inHand.Subperm d.inHand)
    (hmissed : e.missed.length ≤ Config.missedPlaces) (hrecent : e.recent = d.recent) : e.TicketLaw where
  once := by
    obtain ⟨l, hl, hsub⟩ := hhand
    exact hl.nodup_iff.1 (hsub.nodup h.once)
  own := hwaiting ▸ h.own
  order := hwaiting ▸ h.order
  apart := hqueued ▸ h.apart
  ahead := by
    simp only [hqueued, Desk.Counts, hissue, hturn]
    exact h.ahead
  missed := hmissed
  recent := hrecent ▸ h.recent

/-- The calls in progress in another order. -/
theorem Desk.TicketLaw.calls_perm {d : Desk} {calls : List Ticket} (h : d.TicketLaw) (hp : d.calls.Perm calls) :
    ({ d with calls := calls } : Desk).TicketLaw where
  once := by
    have hqueued := (hp.append_left (allWaiting d.waiting)).map (·.id)
    exact ((hqueued.append_right _).append_right _).nodup_iff.1 h.once
  own := h.own
  order := h.order
  apart := ((hp.append_left (allWaiting d.waiting)).pairwise_iff apart_symm).1 h.apart
  ahead := fun x hx => h.ahead x ((hp.append_left (allWaiting d.waiting)).mem_iff.2 hx)
  missed := h.missed
  recent := h.recent

/-- A chosen ticket goes back to its place (R138). -/
theorem Desk.TicketLaw.enlist {d : Desk} {t : Ticket} {calls : List Ticket}
    (h : ({ d with calls := t :: calls } : Desk).TicketLaw) : ({ d with calls := calls }.enlist t : Desk).TicketLaw := by
  have hqueued : ({ d with calls := calls }.enlist t : Desk).queued.Perm ({ d with calls := t :: calls } : Desk).queued :=
    ((allWaiting_set_perm d.waiting (more := [t]) (insertTicket_perm t _)).append_right calls).trans
      (List.perm_middle (l₁ := allWaiting d.waiting)).symm
  refine ⟨?once, ?own, ?order, (hqueued.pairwise_iff apart_symm).2 h.apart, fun x hx => h.ahead x (hqueued.mem_iff.1 hx),
    h.missed, h.recent⟩
  case once => exact (((hqueued.map _).append_right _).append_right _).nodup_iff.2 h.once
  case own =>
    refine fun k => forall_set (P := fun j l => ∀ x ∈ l, x.id.cls = j) h.own (fun x hx => ?_) k
    rcases List.mem_cons.1 ((insertTicket_perm t _).mem_iff.1 hx) with rfl | hx
    · rfl
    · exact h.own _ x hx
  case order =>
    refine fun k => forall_set (P := fun _ l => l.Pairwise fun a b => a.precedes b = true) h.order ?_ k
    refine insertTicket_ordered (h.order _) fun x hx => ?_
    have happart := (List.perm_middle (l₁ := allWaiting d.waiting)).pairwise_iff apart_symm |>.1 h.apart
    exact (List.pairwise_cons.1 happart).1 x (List.mem_append_left _ (mem_allWaiting hx))

/-- A ticket at the head of its list is chosen (R139). -/
theorem Desk.TicketLaw.delist {d : Desk} {t : Ticket} (h : d.TicketLaw) (ht : t ∈ d.waiting.get t.id.cls) :
    ({ d.delist t.id with calls := d.calls ++ [t] } : Desk).TicketLaw := by
  have hnodup : ((d.waiting.get t.id.cls).map (·.id)).Nodup := by
    obtain ⟨others, hself, hset⟩ := allWaiting_get d.waiting t.id.cls
    have hwaiting : ((allWaiting d.waiting).map (·.id)).Nodup := by
      have := h.once
      rw [Desk.inHand, Desk.queued, List.map_append, List.append_assoc, List.append_assoc] at this
      exact (List.nodup_append.1 this).1
    have := (hself.map (·.id)).nodup_iff.1 hwaiting
    rw [List.map_append] at this
    exact (List.nodup_append.1 this).1
  have htaken : (d.waiting.get t.id.cls).Perm (t :: (d.waiting.get t.id.cls).filter fun x => x.id ≠ t.id) :=
    perm_cons_filter_ne (·.id) hnodup ht
  have hqueued : ({ d.delist t.id with calls := d.calls ++ [t] } : Desk).queued.Perm d.queued := by
    obtain ⟨others, hself, hset⟩ := allWaiting_get d.waiting t.id.cls
    have hwaiting : (t :: allWaiting (d.delist t.id).waiting).Perm (allWaiting d.waiting) :=
      ((hset _).cons t).trans ((htaken.symm.append_right others).trans hself.symm)
    calc allWaiting (d.delist t.id).waiting ++ (d.calls ++ [t])
        _ = (allWaiting (d.delist t.id).waiting ++ d.calls) ++ [t] := (List.append_assoc ..).symm
        List.Perm _ (t :: (allWaiting (d.delist t.id).waiting ++ d.calls)) := List.perm_append_comm
        List.Perm _ _ := hwaiting.append_right d.calls
  refine ⟨?once, ?own, ?order, (hqueued.pairwise_iff apart_symm).2 h.apart, fun x hx => h.ahead x (hqueued.mem_iff.1 hx),
    h.missed, h.recent⟩
  case once => exact (((hqueued.map _).append_right _).append_right _).nodup_iff.2 h.once
  case own =>
    exact forall_set (P := fun j l => ∀ x ∈ l, x.id.cls = j) h.own fun x hx => h.own _ x (List.mem_of_mem_filter hx)
  case order =>
    exact forall_set (P := fun _ l => l.Pairwise fun a b => a.precedes b = true) h.order ((h.order _).filter _)

/-- A chosen ticket is called (R141). -/
theorem Desk.TicketLaw.confirm {d : Desk} {t : Ticket} {calls : List Ticket} {n : Nat} {recent : List TicketId}
    (h : ({ d with calls := t :: calls } : Desk).TicketLaw) (hrecent : recent.length ≤ Config.recentPlaces ∧ recent.Nodup) :
    ({ d with calls := calls, called := d.called ++ [(t.id, n)], recent := recent } : Desk).TicketLaw := by
  have hqueued : ({ d with calls := t :: calls } : Desk).queued.Perm (t :: (allWaiting d.waiting ++ calls)) :=
    List.perm_middle
  refine ⟨?once, h.own, h.order, ?apart, fun x hx => ?ahead, h.missed, hrecent⟩
  case apart => exact (List.pairwise_cons.1 ((hqueued.pairwise_iff apart_symm).1 h.apart)).2
  case ahead => exact h.ahead x (hqueued.mem_iff.2 (List.mem_cons_of_mem _ hx))
  case once =>
    refine List.Perm.nodup_iff ?_ |>.2 h.once
    simp only [Desk.inHand, List.map_append, List.map_cons, List.map_nil]
    refine List.Perm.append_right _ ?_
    have hids := ((hqueued.map (·.id)).append_right (d.called.map (·.1))).symm
    rw [← List.append_assoc]
    exact List.perm_append_comm.trans hids

/-- A MISSED ticket becomes, for a moment, a chosen one, with its new turn (R145). -/
theorem Desk.TicketLaw.unmiss {d : Desk} {x : Ticket} {missed : List Ticket} (h : d.TicketLaw)
    (hm : d.missed.Perm (x :: missed)) :
    ({ d with
      missed := missed
      calls := { x with reinstated := some d.reinstateTurn } :: d.calls
      reinstateTurn := d.reinstateTurn + 1 } : Desk).TicketLaw := by
  let y : Ticket := { x with reinstated := some d.reinstateTurn }
  have hqueued : (allWaiting d.waiting ++ y :: d.calls).Perm (y :: d.queued) := List.perm_middle
  refine ⟨?once, h.own, h.order, (hqueued.pairwise_iff apart_symm).2 (List.pairwise_cons.2 ⟨fun z hz => ?fresh, h.apart⟩),
    fun z hz => ?ahead, ?missed, h.recent⟩
  case once =>
    refine List.Perm.nodup_iff ?_ |>.2 h.once
    calc List.map (·.id) (allWaiting d.waiting ++ y :: d.calls) ++ d.called.map (·.1) ++ missed.map (·.id)
        List.Perm _ (x.id :: (d.queued.map (·.id) ++ d.called.map (·.1) ++ missed.map (·.id))) :=
          ((hqueued.map (·.id)).append_right _).append_right _
        List.Perm _ (d.queued.map (·.id) ++ d.called.map (·.1) ++ x.id :: missed.map (·.id)) := List.perm_middle.symm
        List.Perm _ _ := (hm.symm.map (·.id)).append_left _
  case fresh =>
    have hturn := (h.ahead z hz).2
    unfold Ticket.apart
    cases hz' : z.reinstated with
    | none => trivial
    | some n => exact Nat.ne_of_gt (hturn n hz')
  case ahead =>
    rcases List.mem_cons.1 (hqueued.mem_iff.1 hz) with rfl | hz
    · refine ⟨fun hnone => ?_, fun n hn => ?_⟩
      · cases hnone
      · cases hn
        exact Nat.lt_succ_self _
    · exact (h.ahead z hz).imp_right fun hturn n hn => Nat.lt_succ_of_lt (hturn n hn)
  case missed => exact Nat.le_of_succ_le (hm.length_eq.symm.trans_le h.missed)

/-- A ticket is issued (R133, R134). -/
theorem Desk.TicketLaw.issue {d : Desk} {x : Ticket} (h : d.TicketLaw) (hseq : x.seq = d.issueCounter)
    (hnew : x.reinstated = none) (hfree : x.id ∉ d.inHand) : (d.issue x).TicketLaw := by
  have hqueued : (d.issue x).queued.Perm (x :: d.queued) :=
    (allWaiting_set_perm d.waiting (more := [x]) List.perm_append_comm).append_right d.calls
  have hearlier (y : Ticket) (hy : y ∈ d.queued) : y.precedes x = true ∧ x.apart y := by
    obtain ⟨hcounter, -⟩ := h.ahead y hy
    unfold Ticket.precedes Ticket.apart
    rw [hnew, hseq]
    cases hr : y.reinstated with
    | none => exact ⟨decide_eq_true (hcounter hr), Nat.ne_of_gt (hcounter hr)⟩
    | some n => exact ⟨rfl, trivial⟩
  refine ⟨?once, ?own, ?order, (hqueued.pairwise_iff apart_symm).2 (List.pairwise_cons.2 ⟨fun y hy => (hearlier y hy).2, h.apart⟩),
    fun y hy => ?ahead, h.missed, h.recent⟩
  case once =>
    have hhand : (d.issue x).inHand.Perm (x.id :: d.inHand) := ((hqueued.map (·.id)).append_right _).append_right _
    exact hhand.nodup_iff.2 (List.nodup_cons.2 ⟨hfree, h.once⟩)
  case own =>
    refine forall_set (P := fun j l => ∀ x ∈ l, x.id.cls = j) h.own fun y hy => ?_
    rcases List.mem_append.1 hy with hy | hy
    · exact h.own _ y hy
    · rw [List.mem_singleton.1 hy]
  case order =>
    refine forall_set (P := fun _ l => l.Pairwise fun a b => a.precedes b = true) h.order ?_
    refine List.pairwise_append.2 ⟨h.order _, List.pairwise_singleton _ _, fun y hy z hz => ?_⟩
    rw [List.mem_singleton.1 hz]
    exact (hearlier y (List.mem_append_left _ (mem_allWaiting hy))).1
  case ahead =>
    rcases List.mem_cons.1 (hqueued.mem_iff.1 hy) with rfl | hy
    · exact ⟨fun _ => hseq ▸ Nat.lt_succ_self _, fun n hn => by rw [hnew] at hn; cases hn⟩
    · exact (h.ahead y hy).imp_left fun hcounter hr => Nat.lt_succ_of_lt (hcounter hr)

/-- CALLED tickets leave. -/
theorem Desk.TicketLaw.leave {d : Desk} {called : List (TicketId × Nat)} (h : d.TicketLaw) (hc : called.Sublist d.called) :
    ({ d with called := called } : Desk).TicketLaw :=
  h.of_hand rfl rfl rfl rfl (((hc.map _).append_left _).append_right _).subperm h.missed rfl

/-- A CALLED ticket is missed, the oldest of a full list leaving it (R144). -/
theorem Desk.TicketLaw.miss {d : Desk} {x : Ticket} {n : Nat} {missed : List Ticket} (h : d.TicketLaw)
    (hx : (x.id, n) ∈ d.called) (hm : missed.Sublist d.missed) (hroom : missed.length < Config.missedPlaces) :
    ({ d.dropCalled x.id with missed := missed ++ [x] } : Desk).TicketLaw := by
  refine h.of_hand rfl rfl rfl rfl ?_ (by simpa using hroom) rfl
  have hcalled : (d.called.map (·.1)).Nodup := by
    have := h.once
    rw [Desk.inHand] at this
    exact (List.nodup_append.1 (List.nodup_append.1 this).1).2.1
  have hcons := (perm_cons_filter_ne (fun y : TicketId × Nat => y.1) hcalled hx).map (fun y => y.1)
  have hhand : (d.queued.map (·.id) ++ d.called.map (·.1) ++ missed.map (·.id)).Perm
      ({ d.dropCalled x.id with missed := missed ++ [x] } : Desk).inHand := by
    calc d.queued.map (·.id) ++ d.called.map (·.1) ++ missed.map (·.id)
        List.Perm _ (d.queued.map (·.id) ++ x.id :: (d.dropCalled x.id).called.map (·.1) ++ missed.map (·.id)) :=
          (hcons.append_left _).append_right _
        List.Perm _ (x.id :: (d.queued.map (·.id) ++ (d.dropCalled x.id).called.map (·.1) ++ missed.map (·.id))) :=
          List.perm_middle.append_right _
        List.Perm _ (d.queued.map (·.id) ++ (d.dropCalled x.id).called.map (·.1) ++ (missed.map (·.id) ++ [x.id])) := by
          rw [← List.append_assoc]; exact List.perm_append_comm (l₁ := [x.id])
        _ = _ := by simp [Desk.inHand, Desk.queued, Desk.dropCalled]
  exact hhand.symm.subperm.trans ((hm.map _).append_left _).subperm

end Sys2Proof.Machine.Tickets
end

section
/-! PROOF. What the moves on the desk do to the law of the bound transactions (O9). -/

namespace Sys2Proof.Machine.Tickets

open Ordered

/-! ### One held transaction replaced -/

/-- In a table in ascending order, an entry put over one of its number stands at that one's place. -/
theorem put_split {α : Type} {key : α → Nat} {before after : List α} {x y : α}
    (h : Ascending key (before ++ x :: after)) (hk : key y = key x) :
    put key y (before ++ x :: after) = before ++ y :: after := by
  induction before with
  | nil => simp [put, hk]
  | cons z before ih =>
    obtain ⟨hz, hrest⟩ := List.pairwise_cons.1 h
    have hlt : key z < key y := hk ▸ hz x (List.mem_append_right _ List.mem_cons_self)
    have hnot : ¬key y < key z := Nat.not_lt.2 (Nat.le_of_lt hlt)
    have hne : key y ≠ key z := Nat.ne_of_gt hlt
    simp only [List.cons_append, put, if_neg hnot, if_neg hne, ih hrest]

/-! ### The moves -/

variable {d : Desk}

theorem ticketApart_symm {x y : Nat × Option TicketId} (h : x.2 = none ∨ x.2 ≠ y.2) : y.2 = none ∨ y.2 ≠ x.2 := by
  rcases h with h | h
  · by_cases hy : y.2 = none
    · exact .inl hy
    · exact .inr fun he => hy (he.trans h)
  · exact .inr h.symm

/-- The held transactions in another order, or some more without a ticket. -/
theorem Desk.BoundLaw.openUnbound {n : Nat} {held : List (Nat × Option TicketId)} (h : d.BoundLaw)
    (hp : held.Perm ((n, none) :: d.held)) : ({ d with held := held } : Desk).BoundLaw where
  bound := fun x hx => (h.bound x hx).imp_left fun hm => hp.mem_iff.2 (List.mem_cons_of_mem _ hm)
  called := fun m k hm => by
    rcases List.mem_cons.1 (hp.mem_iff.1 hm) with he | hm
    · cases he
    · exact h.called m k hm
  once := (hp.pairwise_iff ticketApart_symm).2 (List.pairwise_cons.2 ⟨fun _ _ => .inl rfl, h.once⟩)
  gone := h.gone
  closed := h.closed

/-- A held transaction goes, and its ticket is reported gone (R122, R125). -/
theorem Desk.BoundLaw.leave {n : Nat} {k : Option TicketId} (h : d.BoundLaw) (hn : (d.held.map (·.1)).Nodup)
    (hm : (n, k) ∈ d.held) :
    ({ d with held := d.held.filter fun x => x.1 ≠ n, gone := d.gone ++ k.toList } : Desk).BoundLaw := by
  have hcons : d.held.Perm ((n, k) :: d.held.filter fun x => x.1 ≠ n) := perm_cons_filter_ne (·.1) hn hm
  have hapart := (List.pairwise_cons.1 ((hcons.pairwise_iff ticketApart_symm).1 h.once)).1
  have hgone (j : TicketId) : j ∈ d.gone ++ k.toList ↔ j ∈ d.gone ∨ k = some j := by
    cases k <;> simp [eq_comm]
  refine ⟨fun x hx => ?bound, fun m j hj => ?called, h.once.filter _, ⟨?gone, fun j hj => ?names⟩, h.closed⟩
  case bound =>
    rw [hgone]
    rcases h.bound x hx with hheld | hx
    · rcases List.mem_cons.1 (hcons.mem_iff.1 hheld) with he | hheld
      · exact .inr (.inr (congrArg Prod.snd he).symm)
      · exact .inl hheld
    · exact .inr (.inl hx)
  case called =>
    obtain ⟨hin, hnot⟩ := h.called m j (List.mem_of_mem_filter hj)
    refine ⟨hin, fun hj' => ((hgone j).1 hj').elim hnot fun hk => ?_⟩
    rcases hapart _ hj with hnone | hne
    · exact absurd (hk.symm.trans hnone) nofun
    · exact hne hk
  case gone =>
    cases k with
    | none => simpa using h.gone.1
    | some j => exact (List.nodup_append_comm.1 (List.nodup_cons.2 ⟨(h.called n j hm).2, h.gone.1⟩))
  case names =>
    rcases (hgone j).1 hj with hj | rfl
    · exact h.gone.2 j hj
    · exact ⟨n, (h.called n j hm).1⟩

/-- A bound transaction goes, and its ticket is CALLED no longer (R126, R144). -/
theorem Desk.BoundLaw.takeAway {n : Nat} {k : TicketId} (h : d.BoundLaw) (hn : (d.held.map (·.1)).Nodup)
    (hm : (n, some k) ∈ d.held) : ({ d.dropCalled k with held := d.held.filter fun x => x.1 ≠ n } : Desk).BoundLaw := by
  have hcons : d.held.Perm ((n, some k) :: d.held.filter fun x => x.1 ≠ n) := perm_cons_filter_ne (·.1) hn hm
  have hapart := (List.pairwise_cons.1 ((hcons.pairwise_iff ticketApart_symm).1 h.once)).1
  have hkept {j : TicketId} {m : Nat} : (j, m) ∈ (d.dropCalled k).called ↔ (j, m) ∈ d.called ∧ j ≠ k := by
    simp [Desk.dropCalled]
  refine ⟨fun x hx => ?bound, fun m j hj => ?called, h.once.filter _, ⟨h.gone.1, fun j hj => ?names⟩, fun hclosed => ?closed⟩
  case bound =>
    obtain ⟨hx, hne⟩ := hkept.1 hx
    refine (h.bound x hx).imp_left fun hheld => ?_
    rcases List.mem_cons.1 (hcons.mem_iff.1 hheld) with he | hheld
    · exact absurd (Option.some.inj (congrArg Prod.snd he)) hne
    · exact hheld
  case called =>
    obtain ⟨hin, hnot⟩ := h.called m j (List.mem_of_mem_filter hj)
    refine ⟨hkept.2 ⟨hin, ?_⟩, hnot⟩
    rintro rfl
    rcases hapart _ hj with hnone | hne
    · cases hnone
    · exact hne rfl
  case names =>
    obtain ⟨m, hin⟩ := h.gone.2 j hj
    refine ⟨m, hkept.2 ⟨hin, ?_⟩⟩
    rintro rfl
    exact (h.called n j hm).2 hj
  case closed =>
    obtain ⟨hcalled, hdiscards⟩ := h.closed hclosed
    exact ⟨by simp [Desk.dropCalled, hcalled], hdiscards⟩

/-- The tickets whose transactions have gone are CALLED no longer; `rest` are the reports still on their way. -/
theorem Desk.BoundLaw.hear {taken rest : List TicketId} (h : d.BoundLaw) (hp : d.gone.Perm (taken ++ rest)) :
    ({ d with gone := rest, called := d.called.filter fun x => x.1 ∉ taken } : Desk).BoundLaw := by
  have hkept {j : TicketId} {m : Nat} : (j, m) ∈ d.called.filter (fun x => x.1 ∉ taken) ↔ (j, m) ∈ d.called ∧ j ∉ taken := by
    simp
  obtain ⟨-, hrest, hdisjoint⟩ := List.nodup_append.1 (hp.nodup_iff.1 h.gone.1)
  refine ⟨fun x hx => ?bound, fun m j hj => ?called, h.once, ⟨hrest, fun j hj => ?names⟩, fun hclosed => ?closed⟩
  case bound =>
    obtain ⟨hx, hnot⟩ := hkept.1 hx
    exact (h.bound x hx).imp_right fun hgone => (List.mem_append.1 (hp.mem_iff.1 hgone)).resolve_left hnot
  case called =>
    obtain ⟨hin, hnot⟩ := h.called m j hj
    exact ⟨hkept.2 ⟨hin, fun ht => hnot (hp.mem_iff.2 (List.mem_append_left _ ht))⟩,
      fun hr => hnot (hp.mem_iff.2 (List.mem_append_right _ hr))⟩
  case names =>
    obtain ⟨m, hin⟩ := h.gone.2 j (hp.mem_iff.2 (List.mem_append_right _ hj))
    exact ⟨m, hkept.2 ⟨hin, fun ht => hdisjoint j ht j hj rfl⟩⟩
  case closed =>
    obtain ⟨hcalled, hdiscards⟩ := h.closed hclosed
    exact ⟨by simp [hcalled], hdiscards⟩

/-- A ticket not yet CALLED is called, with its transaction (R127, R141). -/
theorem Desk.BoundLaw.confirm {n : Nat} {k : TicketId} {held : List (Nat × Option TicketId)} (h : d.BoundLaw)
    (hopen : d.dayOpen = true) (hk : k ∉ d.called.map (·.1)) (hp : held.Perm ((n, some k) :: d.held)) :
    ({ d with held := held, called := d.called ++ [(k, n)] } : Desk).BoundLaw := by
  have hnew {j : TicketId} {m : Nat} (hj : (j, m) ∈ d.called) : j ≠ k := by
    rintro rfl
    exact hk (List.mem_map_of_mem hj)
  have hcalled {x : TicketId × Nat} : x ∈ d.called ++ [(k, n)] ↔ x ∈ d.called ∨ x = (k, n) := by simp
  have hmem {x : Nat × Option TicketId} : x ∈ held ↔ x = (n, some k) ∨ x ∈ d.held := by
    rw [hp.mem_iff, List.mem_cons]
  refine ⟨fun x hx => ?bound, fun m j hj => ?called, ?once, ⟨h.gone.1, fun j hj => ?names⟩, fun hclosed => ?closed⟩
  case bound =>
    rcases hcalled.1 hx with hx | rfl
    · exact (h.bound x hx).imp_left fun hm => hmem.2 (.inr hm)
    · exact .inl (hmem.2 (.inl rfl))
  case called =>
    rcases hmem.1 hj with he | hj
    · cases he
      refine ⟨hcalled.2 (.inr rfl), fun hgone => ?_⟩
      obtain ⟨m, hin⟩ := h.gone.2 _ hgone
      exact hnew hin rfl
    · exact (h.called m j hj).imp_left fun hin => hcalled.2 (.inl hin)
  case once =>
    refine (hp.pairwise_iff ticketApart_symm).2 (List.pairwise_cons.2 ⟨fun x hx => .inr fun he => ?_, h.once⟩)
    exact hnew (h.called x.1 k (by rw [show some k = x.2 from he]; exact hx)).1 rfl
  case names =>
    obtain ⟨m, hin⟩ := h.gone.2 j hj
    exact ⟨m, hcalled.2 (.inl hin)⟩
  case closed => exact absurd (hopen.symm.trans hclosed) nofun

/-- With no transaction held and no report on its way, no ticket is CALLED. -/
theorem Desk.BoundLaw.called_nil (h : d.BoundLaw) (hheld : d.held = []) (hgone : d.gone = []) : d.called = [] := by
  refine List.eq_nil_iff_forall_not_mem.2 fun x hx => ?_
  rcases h.bound x hx with hm | hm
  · rw [hheld] at hm; cases hm
  · rw [hgone] at hm; cases hm

end Sys2Proof.Machine.Tickets
end

section
/-! PROOF. Which operations leave the desk as it was: those of the links, the weighing channels, the outlets, the PLU table,
the lines and labels of transactions, and the totals unit (O9). -/

namespace Sys2Proof.Machine.Tickets

open PlatterOps

/-! ### One part of the state replaced -/

/-- The desk is made of five parts of the state. -/
theorem desk_congr {s t : State} (hday : t.totals.day.opened = s.totals.day.opened) (hqueue : t.queue = s.queue)
    (hheld : t.txn.held.map txnBond = s.txn.held.map txnBond) (hdiscards : t.transit.discards = s.transit.discards)
    (hreports : t.transit.ticketReports = s.transit.ticketReports) : desk t = desk s := by
  simp [desk, State.dayOpen, hday, hqueue, hheld, hdiscards, hreports]

/-- The desk, from those parts. -/
def deskOf (opened : Option OpenDay) (queue : TicketQueue) (held : List Txn) (discards : List DiscardOrder)
    (reports : List (TicketId × TicketReport)) : Desk where
  dayOpen := opened.isSome
  waiting := waitingLists queue.classes
  calls := queue.calls.map (·.ticket)
  called := queue.called.map bond
  missed := queue.missed
  recent := queue.recent.map (·.1)
  issueCounter := queue.issueCounter
  reinstateTurn := queue.reinstateTurn
  held := held.map txnBond
  discards := discards
  gone := reports.filterMap goneTicket

@[simp] theorem desk_mk (pending : List Instr) (link : LinkController) (weigh : PerPlatter Channel) (sealHigh : Bool)
    (plus : List PluRecord) (pricing : PricingSettings) (txn : TxnTable) (queue : TicketQueue)
    (outlets : PerOutlet Outlet) (totals : Totals) (clock : Clock) (transit : Transit) (readings : Nat) :
    desk ⟨pending, link, weigh, sealHigh, plus, pricing, txn, queue, outlets, totals, clock, transit, readings⟩ =
      deskOf totals.day.opened queue txn.held transit.discards transit.ticketReports := rfl

@[simp] theorem deskOf_eta (s : State) :
    deskOf s.totals.day.opened s.queue s.txn.held s.transit.discards s.transit.ticketReports = desk s := rfl

section OnePart
variable (s : State)

@[simp] theorem setLink_desk (p : Port) (l : Link) : desk (s.setLink p l) = desk s := rfl
@[simp] theorem mapLink_desk (p : Port) (f : Link → Link) : desk (s.mapLink p f) = desk s := rfl
@[simp] theorem notify_desk (p : Port) (n : Notice) : desk (s.notify p n) = desk s := rfl
@[simp] theorem taken_desk (p : Port) (t : Tag) (c : Instr) : desk (s.taken p t c) = desk s := rfl
@[simp] theorem takenDropped_desk (p : Port) (t : Tag) (c : Instr) : desk (s.takenDropped p t c) = desk s := rfl
@[simp] theorem transmitAll_desk : desk s.transmitAll = desk s := rfl
@[simp] theorem setChannel_desk (w : Platter) (c : Channel) : desk (s.setChannel w c) = desk s := rfl
@[simp] theorem setOutlet_desk (o : OutletId) (x : Outlet) : desk (s.setOutlet o x) = desk s := rfl
@[simp] theorem setPlu_desk (r : PluRecord) : desk (s.setPlu r) = desk s := rfl
@[simp] theorem setLine_desk (d : DispenserLine) (x : DispenserState) : desk (s.setLine d x) = desk s := rfl
@[simp] theorem setClerk_desk (c : ClerkNo) (k : Clerk) : desk (s.setClerk c k) = desk s := rfl
@[simp] theorem noteStation_desk (c : ClerkNo) (p : Port) : desk (s.noteStation c p) = desk s := rfl
@[simp] theorem withPending_desk (cs : List Instr) : desk (s.withPending cs) = desk s := rfl

theorem map_txnBond_lines (f : Txn → List Line) (l : List Txn) :
    (l.map fun x => { x with lines := f x }).map txnBond = l.map txnBond := by
  simp [Function.comp_def, txnBond]

@[simp] theorem clearLabel_desk (o : OutletId) (job : Nat) : desk (s.clearLabel o job) = desk s :=
  desk_congr rfl rfl (map_txnBond_lines _ _) rfl rfl

/-- A posting leaves the day as open as it was. -/
theorem mapTotals_desk {f : Totals → Totals} (h : (f s.totals).day.opened = s.totals.day.opened) :
    desk (s.mapTotals f) = desk s := desk_congr h rfl rfl rfl rfl

end OnePart

/-! ### Replies, notices, outlets -/

section Replies
variable (s : State)

@[simp] theorem notifyAll_desk (ps : List Port) (n : Notice) : desk (s.notifyAll ps n) = desk s :=
  foldl_keeps (g := desk) (fun s p => notify_desk s p n) ps s

@[simp] theorem reply_desk (r : Requester) (e : Result) (payload : Payload) : desk (s.reply r e payload) = desk s := by
  rcases s.reply_cases r e payload with h | h <;> rw [h]; rfl

@[simp] theorem ok_desk (r : Requester) (payload : Payload) : desk (s.ok r payload) = desk s := reply_desk s r .ok payload

@[simp] theorem refuse_desk (r : Requester) (e : Result) : desk (s.refuse r e) = desk s := reply_desk s r e .empty

@[simp] theorem replyTo_desk (r : Option Requester) (e : Result) (payload : Payload) :
    desk (s.replyTo r e payload) = desk s := by
  cases r with
  | none => rfl
  | some r => exact reply_desk s r e payload

end Replies

section Outlets
variable (s : State) (o : OutletId)

@[simp] theorem tellOutletState_desk (before : OutletState) : desk (s.tellOutletState o before) = desk s := by
  simp [State.tellOutletState]

@[simp] theorem jobLeft_desk (j : QueuedJob) (wasHead : Bool) : desk (s.jobLeft o j wasHead) = desk s := by
  unfold State.jobLeft
  dsimp only
  split_ifs <;> split <;> simp

@[simp] theorem dropHead_desk (j : QueuedJob) : desk (s.dropHead o j) = desk s := by simp [State.dropHead]

@[simp] theorem answerCancels_desk (rs : List Requester) : desk (s.answerCancels rs) = desk s :=
  foldl_keeps (g := desk) (fun s r => refuse_desk s r .cancelled) rs s

@[simp] theorem completeCancel_desk (j : QueuedJob) : desk (s.completeCancel o j) = desk s := by
  simp [State.completeCancel]

@[simp] theorem returnOrCancel_desk : desk (s.returnOrCancel o) = desk s := by
  unfold State.returnOrCancel
  split
  · rfl
  · split <;> simp

@[simp] theorem cancelQueued_desk (id : Nat) (r : Option Requester) : desk (s.cancelQueued o id r) = desk s := by
  unfold State.cancelQueued
  dsimp only
  split
  · rfl
  · split_ifs
    · simp
    · simp
    · simp
    · split <;> simp

@[simp] theorem cancelOrder_desk (id : Nat) : desk (s.cancelOrder o id) = desk s := by
  unfold State.cancelOrder; split <;> simp

@[simp] theorem cancelLabel_desk (l : Line) : desk (s.cancelLabel l) = desk s := by
  unfold State.cancelLabel; split <;> simp

@[simp] theorem tellJobDone_desk (j : QueuedJob) : desk (s.tellJobDone o j) = desk s := by
  unfold State.tellJobDone; split <;> simp

variable {s} {o}

theorem offer_desk {t : State} {job : Job} {id : Nat} (h : s.offer o job = some (t, id)) : desk t = desk s := by
  unfold State.offer at h
  split at h
  · cases h
  · cases h; simp

theorem offerInOrder_desk {t : State} {job : Job} {id : Nat} {os : List OutletId}
    (h : s.offerInOrder job os = some (t, o, id)) : desk t = desk s := by
  induction os with
  | nil => cases h
  | cons x os ih =>
    unfold State.offerInOrder at h
    split at h
    · next hx => cases h; exact offer_desk hx
    · exact ih h

end Outlets

/-! ### The PLU table and the totals unit -/

section Totals
variable (s : State)

@[simp] theorem lowTest_desk (r : PluRecord) : desk (s.lowTest r) = desk s := by
  unfold State.lowTest
  split
  · rfl
  · split <;> rfl

@[simp] theorem reserve_desk (r : PluRecord) (q : Nat) : desk (s.reserve r q) = desk s := by simp [State.reserve]

@[simp] theorem returnStock_desk (n q : Nat) : desk (s.returnStock n q) = desk s := by
  unfold State.returnStock; split <;> rfl

@[simp] theorem sellStock_desk (n q : Nat) : desk (s.sellStock n q) = desk s := by
  unfold State.sellStock; split <;> rfl

@[simp] theorem fireWatch_desk (i : Fin 4) (value : Nat) (txn : Option Nat) (armed : Bool) :
    desk (s.fireWatch i value txn armed) = desk s := rfl

@[simp] theorem evaluateLine_desk (plu amount subtotal txn : Nat) (is : List (Fin 4)) :
    desk (s.evaluateLine plu amount subtotal txn is).1 = desk s := by
  induction is generalizing s with
  | nil => rfl
  | cons i is ih =>
    unfold State.evaluateLine
    dsimp only
    split
    · exact ih s
    · exact ih _

@[simp] theorem lineWatches_desk (plu amount subtotal txn : Nat) (c : ClerkNo) :
    desk (s.lineWatches plu amount subtotal txn c).1 = desk s := by
  unfold State.lineWatches
  dsimp only
  split <;> simp

@[simp] theorem clerkWatches_desk (c : ClerkNo) : desk (s.clerkWatches c) = desk s := by
  refine foldl_keeps (g := desk) (fun s i => ?_) _ s
  unfold State.clerkWatch
  dsimp only
  split
  · split <;> rfl
  all_goals rfl

@[simp] theorem queueWatches_desk (k : TicketClass) (n : Nat) : desk (s.queueWatches k n) = desk s := by
  refine foldl_keeps (g := desk) (fun s i => ?_) _ s
  unfold State.queueWatch
  dsimp only
  split
  · split_ifs <;> rfl
  all_goals rfl

@[simp] theorem postTicket_desk (k : TicketClass) (change : TicketChange) :
    desk (s.mapTotals fun t => t.postTicket k change) = desk s := rfl

theorem postReport_opened (t : Totals) (m : TotalsReport) : (t.postReport m).day.opened = t.day.opened := by
  cases m <;> rfl

theorem postReports_opened (t : Totals) (ms : List TotalsReport) : (t.postReports ms).day.opened = t.day.opened := by
  induction ms generalizing t with
  | nil => rfl
  | cons m ms ih => exact (ih _).trans (postReport_opened t m)

@[simp] theorem postReport_desk (m : TotalsReport) : desk (s.mapTotals fun t => t.postReport m) = desk s :=
  mapTotals_desk s (postReport_opened _ _)

@[simp] theorem queueChange_desk (k : TicketClass) (cause : QueueCause) : desk (s.queueChange k cause) = desk s := by
  simp [State.queueChange]

@[simp] theorem abandonTickets_desk (ts : List Ticket) : desk (s.abandonTickets ts) = desk s :=
  foldl_keeps (g := desk) (fun s _ => postTicket_desk s _ _) ts s

end Totals

/-! ### Links and weighing channels -/

section Links
variable (s : State)

@[simp] theorem admitAll_desk (p : Port) : desk (s.admitAll p) = desk s := by
  have hfuel (fuel : Nat) (v : State) : desk (v.admitFrames p fuel) = desk v := by
    induction fuel generalizing v with
    | zero => rfl
    | succ fuel ih =>
      unfold State.admitFrames
      dsimp only
      split
      · rfl
      · split
        · rfl
        · split
          · exact ih _
          · rfl
  exact hfuel _ s

@[simp] theorem receiveAll_desk (p : Port) (events : List HuntEvent) : desk (s.receiveAll p events) = desk s :=
  foldl_keeps (g := desk) (fun s e => by simp) events s

@[simp] theorem replySent_desk (p : Port) (r : ReadyReply) : desk (s.replySent p r) = desk s := rfl

@[simp] theorem cancelPriceItem_desk (r : Requester) : desk (s.cancelPriceItem r) = desk s := by
  unfold State.cancelPriceItem; split <;> rfl

@[simp] theorem cancelAtOutlet_desk (o : OutletId) (r : Requester) : desk (s.cancelAtOutlet o r) = desk s := rfl

end Links

section Weighing
variable (s : State) (w : Platter)

@[simp] theorem alert_desk (a : AlertReason) : desk (s.alert w a) = desk s := by simp [State.alert]

@[simp] theorem sendReport_desk : desk (s.sendReport w) = desk s := by
  unfold State.sendReport
  dsimp only
  split <;> rfl

@[simp] theorem reportCheck_desk : desk (s.reportCheck w) = desk s := by
  rcases s.reportCheck_cases w with ⟨_, _, _, h⟩ | ⟨_, _, _, _, h⟩ <;> rw [h] <;> rfl

@[simp] theorem grantHold_desk (p : Port) : desk (s.grantHold w p) = desk s := by simp [State.grantHold]

@[simp] theorem endHold_desk : desk (s.endHold w) = desk s := by
  unfold State.endHold
  dsimp only
  split <;> simp

@[simp] theorem givePending_desk : desk (s.givePending w) = desk s := by
  unfold State.givePending; split <;> simp

@[simp] theorem clearSlot_desk : desk (s.clearSlot w) = desk s := rfl

@[simp] theorem endOperation_desk (op : OpEntry) (e : Result) (payload : Payload) :
    desk (s.endOperation w op e payload) = desk s := by simp [State.endOperation]

@[simp] theorem completeOperation_desk (op : OpEntry) : desk (s.completeOperation w op) = desk s := by
  unfold State.completeOperation State.beginWrite
  dsimp only
  split
  · split <;> simp
  · split <;> simp
  · simp
  · simp
  · split
    · simp
    · split <;> simp
  · rfl

@[simp] theorem testOperation_desk : desk (s.testOperation w) = desk s := by
  unfold State.testOperation
  dsimp only
  split
  · rfl
  · split
    · rfl
    · split <;> simp

@[simp] theorem evaluate_desk : desk (s.evaluate w) = desk s := by
  have halerts (as : List AlertReason) (v : State) :=
    foldl_keeps (g := desk) (f := fun s a => s.alert w a) (fun s a => alert_desk s w a) as v
  simp [State.evaluate, halerts]

@[simp] theorem askOperation_desk (kind : OpKind) (load : Nat) (r : Requester) :
    desk (s.askOperation w kind load r) = desk s := by
  unfold State.askOperation
  dsimp only
  split <;> simp

@[simp] theorem refuseOperation_desk (op : OpEntry) (e : Result) : desk (s.refuseOperation w op e) = desk s := by
  unfold State.refuseOperation
  dsimp only
  split <;> simp

@[simp] theorem sealOff_desk : desk (s.sealOff w) = desk s := by
  unfold State.sealOff
  split
  · split <;> simp
  · rfl

@[simp] theorem resetChannel_desk (p : Port) : desk (s.resetChannel p w) = desk s := by
  unfold State.resetChannel
  dsimp only
  split
  · split
    · split <;> simp
    · simp
  · rfl

@[simp] theorem cancelAtChannel_desk (r : Requester) : desk (s.cancelAtChannel w r) = desk s := by
  unfold State.cancelAtChannel
  dsimp only
  split
  · rfl
  · split
    · split <;> simp
    · rfl

end Weighing

end Sys2Proof.Machine.Tickets
end

section
/-! PROOF. The commands that leave the desk as it was (O9). -/

namespace Sys2Proof.Machine.Tickets

open PlatterOps Books

/-- Whatever state the outcome answers, its desk is that of `s`. -/
def KeepsDesk (s : State) (o : Outcome) : Prop := ∀ t, o = .next t → desk t = desk s

@[simp] theorem keepsDesk_next (s u : State) : KeepsDesk s (.next u) ↔ desk u = desk s :=
  ⟨fun h => h u rfl, by rintro h _ ⟨⟩; exact h⟩

@[simp] theorem keepsDesk_done (s u : State) : KeepsDesk s (done u) ↔ desk u = desk s := keepsDesk_next s u.transmitAll

/-- A request keeps the desk when its effect does. -/
theorem keepsDesk_takeRequest {p : Port} {t : Tag} {c : Instr} {s : State} {effect : Requester → State → State}
    (h : ∀ r u, desk (effect r u) = desk u) : KeepsDesk s (takeRequest p t c s effect) := by
  rcases takeRequest_cases p t c s effect with ⟨-, he⟩ | ⟨-, he⟩ | ⟨-, -, he⟩ <;> simp [he, h]

/-- The commands that may change the desk: those that take or change lines, those of the ticket queue, and those that
begin or end a day, start the part or cancel a request. -/
def changesDesk : Instr → Bool
  | .requestCancellation .. | .captureTaken .. | .addCountItem .. | .voidLine .. | .park .. | .resume .. | .approve ..
  | .closeTransaction .. | .voidTransaction .. | .openBound .. | .discard .. | .boundTxnReport ..
  | .ticketOutcomeReport .. | .issueTicket .. | .dispenserLineChange .. | .callNext .. | .callTimerExpiry ..
  | .recall .. | .skip .. | .reinstate .. | .openDay .. | .closeDay .. | .powerUp .. | .restartEffects .. => true
  | _ => false

/-- CONFIGURE CLASS leaves the waiting lists. -/
theorem applyEntries_waiting (es : List ClassEntry) (cs : PerClass ClassRecord) :
    waitingLists (applyEntries cs es) = waitingLists cs := by
  induction es generalizing cs with
  | nil => rfl
  | cons e es ih =>
    refine (ih _).trans ?_
    rw [waitingLists_set, ClassRecord.apply, ← waitingLists_get, PerClass.set_get]

section Commands
variable (s : State)

theorem linkReset_keepsDesk (p : Port) : KeepsDesk s (execLinkReset p s) := by
  unfold execLinkReset
  dsimp only
  split
  · simp
  · exact (keepsDesk_done _ _).2 (foldl_keeps (g := desk) (fun s v => resetChannel_desk s v p) Platter.all _)

theorem rateLearningCharacter_keepsDesk (p : Port) (lowNs : Nat) (decoded : Byte) :
    KeepsDesk s (execRateLearningCharacter p lowNs decoded s) := by
  unfold execRateLearningCharacter
  dsimp only
  split
  · split
    · split <;> simp
    · simp
  · simp

theorem captureCancellation_keepsDesk (w : Platter) : KeepsDesk s (execCaptureCancellation w s) := by
  unfold execCaptureCancellation
  dsimp only
  split
  · simp
  · split
    · split <;> simp
    · simp

theorem captureConsumed_keepsDesk (w : Platter) : KeepsDesk s (execCaptureConsumed w s) := by
  unfold execCaptureConsumed
  dsimp only
  split
  · simp
  · split
    · split <;> simp
    · simp

theorem captureRefusalTaken_keepsDesk (w : Platter) : KeepsDesk s (execCaptureRefusalTaken w s) := by
  unfold execCaptureRefusalTaken
  dsimp only
  split
  · simp
  · split <;> simp

theorem storeWriteEnd_keepsDesk (w : Platter) (success : Bool) : KeepsDesk s (execStoreWriteEnd w success s) := by
  have hend (u : State) (b : Prop) [Decidable b] : desk (if b then u.endHold w else u) = desk u := by split <;> simp
  unfold execStoreWriteEnd
  dsimp only
  split
  · simp
  · split
    · simp
    · cases success <;> simp [hend]

theorem sealFalls_keepsDesk : KeepsDesk s (execSealFalls s) := by
  unfold execSealFalls
  split
  · exact (keepsDesk_done _ _).2 (foldl_keeps (g := desk) (fun s v => sealOff_desk s v) Platter.all _)
  · simp

theorem reprintTotal_keepsDesk (p : Port) (t : Tag) (n : Nat) : KeepsDesk s (execReprintTotal p t n s) := by
  unfold execReprintTotal
  refine keepsDesk_takeRequest fun r u => ?_
  split
  · simp
  · split
    · simp
    · next h => simp [offerInOrder_desk h]

theorem priceItem_keepsDesk (p : Port) (t : Tag) (w : Platter) (plu clerk : Nat) (label : LabelChoice) :
    KeepsDesk s (execPriceItem p t w plu clerk label s) := by
  unfold execPriceItem
  split
  · simp
  · refine keepsDesk_takeRequest fun r u => ?_
    split
    · simp
    · dsimp only
      split <;> simp

theorem configureClass_keepsDesk (p : Port) (t : Tag) (es : List ClassEntry) :
    KeepsDesk s (execConfigureClass p t es s) := by
  unfold execConfigureClass
  refine keepsDesk_takeRequest fun r u => ?_
  split
  · simp
  · next cs htests =>
    simp only [configureClassTests, bind_eq_ok, pure_eq_ok, Except.ok.injEq] at htests
    obtain ⟨-, -, -, -, -, -, -, -, rfl⟩ := htests
    rw [ok_desk, State.mapQueue, desk_mk, deskOf]
    dsimp only
    rw [applyEntries_waiting]
    rfl

theorem configureStation_keepsDesk (p : Port) (t : Tag) (station : Port) (fields : StationFields) :
    KeepsDesk s (execConfigureStation p t station fields s) := by
  unfold execConfigureStation
  refine keepsDesk_takeRequest fun r u => ?_
  split
  · simp
  · rw [ok_desk]; rfl

theorem setWatch_keepsDesk (p : Port) (t : Tag) (n : Nat) (kind : WatchKind) (target threshold : Nat)
    (action : WatchAction) : KeepsDesk s (execSetWatch p t n kind target threshold action s) := by
  unfold execSetWatch
  refine keepsDesk_takeRequest fun r u => ?_
  split
  · simp
  · rw [ok_desk]; rfl

end Commands

/-- Every other command keeps the desk. Requests and events are taken together by the tests that stand before their
effects. -/
theorem exec_keepsDesk (s : State) (c : Instr) (hc : changesDesk c = false) : KeepsDesk s (exec c s) := by
  cases c
  case requestCancellation | captureTaken | addCountItem | voidLine | park | resume | approve | closeTransaction |
      voidTransaction | openBound | discard | boundTxnReport | ticketOutcomeReport | issueTicket | dispenserLineChange |
      callNext | callTimerExpiry | skip | reinstate | openDay | closeDay | powerUp | restartEffects =>
    cases hc
  all_goals dsimp only [exec]
  case readStatus | readWeight | calZero | calSpan | readCalibration | readQueue | readOutlet | readWatch =>
    exact keepsDesk_takeRequest fun r u => by simp
  case readRefusal | setThreshold | setNoticePriority | setPermissions | zero | tare | readTransaction | readClerk |
      cancelJob | readTotals | readClosedDay | setClock | clerkWrite | pluWrite | stockLoad | pluWithdraw |
      pluRestore =>
    exact keepsDesk_takeRequest fun r u => by split <;> simp
  case presetTare | clearTare | resumeOutlet | configureOutlet | readLink | restart =>
    exact keepsDesk_takeRequest fun r u => by dsimp only; split <;> simp
  case calHold | calRelease =>
    exact keepsDesk_takeRequest fun r u => by dsimp only; split_ifs <;> simp
  case pluRead | pluReadNext =>
    exact keepsDesk_takeRequest fun r u => by
      split
      · split <;> simp
      · simp
  case pluDelete =>
    exact keepsDesk_takeRequest fun r u => by
      split
      · simp
      · split <;> simp
  case stockLoadNone =>
    exact keepsDesk_takeRequest fun r u => by
      split
      · simp
      · split
        · simp
        · split <;> simp
  case configurePlatter =>
    exact keepsDesk_takeRequest fun r u => by
      dsimp only
      split
      · simp
      · split <;> simp
  case sealRises | holdOffExpiry | holdAsserted | holdReleased | clockSecond | daySecondsAdvance =>
    dsimp only [execSealRises, execHoldOffExpiry, execHoldAsserted, execHoldReleased, execClockSecond,
      execDaySecondsAdvance]
    simp
  case presentLineRises | frameReceived | frameGapTimeout | transmitComplete | sampleArrival | operationTimeout |
      holdTimerExpiry | paperOut | paperReady | outletPresentFalls | outletPresentRises | totalsReport =>
    dsimp only [execPresentLineRises, execFrameReceived, execFrameGapTimeout, execTransmitComplete, execSampleArrival,
      execOperationTimeout, execHoldTimerExpiry, execPaperOut, execPaperReady, execOutletPresentFalls,
      execOutletPresentRises, execTotalsReport]
    split <;> simp
  case silenceTimerExpiry | reportTimerExpiry | deviceJobDone =>
    dsimp only [execSilenceTimerExpiry, execReportTimerExpiry, execDeviceJobDone]
    split
    · simp
    · split <;> simp
  case lineTaken =>
    dsimp only [execLineTaken]
    split
    · simp
    · split_ifs <;> simp
  case linkReset p => exact linkReset_keepsDesk s p
  case rateLearningCharacter p lowNs decoded => exact rateLearningCharacter_keepsDesk s p lowNs decoded
  case captureCancellation w => exact captureCancellation_keepsDesk s w
  case captureConsumed w => exact captureConsumed_keepsDesk s w
  case captureRefusalTaken w => exact captureRefusalTaken_keepsDesk s w
  case storeWriteEnd w success => exact storeWriteEnd_keepsDesk s w success
  case sealFalls => exact sealFalls_keepsDesk s
  case configureStation p t station fields => exact configureStation_keepsDesk s p t station fields
  case configureClass p t es => exact configureClass_keepsDesk s p t es
  case priceItem p t w plu clerk label => exact priceItem_keepsDesk s p t w plu clerk label
  case reprintTotal p t n => exact reprintTotal_keepsDesk s p t n
  case setWatch p t n kind target threshold action => exact setWatch_keepsDesk s p t n kind target threshold action
  -- The one command left is RECALL, whose constructor's name is a keyword here.
  · cases hc

end Sys2Proof.Machine.Tickets
end

section
/-! PROOF. What the operations of the transaction table and of the ticket queue do to the desk (O9). -/

namespace Sys2Proof.Machine.Tickets

open PlatterOps Books Ordered Calls

/-! ### Held transactions (R105, R107) -/

section Held
variable (s : State)

theorem setTxn_desk (x : Txn) : desk (s.setTxn x) = { desk s with held := (putTxn x s.txn.held).map txnBond } := rfl

theorem openTxn_desk (c : ClerkNo) (k : Option TicketId) (p : Port) : desk (s.openTxn c k p) =
    { desk s with held := (putTxn (openedTxn s c k p) s.txn.held).map txnBond } := rfl

theorem removeTxn_desk (x : Txn) :
    desk (s.removeTxn x) = { desk s with held := (desk s).held.filter fun y => y.1 ≠ x.number } := by
  have hheld : (s.txn.held.filter fun y => y.number ≠ x.number).map txnBond =
      (s.txn.held.map txnBond).filter fun y => y.1 ≠ x.number := by
    rw [List.filter_map]; rfl
  have hdesk : desk (withoutTxn s x) = { desk s with held := (desk s).held.filter fun y => y.1 ≠ x.number } := by
    rw [withoutTxn, desk_mk, deskOf, hheld]; rfl
  by_cases h : (s.clerk x.clerk).openTxn = some x.number
  · rw [removeTxn_of_open s h, setClerk_desk, hdesk]
  · rw [removeTxn_of_not_open s h, hdesk]

variable {s}

/-- A held transaction replaced by one of its number and ticket. -/
theorem setTxn_desk_of_found {x y : Txn} (ha : Ascending Txn.number s.txn.held) (hx : s.findTxn x.number = some x)
    (hb : txnBond y = txnBond x) : desk (s.setTxn y) = desk s := by
  obtain ⟨before, after, hheld⟩ := List.append_of_mem (findTxn_mem hx)
  have hput : putTxn y s.txn.held = before ++ y :: after := by
    rw [hheld] at ha ⊢
    rw [putTxn_eq_put]
    exact put_split ha (congrArg Prod.fst hb)
  rw [setTxn_desk, hput]
  simp [desk, hheld, hb]

theorem mapTxn_desk {n : Nat} {f : Txn → Txn} (ha : Ascending Txn.number s.txn.held)
    (hf : ∀ x, txnBond (f x) = txnBond x) : desk (s.mapTxn n f) = desk s := by
  unfold State.mapTxn
  cases hx : s.findTxn n with
  | none => rfl
  | some x => exact setTxn_desk_of_found ha ((findTxn_number hx).symm ▸ hx) (hf x)

theorem ascending_iff : Ascending Txn.number s.txn.held ↔ (desk s).held.Pairwise fun x y => x.1 < y.1 :=
  (List.pairwise_map (f := txnBond) (R := fun x y => x.1 < y.1)).symm

/-- A line voided leaves its transaction's number and ticket, and every other transaction's (R125). -/
theorem voidAll_desk (ha : Ascending Txn.number s.txn.held) (x : Txn) : desk (s.voidAll x) = desk s := by
  have hone (v : State) (hv : Ascending Txn.number v.txn.held) (l : Line) : desk (v.voidOne x.number l) = desk v := by
    rw [State.voidOne, cancelLabel_desk, returnStock_desk, mapTxn_desk (f := fun x => x.voidLine l) hv fun _ => rfl]
  unfold State.voidAll
  induction unvoided x.lines generalizing s with
  | nil => rfl
  | cons l ls ih =>
    have hl := hone s ha l
    exact (ih (ascending_iff.2 (hl ▸ ascending_iff.1 ha))).trans hl

theorem nodup_numbers (ha : Ascending Txn.number s.txn.held) : ((desk s).held.map (·.1)).Nodup :=
  List.pairwise_map.2 ((ascending_iff.1 ha).imp Nat.ne_of_lt)

theorem found_bond {n : Nat} {x : Txn} (h : s.findTxn n = some x) : (x.number, x.ticket) ∈ (desk s).held :=
  List.mem_map_of_mem (findTxn_mem h)

/-- An opening's number is of no other transaction. -/
theorem openTxn_held_perm (h : TableRules s) (c : ClerkNo) (k : Option TicketId) (p : Port) :
    (desk (s.openTxn c k p)).held.Perm ((s.txn.takesNumber, k) :: (desk s).held) := by
  have hfree : s.txn.held.filter (fun y => y.number ≠ s.txn.takesNumber) = s.txn.held := by
    refine List.filter_eq_self.2 fun y hy => decide_eq_true fun he => ?_
    have hfound := findTxn_of_mem h.ascending hy
    rw [he, h.takesNumber.1] at hfound
    cases hfound
  have hput := put_perm h.ascending (openedTxn s c k p)
  rw [← putTxn_eq_put] at hput
  have hperm : (putTxn (openedTxn s c k p) s.txn.held).Perm (openedTxn s c k p :: s.txn.held) := by
    refine hput.trans ?_
    rw [show (openedTxn s c k p).number = s.txn.takesNumber from rfl, hfree]
  exact hperm.map txnBond

end Held

/-! ### Reports and orders on their way -/

section Reports
variable (s : State)

theorem reportBound_desk (k : Option TicketId) (r : BoundReport) : desk (s.reportTicket k (.bound r)) = desk s := by
  cases k with
  | none => rfl
  | some k =>
    refine (desk_mk ..).trans ?_
    rw [deskOf, List.filterMap_append, show [(k, TicketReport.bound r)].filterMap goneTicket = [] from rfl,
      List.append_nil]
    rfl

theorem reportOutcome_desk (k : Option TicketId) (o : TicketOutcome) :
    desk (s.reportTicket k (.outcome o)) = { desk s with gone := (desk s).gone ++ k.toList } := by
  cases k with
  | none => exact congrArg (fun g => ({ desk s with gone := g } : Desk)) (List.append_nil _).symm
  | some k =>
    refine (desk_mk ..).trans ?_
    rw [deskOf, List.filterMap_append]
    rfl

end Reports

/-! ### Tickets -/

section Queue
variable (s : State)

theorem enlist_desk (t : Ticket) : desk (s.enlist t) = (desk s).enlist t := by
  rw [State.enlist, State.setClass, State.mapQueue, desk_mk, deskOf, Desk.enlist]
  dsimp only
  rw [waitingLists_set, State.classOf, ← waitingLists_get]
  rfl

theorem delist_desk (k : TicketId) : desk (s.delist k) = (desk s).delist k := by
  rw [State.delist, State.setClass, State.mapQueue, desk_mk, deskOf, Desk.delist]
  dsimp only
  rw [waitingLists_set, State.classOf, ← waitingLists_get]
  rfl

theorem dropCalled_desk (k : TicketId) : desk (s.dropCalled k) = (desk s).dropCalled k := by
  rw [State.dropCalled, State.mapQueue, desk_mk, deskOf, Desk.dropCalled]
  dsimp only
  have hcalled : (s.queue.called.filter fun x => x.ticket.id ≠ k).map bond =
      (s.queue.called.map bond).filter fun x => x.1 ≠ k := by
    rw [List.filter_map]; rfl
  rw [hcalled]
  rfl

variable {s}

theorem map_bond_updateFirst {k : TicketId} {x y : CalledTicket} {l : List CalledTicket}
    (hx : l.find? (fun z => z.ticket.id = k) = some x) (hb : bond y = bond x) :
    (updateFirst (fun z => z.ticket.id = k) (fun _ => y) l).map bond = l.map bond := by
  induction l with
  | nil => cases hx
  | cons z l ih =>
    by_cases hz : z.ticket.id = k
    · have hzx : z = x := by simpa [hz] using hx
      subst hzx
      simp [updateFirst, hz, hb]
    · have hrest : l.find? (fun z => z.ticket.id = k) = some x := by simpa [hz] using hx
      simp [updateFirst, hz, ih hrest]

theorem findCalled_id {k : TicketId} {x : CalledTicket} (h : s.findCalled k = some x) : x.ticket.id = k := by
  simpa using List.find?_some h

theorem findCalled_bond {k : TicketId} {x : CalledTicket} (h : s.findCalled k = some x) :
    (k, x.txn) ∈ (desk s).called := by
  have hx : bond x ∈ (desk s).called := List.mem_map_of_mem (List.mem_of_find?_eq_some h)
  rwa [bond, findCalled_id h] at hx

/-- A CALLED ticket changed keeps its id and its transaction. -/
theorem setCalled_desk {k : TicketId} {x y : CalledTicket} (hx : s.findCalled k = some x) (hb : bond y = bond x) :
    desk (s.setCalled y) = desk s := by
  have hid : y.ticket.id = k := (congrArg Prod.fst hb).trans (findCalled_id hx)
  rw [State.setCalled, State.mapQueue, desk_mk, deskOf]
  dsimp only
  rw [hid, map_bond_updateFirst hx hb]
  rfl

theorem hearBound_desk (k : TicketId) (r : BoundReport) : desk (s.hearBound k r) = desk s := by
  unfold State.hearBound
  split
  · rfl
  · next x hx =>
    refine setCalled_desk hx ?_
    rcases r with _ | _ | empty
    · rfl
    · rfl
    · cases empty <;> rfl

/-- A ticket that is not CALLED cannot leave. -/
theorem dropCalled_of_none {k : TicketId} (h : s.findCalled k = none) : (desk s).dropCalled k = desk s := by
  have hnone : (desk s).called.filter (fun x => x.1 ≠ k) = (desk s).called := by
    refine List.filter_eq_self.2 fun x hx => decide_eq_true ?_
    obtain ⟨y, hy, rfl⟩ := List.mem_map.1 hx
    simpa [bond] using List.find?_eq_none.1 h y hy
  rw [Desk.dropCalled, hnone]

theorem endTicket_desk (k : TicketId) (o : TicketOutcome) : desk (s.endTicket k o) = (desk s).dropCalled k := by
  unfold State.endTicket
  split
  · next h => exact (dropCalled_of_none h).symm
  · rw [postTicket_desk, dropCalled_desk]

/-- The desk with a ticket at the front of the recent calls (R146). -/
def Desk.recall (d : Desk) (k : TicketId) : Desk :=
  { d with recent := (k :: d.recent.filter (· ≠ k)).take Config.recentPlaces }

theorem Desk.TicketLaw.recallRoom {d : Desk} (h : d.TicketLaw) (k : TicketId) :
    (d.recall k).recent.length ≤ Config.recentPlaces ∧ (d.recall k).recent.Nodup := by
  refine ⟨List.length_take_le _ _, List.Nodup.sublist (List.take_sublist _ _) ?_⟩
  exact List.nodup_cons.2 ⟨fun hk => by simpa using (List.mem_filter.1 hk).2, h.recent.2.filter _⟩

theorem Desk.TicketLaw.recall {d : Desk} (h : d.TicketLaw) (k : TicketId) : (d.recall k).TicketLaw :=
  ⟨h.once, h.own, h.order, h.apart, h.ahead, h.missed, h.recallRoom k⟩

variable (s)

theorem showCall_desk (k : TicketId) (p : Port) : desk (s.showCall k p) = (desk s).recall k := by
  have hrecent : (takeRecent k p s.queue.recent).map (·.1) =
      (k :: (s.queue.recent.map (·.1)).filter (· ≠ k)).take Config.recentPlaces := by
    rw [takeRecent, List.map_take, List.map_cons, List.filter_map]; rfl
  rw [showCall_eq, desk_mk, deskOf]
  dsimp only
  rw [hrecent]
  rfl

theorem confirmCall_desk (t : Ticket) (n : Nat) (p : Port) : desk (s.confirmCall t n p) =
    { (desk s).recall t.id with called := (desk s).called ++ [(t.id, n)] } := by
  unfold State.confirmCall
  dsimp only
  rw [queueChange_desk, queueWatches_desk, showCall_desk, State.mapQueue, desk_mk, deskOf]
  dsimp only
  rw [List.map_append]
  rfl

theorem issue_desk (k : TicketClass) (n : Nat) : desk (s.issue k n) =
    (desk s).issue ⟨⟨k, n⟩, s.queue.issueCounter, s.clock.daySeconds, none, none⟩ := by
  unfold State.issue
  dsimp only
  rw [queueChange_desk, queueWatches_desk, postTicket_desk, State.setClass, State.mapQueue, State.mapQueue, desk_mk,
    deskOf, Desk.issue]
  dsimp only
  rw [waitingLists_set, State.classOf, ← waitingLists_get]
  rfl

/-- A ticket joins the missed list, the oldest of a full one leaving it (R144). -/
theorem missTicket_desk (t : Ticket) : ∃ missed, missed.Sublist s.queue.missed ∧
    (s.queue.missed.length ≤ Config.missedPlaces → missed.length < Config.missedPlaces) ∧
    desk (s.missTicket t) = { desk s with missed := missed ++ [t] } := by
  unfold State.missTicket
  dsimp only
  split
  · next h => exact ⟨s.queue.missed, .refl _, fun _ => h, rfl⟩
  · cases hm : s.queue.missed with
    | nil =>
      refine ⟨[], List.nil_sublist _, fun _ => by decide, ?_⟩
      dsimp only [State.mapQueue, State.mapTotals]
      rw [desk_mk, hm]
      rfl
    | cons old rest =>
      exact ⟨rest, List.sublist_cons_self _ _, fun h => h, rfl⟩

/-- Every report on its way is heard: the tickets whose transactions have gone are CALLED no longer. -/
theorem settleTickets_desk : desk s.settleTickets =
    { desk s with gone := [], called := (desk s).called.filter fun x => x.1 ∉ (desk s).gone } := by
  have hfold (ms : List (TicketId × TicketReport)) (v : State) : desk (ms.foldl State.hearReport v) =
      { desk v with called := (desk v).called.filter fun x => x.1 ∉ ms.filterMap goneTicket } := by
    induction ms generalizing v with
    | nil => simp
    | cons m ms ih =>
      obtain ⟨k, m⟩ := m
      refine (ih _).trans ?_
      cases m with
      | bound r =>
        rw [show v.hearReport (k, .bound r) = v.hearBound k r from rfl, hearBound_desk]
        rfl
      | outcome o =>
        rw [show v.hearReport (k, .outcome o) = v.endTicket k o from rfl, endTicket_desk,
          show ((k, TicketReport.outcome o) :: ms).filterMap goneTicket = k :: ms.filterMap goneTicket from rfl]
        simp [Desk.dropCalled, List.filter_filter, Bool.and_comm, beq_eq_decide]
  exact congrArg (fun d : Desk => { d with gone := [] }) (hfold s.transit.ticketReports s)

theorem abandonClass_desk (k : TicketClass) :
    desk (s.abandonClass k) = { desk s with waiting := (desk s).waiting.set k [] } := by
  unfold State.abandonClass
  dsimp only
  have hwaiting : (desk s).waiting.get k = (s.classOf k).waiting := waitingLists_get _ _
  split
  · next h =>
    have hnil : (desk s).waiting.get k = [] := hwaiting.trans (List.isEmpty_iff.1 h)
    rw [← hnil, PerClass.set_get]
  · rw [queueChange_desk, abandonTickets_desk, State.setClass, State.mapQueue, desk_mk, deskOf]
    dsimp only
    rw [waitingLists_set]
    rfl

theorem endDay_desk : desk s.endDay = { desk s with waiting := ⟨[], [], [], []⟩, missed := [] } := by
  have hall : desk (TicketClass.all.foldl State.abandonClass s) = { desk s with waiting := ⟨[], [], [], []⟩ } := by
    simp only [TicketClass.all, List.foldl_cons, List.foldl_nil, abandonClass_desk]
    rfl
  unfold State.endDay
  dsimp only
  rw [abandonTickets_desk]
  exact congrArg (fun d : Desk => { d with missed := [] }) hall

end Queue

end Sys2Proof.Machine.Tickets
end

section
/-! PROOF. The laws of the tickets, of the closed day and of the bound transactions together, and the commands of the
transaction table (O9). -/

namespace Sys2Proof.Machine.Tickets

open PlatterOps Books Ordered

/-! ### What a change keeps -/

/-- A change that keeps the law of the closed day; on a day that has it, the law of the tickets; and, with the rules of the
transaction table, the law of the bound transactions. -/
structure Orderly (s t : State) : Prop where
  day : (desk s).DayLaw → (desk t).DayLaw
  tickets : (desk s).DayLaw → (desk s).TicketLaw → (desk t).TicketLaw
  bound : TableRules s → (desk s).DayLaw → (desk s).TicketLaw → (desk s).BoundLaw → (desk t).BoundLaw

section
variable {s t u : State}

theorem orderly_of_desk (h : desk t = desk s) : Orderly s t where
  day := h ▸ id
  tickets := fun _ => h ▸ id
  bound := fun _ _ _ => h ▸ id

/-- What leaves the desk after a change. -/
theorem Orderly.congr (h : Orderly s t) (hd : desk u = desk t) : Orderly s u where
  day := fun hday => hd ▸ h.day hday
  tickets := fun hday hticket => hd ▸ h.tickets hday hticket
  bound := fun hr hday hticket hbound => hd ▸ h.bound hr hday hticket hbound

/-- What leaves the desk and the books before a change. -/
theorem Orderly.after (h : Orderly u t) (hd : desk u = desk s) (hr : TableRules s → TableRules u) : Orderly s t where
  day := fun hday => h.day (hd ▸ hday)
  tickets := fun hday hticket => h.tickets (hd ▸ hday) (hd ▸ hticket)
  bound := fun hs hday hticket hbound => h.bound (hr hs) (hd ▸ hday) (hd ▸ hticket) (hd ▸ hbound)

theorem orderly_refuse (r : Requester) (e : Result) : Orderly s (s.refuse r e) := orderly_of_desk (refuse_desk s r e)

end

/-- Whatever state the outcome answers, it is an orderly one. -/
def KeepsOrder (s : State) (o : Outcome) : Prop := ∀ t, o = .next t → Orderly s t

section
variable {s u : State}

theorem keepsOrder_next (h : Orderly s u) : KeepsOrder s (.next u) := by
  rintro _ ⟨⟩
  exact h

theorem keepsOrder_done (h : Orderly s u) : KeepsOrder s (done u) := keepsOrder_next (h.congr (transmitAll_desk u))

theorem keepsOrder_of_keepsDesk {o : Outcome} (h : KeepsDesk s o) : KeepsOrder s o := fun t ht => orderly_of_desk (h t ht)

/-- A request keeps the order when its effect does, in the states it can be taken in. -/
theorem keepsOrder_takeRequest_of {p : Port} {t : Tag} {c : Instr} {effect : Requester → State → State} (P : State → Prop)
    (htaken : P (s.taken p t c)) (hdropped : P (s.takenDropped p t c))
    (h : ∀ r u, P u → Orderly u (effect r u)) : KeepsOrder s (takeRequest p t c s effect) := by
  rcases takeRequest_cases p t c s effect with ⟨-, he⟩ | ⟨-, he⟩ | ⟨-, -, he⟩ <;> rw [he]
  · exact keepsOrder_done ((h _ _ htaken).after (taken_desk s p t c) (tableRules_of_books (taken_books s p t c)))
  · exact keepsOrder_done
      ((h _ _ hdropped).after (takenDropped_desk s p t c) (tableRules_of_books (takenDropped_books s p t c)))
  · exact keepsOrder_next (orderly_of_desk rfl)

theorem keepsOrder_takeRequest {p : Port} {t : Tag} {c : Instr} {effect : Requester → State → State}
    (h : ∀ r u, Orderly u (effect r u)) : KeepsOrder s (takeRequest p t c s effect) :=
  keepsOrder_takeRequest_of (fun _ => True) trivial trivial fun r u _ => h r u

end

/-! ### Changes of held transactions alone -/

section Held
variable {s t : State} {x y : Txn}

theorem openOf_found {c : ClerkNo} (h : s.openOf c = some x) : s.findTxn x.number = some x := by
  obtain ⟨n, -, hn⟩ := Option.bind_eq_some_iff.1 h
  exact findTxn_number hn ▸ hn

/-- A CLOSED day holds no transaction. -/
theorem dayOpen_of_found {n : Nat} (h : s.findTxn n = some x) (hday : (desk s).DayLaw) : (desk s).dayOpen = true := by
  by_contra hclosed
  have hheld := (hday (by simpa using hclosed)).1
  exact List.not_mem_nil (hheld ▸ found_bond h)

/-- On an OPEN day the transactions held, the reports and the orders may change as the law of the bound transactions
allows. -/
theorem orderly_held {held : List (Nat × Option TicketId)} {discards : List DiscardOrder} {gone : List TicketId}
    (hd : desk t = { desk s with held := held, discards := discards, gone := gone })
    (hopen : (desk s).DayLaw → (desk s).dayOpen = true)
    (hbound : TableRules s → (desk s).BoundLaw → (desk s).dayOpen = true →
      ({ desk s with held := held, discards := discards, gone := gone } : Desk).BoundLaw) : Orderly s t where
  day := fun hday hclosed => by
    rw [hd] at hclosed
    exact absurd ((hopen hday).symm.trans hclosed) nofun
  tickets := fun _ h => by
    rw [hd]
    exact ⟨h.once, h.own, h.order, h.apart, h.ahead, h.missed, h.recent⟩
  bound := fun hr hday _ h => hd ▸ hbound hr h (hopen hday)

/-- A held transaction changed, its number and its ticket kept. -/
theorem orderly_setTxn (hx : s.findTxn x.number = some x) (hb : txnBond y = txnBond x)
    (hd : desk t = desk (s.setTxn y)) : Orderly s t :=
  orderly_held (hd.trans (setTxn_desk s y)) (dayOpen_of_found hx) fun hr h _ =>
    (setTxn_desk_of_found hr.ascending hx hb).symm.trans (setTxn_desk s y) ▸ h

end Held

/-! ### Requests on held transactions (R116 to R126) -/

section Requests
variable (s : State) (p : Port) (t : Tag)

theorem voidLine_keepsOrder (clerk index : Nat) : KeepsOrder s (execVoidLine p t clerk index s) := by
  refine keepsOrder_takeRequest fun r u => ?_
  split
  · exact orderly_refuse r _
  · next x l htests =>
    simp only [State.voidLineTests, bind_eq_ok, orRefuse_eq_ok, pure_eq_ok, Except.ok.injEq, Prod.mk.injEq] at htests
    obtain ⟨c, -, x', hx, l', -, -, -, rfl, rfl⟩ := htests
    exact orderly_setTxn (y := { x'.voidLine l' with lastStation := p }) (openOf_found hx) rfl
      (by rw [ok_desk, cancelLabel_desk, mapTotals_desk _ rfl, returnStock_desk, noteStation_desk])

theorem park_keepsOrder (clerk : Nat) : KeepsOrder s (execPark p t clerk s) := by
  refine keepsOrder_takeRequest fun r u => ?_
  split
  · exact orderly_refuse r _
  · next x htests =>
    simp only [State.parkTests, bind_eq_ok, require_eq_ok, orRefuse_eq_ok, pure_eq_ok, Except.ok.injEq] at htests
    obtain ⟨c, -, x', hx, -, -, rfl⟩ := htests
    exact orderly_setTxn (y := { x' with parkedAt := some u.now, lastStation := p }) (openOf_found hx) rfl
      (by rw [ok_desk, reportBound_desk, setClerk_desk]; rfl)

theorem resume_keepsOrder (clerk : Nat) (target : ResumeTarget) : KeepsOrder s (execResume p t clerk target s) := by
  refine keepsOrder_takeRequest fun r u => ?_
  split
  · exact orderly_refuse r _
  · next x htests =>
    simp only [State.resumeTests, bind_eq_ok, orRefuse_eq_ok] at htests
    obtain ⟨c, -, x', hx, htests⟩ := htests
    cases hopen : u.openOf c with
    | some y => simp only [hopen] at htests; split_ifs at htests
    | none =>
      simp only [hopen, pure_eq_ok, Except.ok.injEq] at htests
      subst htests
      exact orderly_setTxn (y := { x' with parkedAt := none, lastStation := p }) (resumeFinds_some hx).1 rfl
        (by rw [ok_desk, reportBound_desk, setClerk_desk]; rfl)

theorem approve_keepsOrder (number : Nat) : KeepsOrder s (execApprove p t number s) := by
  refine keepsOrder_takeRequest fun r u => ?_
  split
  · exact orderly_refuse r _
  · next x htests =>
    simp only [State.approveTests, bind_eq_ok, require_eq_ok, orRefuse_eq_ok, pure_eq_ok, Except.ok.injEq] at htests
    obtain ⟨-, -, x', hx, -, -, rfl⟩ := htests
    have hfind : u.findTxn x'.number = some x' := (findTxn_number hx).symm ▸ hx
    exact orderly_setTxn (y := { x' with approval := .granted }) hfind rfl (ok_desk _ r _)

/-- A transaction leaves, and its ticket is reported gone. -/
theorem orderly_leave {s t : State} {x : Txn} (hx : s.findTxn x.number = some x)
    (hd : TableRules s → desk t = { desk s with
      held := (desk s).held.filter fun y => y.1 ≠ x.number, gone := (desk s).gone ++ x.ticket.toList })
    (hframe : ∃ held, desk t = { desk s with held := held, gone := (desk s).gone ++ x.ticket.toList }) :
    Orderly s t := by
  obtain ⟨held, hheld⟩ := hframe
  refine orderly_held hheld (dayOpen_of_found hx) fun hr h _ => ?_
  rw [← hheld, hd hr]
  exact h.leave (nodup_numbers hr.ascending) (found_bond hx)

theorem closeSteps_desk (s : State) (x : Txn) : desk (s.closeSteps x p) = { desk s with
    held := (desk s).held.filter fun y => y.1 ≠ x.number, gone := (desk s).gone ++ x.ticket.toList } := by
  unfold State.closeSteps
  dsimp only
  rw [noteStation_desk, removeTxn_desk]
  have hadd (v : State) (e : ClosedEntry) : desk (v.addClosed e) = desk v := rfl
  have hsell (ls : List Line) (v : State) : desk (ls.foldl (fun s l => s.sellStock l.plu l.quantity) v) = desk v :=
    foldl_keeps (g := desk) (fun s l => sellStock_desk s l.plu l.quantity) ls v
  rw [hadd, reportOutcome_desk, hsell, clerkWatches_desk, mapTotals_desk _ rfl]

theorem closeTransaction_keepsOrder (clerk : Nat) (label : Bool) :
    KeepsOrder s (execCloseTransaction p t clerk label s) := by
  refine keepsOrder_takeRequest fun r u => ?_
  split
  · exact orderly_refuse r _
  · next x htests =>
    simp only [State.closeTests, bind_eq_ok, require_eq_ok, orRefuse_eq_ok, pure_eq_ok, Except.ok.injEq] at htests
    obtain ⟨c, -, x', hx, -, -, -, -, rfl⟩ := htests
    split
    · exact orderly_refuse r _
    · next v status hlabel =>
      obtain ⟨outlets, rfl⟩ := closeLabel_eq hlabel
      have hd : desk (({ u with outlets := outlets }.closeSteps x' p).ok r
          (.closed x'.number x'.subtotal x'.itemCount status)) = _ := (ok_desk _ r _).trans (closeSteps_desk p _ x')
      exact orderly_leave (openOf_found hx) (fun _ => hd) ⟨_, hd⟩

end Requests

/-! ### Lines taken and lines voided without the table's rules -/

/-- Only the transactions held may differ. -/
def OnlyHeld (s t : State) : Prop := ∃ held, desk t = { desk s with held := held }

section OnlyHeld
variable {s t u : State}

theorem onlyHeld_of_desk (h : desk t = desk s) : OnlyHeld s t := ⟨(desk s).held, h⟩

theorem OnlyHeld.trans (h : OnlyHeld s t) (h' : OnlyHeld t u) : OnlyHeld s u := by
  obtain ⟨held, h⟩ := h
  obtain ⟨held', h'⟩ := h'
  exact ⟨held', by rw [h', h]⟩

theorem onlyHeld_setTxn (s : State) (x : Txn) : OnlyHeld s (s.setTxn x) := ⟨_, setTxn_desk s x⟩

theorem onlyHeld_mapTxn (s : State) (n : Nat) (f : Txn → Txn) : OnlyHeld s (s.mapTxn n f) := by
  unfold State.mapTxn
  split
  · exact onlyHeld_of_desk rfl
  · exact onlyHeld_setTxn s _

theorem onlyHeld_labelLine (s : State) (r : Requester) (n : Nat) (l : Line) (f : PluFields) (item : PricedItem) (c : ClerkNo)
    (choice : LabelChoice) : OnlyHeld s (s.labelLine r n l f item c choice).1 := by
  unfold State.labelLine
  split
  · split
    · exact onlyHeld_of_desk rfl
    · next u o id h =>
      have hu : desk u = desk s := by
        rw [routeLabel_eq] at h
        obtain ⟨o, -, hr⟩ := Option.bind_eq_some_iff.1 h
        obtain ⟨y, -, hr⟩ := Option.map_eq_some_iff.1 hr
        rw [← (Prod.mk.inj hr).1]
        rfl
      exact (onlyHeld_of_desk hu).trans (onlyHeld_mapTxn u n _)
  · exact onlyHeld_of_desk rfl

theorem lineInHand_desk (s : State) (c : ClerkNo) (x : Txn) (p : Port) (l : Line) (outlets : PerOutlet Outlet) :
    desk (lineInHand s c x p l outlets) = desk (s.setTxn (withLine x l p (heldAtLine s x l))) := by
  have hgone : (if x.lines = [] then (x.ticket.map fun k => (k, TicketReport.bound .firstLine)).toList else []).filterMap
      goneTicket = [] := by
    split
    · cases x.ticket <;> rfl
    · rfl
  rw [lineInHand, desk_mk, deskOf]
  dsimp only
  rw [List.filterMap_append, hgone, List.append_nil]
  rfl

theorem onlyHeld_takeLine (s : State) (r : Requester) (c : ClerkNo) (target : Option Nat) (plu : Nat) (f : PluFields)
    (item : PricedItem) (capture : Option (Platter × Nat)) (choice : LabelChoice) :
    OnlyHeld s (s.takeLine r c target plu f item capture choice) := by
  have hopened : OnlyHeld s (openedFor s c target r.port) := by
    unfold openedFor
    split
    · exact onlyHeld_of_desk rfl
    · exact ⟨_, openTxn_desk s c none r.port⟩
  cases hx : (openedFor s c target r.port).openOf c with
  | none =>
    have hnone : s.takeLine r c target plu f item capture choice = openedFor s c target r.port := by
      unfold State.takeLine
      dsimp only
      rw [← openedFor, hx]
    exact hnone ▸ hopened
  | some x =>
    rw [takeLine_of_openOf plu f item capture choice hx]
    dsimp only
    rw [unlabelledLine_eq]
    exact ((hopened.trans ⟨_, (lineInHand_desk ..).trans (setTxn_desk ..)⟩).trans (onlyHeld_labelLine ..)).trans
      (onlyHeld_of_desk (ok_desk ..))

end OnlyHeld

/-- With the table's rules a line taken changes no number and no ticket; an opening adds a transaction without a ticket. -/
theorem takeLine_bound {s : State} {r : Requester} {c : ClerkNo} (plu : Nat) (f : PluFields) (item : PricedItem)
    (capture : Option (Platter × Nat)) (choice : LabelChoice) (h : TableRules s) (hb : (desk s).BoundLaw) :
    (desk (s.takeLine r c (s.clerk c).openTxn plu f item capture choice)).BoundLaw := by
  have hu := (openedFor_rules (c := c) (p := r.port) h).1
  have hopen : (openedFor s c (s.clerk c).openTxn r.port).openOf c = some (joinedTxn s c r.port) := openedFor_openOf h
  have hfind := openOf_found hopen
  obtain ⟨label, status, outlets, -, htake⟩ := takeLine_eq plu f item capture choice hopen (hu.lawful _ _ hfind)
  rw [htake, ok_desk, lineInHand_desk, setTxn_desk_of_found (y := withLine ..) hu.ascending hfind rfl]
  unfold openedFor
  split
  · exact hb
  · rw [openTxn_desk]
    exact hb.openUnbound (openTxn_held_perm h c none r.port)

theorem takeLine_orderly {s : State} {r : Requester} {c : ClerkNo} {target : Option Nat} (plu : Nat) (f : PluFields)
    (item : PricedItem) (reserved : PluRecord) (capture : Option (Platter × Nat)) (choice : LabelChoice)
    (hopen : s.dayOpen = true) (htarget : (s.clerk c).openTxn = target) :
    Orderly s ((s.reserve reserved item.quantity).takeLine r c target plu f item capture choice) := by
  have hreserve : desk (s.reserve reserved item.quantity) = desk s := reserve_desk s reserved item.quantity
  obtain ⟨held, hheld⟩ := onlyHeld_takeLine (s.reserve reserved item.quantity) r c target plu f item capture choice
  rw [hreserve] at hheld
  refine orderly_held hheld (fun _ => hopen) fun hr hb _ => ?_
  have hclerk : ((s.reserve reserved item.quantity).clerk c).openTxn = target := by
    rw [← htarget]; simp only [State.clerk, reserve_txn]
  have hbound := takeLine_bound (r := r) (c := c) plu f item capture choice
    (tableRules_of_txn (reserve_txn s reserved item.quantity) hr) (hreserve ▸ hb)
  rw [hclerk] at hbound
  exact hheld ▸ hbound

theorem captureTaken_keepsOrder (s : State) (w : Platter) : KeepsOrder s (execCaptureTaken w s) := by
  unfold execCaptureTaken
  split
  · exact keepsOrder_done (orderly_of_desk rfl)
  · next m rest h =>
    dsimp only
    split
    · exact keepsOrder_done (orderly_of_desk rfl)
    · next e others he =>
      split
      · exact keepsOrder_done (orderly_of_desk (refuse_desk ..))
      · next read item reserved htests =>
        have hopen : s.dayOpen = true := by
          simp only [State.captureTests, bind_eq_ok, require_eq_ok, Bool.and_eq_true] at htests
          obtain ⟨-, ⟨hopen, -⟩, -⟩ := htests
          exact hopen
        refine keepsOrder_done (Orderly.after (takeLine_orderly e.plu read.fields item reserved (some (w, m.number)) e.label
          hopen (captureTests_ok htests).1) rfl fun hs => ?_)
        exact tableRules_of_txn (s := { s with txn := { s.txn with inFlight := others } }) rfl
          (hs.setFlights (pairwise_of_takeFirst he hs.flights))

theorem addCountItem_keepsOrder (s : State) (p : Port) (t : Tag) (plu quantity clerk : Nat) (label : LabelChoice) :
    KeepsOrder s (execAddCountItem p t plu quantity clerk label s) := by
  refine keepsOrder_takeRequest fun r u => ?_
  split
  · exact orderly_refuse r _
  · next c read item reserved htests =>
    have hopen : u.dayOpen = true := by
      simp only [State.countTests, bind_eq_ok, require_eq_ok] at htests
      obtain ⟨-, hopen, -⟩ := htests
      exact hopen
    exact takeLine_orderly plu read.fields item reserved none label hopen rfl

end Sys2Proof.Machine.Tickets
end

section
/-! PROOF. Transactions voided, and the close of the day (O9). -/

namespace Sys2Proof.Machine.Tickets

open PlatterOps Books Ordered

/-! ### Voids -/

/-- Only the transactions held may differ, and none of them has a new number. -/
def NoNewNumber (s t : State) : Prop :=
  ∃ held, desk t = { desk s with held := held } ∧ held.map (·.1) ⊆ (desk s).held.map (·.1)

section Voids
variable {s t u : State}

theorem noNewNumber_of_desk (h : desk t = desk s) : NoNewNumber s t := ⟨(desk s).held, h, List.Subset.refl _⟩

theorem NoNewNumber.trans (h : NoNewNumber s t) (h' : NoNewNumber t u) : NoNewNumber s u := by
  obtain ⟨held, h, hsub⟩ := h
  obtain ⟨held', h', hsub'⟩ := h'
  rw [h] at h' hsub'
  exact ⟨held', h', fun n hn => hsub (hsub' hn)⟩

theorem mem_of_mem_putTxn {x y : Txn} {l : List Txn} (h : y ∈ putTxn x l) : y = x ∨ y ∈ l := by
  induction l with
  | nil => exact .inl (List.mem_singleton.1 h)
  | cons z l ih =>
    unfold putTxn at h
    split_ifs at h
    · exact List.mem_cons.1 h
    · exact (List.mem_cons.1 h).imp_right (List.mem_cons_of_mem z)
    · rcases List.mem_cons.1 h with rfl | h
      · exact .inr List.mem_cons_self
      · exact (ih h).imp_right (List.mem_cons_of_mem z)

theorem noNewNumber_mapTxn {f : Txn → Txn} (hf : ∀ x, (f x).number = x.number) (s : State) (n : Nat) :
    NoNewNumber s (s.mapTxn n f) := by
  unfold State.mapTxn
  split
  · exact noNewNumber_of_desk rfl
  · next x hx =>
    refine ⟨_, setTxn_desk s (f x), fun m hm => ?_⟩
    obtain ⟨_, hb, rfl⟩ := List.mem_map.1 hm
    obtain ⟨y, hy, rfl⟩ := List.mem_map.1 hb
    rcases mem_of_mem_putTxn hy with rfl | hy
    · exact List.mem_map.2 ⟨_, found_bond hx, (hf x).symm⟩
    · exact List.mem_map_of_mem (List.mem_map_of_mem hy)

theorem noNewNumber_voidAll (s : State) (x : Txn) : NoNewNumber s (s.voidAll x) := by
  unfold State.voidAll
  induction unvoided x.lines generalizing s with
  | nil => exact noNewNumber_of_desk rfl
  | cons l ls ih =>
    refine NoNewNumber.trans ?_ (ih _)
    refine (noNewNumber_mapTxn (f := fun y => y.voidLine l) (fun _ => rfl) s x.number).trans (noNewNumber_of_desk ?_)
    dsimp only [State.voidOne]
    rw [cancelLabel_desk, returnStock_desk]

theorem noteNamed_desk (s : State) (name : TxnName) (c : ClerkNo) (p : Port) : desk (s.noteNamed name c p) = desk s := by
  cases name <;> rfl

theorem voidTests_found {name : TxnName} {x : Txn} (h : s.voidTests name = .ok x) : s.findTxn x.number = some x := by
  cases name with
  | byClerk n =>
    simp only [State.voidTests, bind_eq_ok, orRefuse_eq_ok] at h
    obtain ⟨c, -, hx⟩ := h
    exact openOf_found hx
  | byNumber n =>
    simp only [State.voidTests, bind_eq_ok, orRefuse_eq_ok] at h
    obtain ⟨-, -, hx⟩ := h
    exact (findTxn_number hx).symm ▸ hx

theorem voidTransaction_keepsOrder (s : State) (p : Port) (t : Tag) (name : TxnName) :
    KeepsOrder s (execVoidTransaction p t name s) := by
  refine keepsOrder_takeRequest fun r u => ?_
  split
  · exact orderly_refuse r _
  · next x htests =>
    let v := ((u.voidAll x).mapTotals fun y => y.postVoid x.clerk x.subtotal).reportTicket x.ticket (.outcome .noSale)
    have hv : desk v = { desk (u.voidAll x) with gone := (desk (u.voidAll x)).gone ++ x.ticket.toList } := by
      dsimp only [v]
      rw [reportOutcome_desk, mapTotals_desk _ rfl]
    have hd : desk (((v.removeTxn x).noteNamed name x.clerk p).ok r (.voided x.number x.subtotal)) =
        { desk v with held := (desk v).held.filter fun y => y.1 ≠ x.number } := by
      rw [ok_desk, noteNamed_desk, removeTxn_desk]
    refine orderly_leave (voidTests_found htests) (fun hr => ?_) ?_
    · rw [voidAll_desk hr.ascending] at hv
      rw [hv] at hd
      exact hd
    · obtain ⟨held, hheld, -⟩ := noNewNumber_voidAll u x
      rw [hheld] at hv
      rw [hv] at hd
      exact ⟨_, hd⟩

/-! ### The forced end of held transactions (R173) -/

/-- What the forced end of transactions leaves of the desk: fewer CALLED tickets, and fewer numbers held. -/
structure Thinned (d e : Desk) (numbers : List Nat) : Prop where
  frame : ∃ called held, called.Sublist d.called ∧ e = { d with called := called, held := held }
  held : ∀ n ∈ e.held.map (·.1), n ∈ d.held.map (·.1) ∧ n ∉ numbers

theorem Thinned.trans {d e f : Desk} {ns ms : List Nat} (h : Thinned d e ns) (h' : Thinned e f ms) :
    Thinned d f (ns ++ ms) := by
  obtain ⟨⟨called, held, hsub, he⟩, hn⟩ := h
  obtain ⟨⟨called', held', hsub', hf⟩, hm⟩ := h'
  refine ⟨⟨called', held', ?_, by rw [hf, he]⟩, fun n h => ?_⟩
  · rw [he] at hsub'
    exact hsub'.trans hsub
  · obtain ⟨hin, hout⟩ := hm n h
    obtain ⟨hin, hout'⟩ := hn n hin
    exact ⟨hin, by simp [hout, hout']⟩

/-- A forced void's ticket leaves before its transaction does. -/
theorem forceVoid_eq {n : Nat} {x : Txn} (hx : s.findTxn n = some x) : s.forceVoid n =
    (x.ticket.elim id (fun k v => v.endTicket k .abandoned)
      ((s.voidAll x).mapTotals fun t => t.postForcedVoid x.clerk x.subtotal)).removeTxn x := by
  unfold State.forceVoid
  rw [hx]
  dsimp only
  cases x.ticket <;> rfl

theorem forceVoid_desk {n : Nat} {x : Txn} (hx : s.findTxn n = some x) : desk (s.forceVoid n) =
    { x.ticket.elim id (fun k d => d.dropCalled k) (desk (s.voidAll x)) with
      held := (desk (s.voidAll x)).held.filter fun y => y.1 ≠ n } := by
  rw [forceVoid_eq hx, removeTxn_desk, findTxn_number hx]
  cases x.ticket with
  | none => rw [Option.elim_none, id, mapTotals_desk _ rfl]; rfl
  | some k => rw [Option.elim_some, endTicket_desk, mapTotals_desk _ rfl]; rfl

theorem forceVoid_thinned (s : State) (n : Nat) : Thinned (desk s) (desk (s.forceVoid n)) [n] := by
  cases hx : s.findTxn n with
  | none =>
    have hsame : s.forceVoid n = s := by unfold State.forceVoid; rw [hx]
    rw [hsame]
    refine ⟨⟨_, _, .refl _, rfl⟩, fun m hm => ⟨hm, ?_⟩⟩
    rintro (_ | ⟨_, ⟨⟩⟩)
    obtain ⟨_, hb, rfl⟩ := List.mem_map.1 hm
    obtain ⟨y, hy, rfl⟩ := List.mem_map.1 hb
    simpa [txnBond] using List.find?_eq_none.1 hx y hy
  | some x =>
    obtain ⟨held, hheld, hsub⟩ := noNewNumber_voidAll s x
    rw [forceVoid_desk hx, hheld]
    refine ⟨?_, fun m hm => ?_⟩
    · cases x.ticket with
      | none => exact ⟨_, _, .refl _, rfl⟩
      | some k => exact ⟨_, _, List.filter_sublist, rfl⟩
    · obtain ⟨y, hy, rfl⟩ := List.mem_map.1 hm
      obtain ⟨hy, hne⟩ := List.mem_filter.1 hy
      exact ⟨hsub (List.mem_map_of_mem hy), by simpa using hne⟩

/-- A forced void takes a transaction away with its ticket. -/
theorem forceVoid_bound {n : Nat} (h : TableRules s) (hb : (desk s).BoundLaw) : (desk (s.forceVoid n)).BoundLaw := by
  cases hx : s.findTxn n with
  | none =>
    have hsame : s.forceVoid n = s := by unfold State.forceVoid; rw [hx]
    rwa [hsame]
  | some x =>
    have hmem := found_bond hx
    rw [forceVoid_desk hx, voidAll_desk h.ascending, ← findTxn_number hx]
    cases hk : x.ticket with
    | none => simpa [hk] using hb.leave (nodup_numbers h.ascending) hmem
    | some k => exact hb.takeAway (nodup_numbers h.ascending) (hk ▸ hmem)

theorem forceVoids_thinned (ns : List Nat) (s : State) : Thinned (desk s) (desk (ns.foldl State.forceVoid s)) ns := by
  induction ns generalizing s with
  | nil => exact ⟨⟨_, _, .refl _, rfl⟩, fun n hn => ⟨hn, List.not_mem_nil⟩⟩
  | cons n ns ih => exact (forceVoid_thinned s n).trans (ih _)

theorem forceVoids_bound (ns : List Nat) {s : State} (h : TableRules s) (hb : (desk s).BoundLaw) :
    (desk (ns.foldl State.forceVoid s)).BoundLaw := by
  induction ns generalizing s with
  | nil => exact hb
  | cons n ns ih => exact ih (forceVoid_follows h n).rules (forceVoid_bound h hb)

/-- After the forced end no transaction is held. -/
theorem forceVoidAll_desk (s : State) : ∃ called, called.Sublist (desk s).called ∧
    desk s.forceVoidAll = { desk s with called := called, held := [] } := by
  obtain ⟨⟨called, held, hsub, he⟩, hnumbers⟩ := forceVoids_thinned (s.txn.held.map (·.number)) s
  have hnone : held = [] := by
    refine List.eq_nil_iff_forall_not_mem.2 fun x hx => ?_
    obtain ⟨hin, hout⟩ := hnumbers x.1 (he ▸ List.mem_map_of_mem hx)
    have hmap : (desk s).held.map (·.1) = s.txn.held.map (·.number) := by simp [desk, txnBond]
    exact hout (hmap ▸ hin)
  exact ⟨called, hsub, hnone ▸ he⟩

/-! ### CLOSE DAY -/

theorem settleTickets_rules (h : TableRules s) : TableRules s.settleTickets :=
  tableRules_of_books (settleTickets_books s) h

/-- Every report heard, the CALLED tickets left are those of held transactions. -/
theorem settleTickets_bound (h : (desk s).BoundLaw) : (desk s.settleTickets).BoundLaw := by
  rw [settleTickets_desk]
  exact h.hear (by rw [List.append_nil])

theorem clearCounter_desk (s : State) (mode : CloseMode) (h : mode = .force ∨ s.txn.held = []) :
    ∃ called, called.Sublist (desk s).called ∧ (TableRules s → (desk s).BoundLaw → called = []) ∧
      desk (s.clearCounter mode) =
        { desk s with waiting := ⟨[], [], [], []⟩, missed := [], called := called, held := [], gone := [] } := by
  have hsub : (desk s.settleTickets).called.Sublist (desk s).called := by
    rw [settleTickets_desk]; exact List.filter_sublist
  have hgone : (desk s.settleTickets).gone = [] := by rw [settleTickets_desk]
  cases mode with
  | force =>
    obtain ⟨called, hcalled, hd⟩ := forceVoidAll_desk s.settleTickets
    refine ⟨called, hcalled.trans hsub, fun hr hb => ?_, ?_⟩
    · have hbound : (desk s.settleTickets.forceVoidAll).BoundLaw :=
        forceVoids_bound _ (settleTickets_rules hr) (settleTickets_bound hb)
      rw [hd] at hbound
      exact hbound.called_nil rfl hgone
    · unfold State.clearCounter
      dsimp only
      rw [endDay_desk, hd, settleTickets_desk]
  | normal =>
    have hheld : s.txn.held = [] := h.resolve_left nofun
    have hnone : (desk s).held = [] := by simp [desk, hheld]
    have hsettled : (desk s.settleTickets).held = [] := by rw [settleTickets_desk]; exact hnone
    refine ⟨_, hsub, fun hr hb => (settleTickets_bound hb).called_nil hsettled hgone, ?_⟩
    unfold State.clearCounter
    dsimp only
    rw [endDay_desk, settleTickets_desk, ← hnone]

theorem sealDay_desk (s : State) (mode : CloseMode) (d : OpenDay) :
    desk (s.sealDay mode d) = { desk s with dayOpen := false } := by
  unfold State.sealDay
  dsimp only
  rw [notifyAll_desk]
  rfl

/-- A desk that holds CALLED tickets alone keeps the law of the tickets. -/
theorem ticketLaw_of_cleared {d : Desk} (hwaiting : ∀ k, d.waiting.get k = []) (hcalls : d.calls = []) (hmissed : d.missed = [])
    (hcalled : (d.called.map (·.1)).Nodup) (hrecent : d.recent.length ≤ Config.recentPlaces ∧ d.recent.Nodup) :
    d.TicketLaw := by
  have hqueued : d.queued = [] := by
    simp only [Desk.queued, hcalls, allWaiting]
    have ha := hwaiting .a
    have hb := hwaiting .b
    have hc := hwaiting .c
    have hd := hwaiting .d
    simp only [PerClass.get] at ha hb hc hd
    simp [ha, hb, hc, hd]
  refine ⟨?_, fun k x hx => ?_, fun k => ?_, by simp [hqueued], fun x hx => ?_, by simp [hmissed], hrecent⟩
  · simpa [Desk.inHand, hqueued, hmissed] using hcalled
  · simp [hwaiting] at hx
  · simp [hwaiting]
  · simp [hqueued] at hx

theorem Desk.TicketLaw.called_nodup {d : Desk} (h : d.TicketLaw) : (d.called.map (·.1)).Nodup := by
  have honce := h.once
  rw [Desk.inHand] at honce
  exact (List.nodup_append.1 (List.nodup_append.1 honce).1).2.1

theorem closeDay_orderly {r : Requester} {mode : CloseMode} {d : OpenDay} {payload : Payload}
    (hunits : (desk u).calls = [] ∧ (desk u).discards = []) (htests : u.closeDayTests mode = .ok d) :
    Orderly u (((u.clearCounter mode).sealDay mode d).ok r payload) := by
  obtain ⟨hcalls, hdiscards⟩ := hunits
  have hmode : mode = .force ∨ u.txn.held = [] := by
    simp only [State.closeDayTests, bind_eq_ok, require_eq_ok, Bool.or_eq_true, decide_eq_true_eq, List.isEmpty_iff] at htests
    obtain ⟨-, -, -, hmode, -⟩ := htests
    exact hmode
  obtain ⟨called, hsub, hnone, hd⟩ := clearCounter_desk u mode hmode
  have hend : desk (((u.clearCounter mode).sealDay mode d).ok r payload) = { desk u with
      dayOpen := false, waiting := ⟨[], [], [], []⟩, missed := [], called := called, held := [], gone := [] } := by
    rw [ok_desk, sealDay_desk, hd]
  have hwaiting (k : TicketClass) : (PerClass.mk [] [] [] [] : PerClass (List Ticket)).get k = [] := by cases k <;> rfl
  refine ⟨fun _ => ?_, fun _ h => ?_, fun hr _ _ h => ?_⟩ <;> rw [hend]
  · exact fun _ => ⟨rfl, hcalls, rfl, hwaiting⟩
  · exact ticketLaw_of_cleared hwaiting hcalls rfl (h.called_nodup.sublist (hsub.map _)) h.recent
  · obtain rfl := hnone hr h
    exact ⟨nofun, nofun, .nil, ⟨.nil, nofun⟩, fun _ => ⟨rfl, hdiscards⟩⟩

theorem closeDay_keepsOrder (s : State) (p : Port) (t : Tag) (mode : CloseMode) :
    KeepsOrder s (execCloseDay p t mode s) := by
  unfold execCloseDay
  split_ifs with hunits
  · have hnone : (desk s).calls = [] ∧ (desk s).discards = [] := by
      simpa [State.unitsEnded, desk] using hunits
    refine keepsOrder_takeRequest_of (fun u => (desk u).calls = [] ∧ (desk u).discards = []) hnone hnone fun r u hu => ?_
    split
    · exact orderly_refuse r _
    · next d htests => exact closeDay_orderly hu htests
  · exact keepsOrder_next (orderly_of_desk rfl)

end Voids

end Sys2Proof.Machine.Tickets
end

section
/-! PROOF. The commands of the ticket queue and the starts; every step keeps the three laws (O9). -/

namespace Sys2Proof.Machine.Tickets

open PlatterOps Books Ordered Calls

/-! ### Ways to stay orderly -/

section Ways
variable {s t : State}

/-- A change on a day that is, and stays, OPEN. -/
theorem orderly_open (hopen : (desk s).DayLaw → (desk s).dayOpen = true) (hsame : (desk t).dayOpen = (desk s).dayOpen)
    (htickets : (desk s).TicketLaw → (desk t).TicketLaw)
    (hbound : TableRules s → (desk s).dayOpen = true → (desk s).TicketLaw → (desk s).BoundLaw → (desk t).BoundLaw) :
    Orderly s t where
  day := fun hday hclosed => absurd ((hopen hday).symm.trans (hsame.symm.trans hclosed)) nofun
  tickets := fun _ => htickets
  bound := fun hr hday hticket hb => hbound hr (hopen hday) hticket hb

/-- The law of the bound transactions sees the day, the CALLED tickets, the held transactions, the orders and the
reports. -/
theorem Desk.BoundLaw.of_same {d e : Desk} (h : d.BoundLaw) (hday : e.dayOpen = d.dayOpen) (hcalled : e.called = d.called)
    (hheld : e.held = d.held) (hgone : e.gone = d.gone) (hdiscards : e.discards.Sublist d.discards) : e.BoundLaw where
  bound := hcalled ▸ hheld ▸ hgone ▸ h.bound
  called := hcalled ▸ hheld ▸ hgone ▸ h.called
  once := hheld ▸ h.once
  gone := hcalled ▸ hgone ▸ h.gone
  closed := fun hclosed => by
    obtain ⟨hnone, hd⟩ := h.closed (hday ▸ hclosed)
    exact ⟨hcalled ▸ hnone, List.eq_nil_of_sublist_nil (hd ▸ hdiscards)⟩

/-- Discard orders leave. -/
theorem orderly_discards {discards : List DiscardOrder} (hd : desk t = { desk s with discards := discards })
    (hsub : discards.Sublist (desk s).discards) : Orderly s t where
  day := hd ▸ id
  tickets := fun _ h => by rw [hd]; exact ⟨h.once, h.own, h.order, h.apart, h.ahead, h.missed, h.recent⟩
  bound := fun _ _ _ h => by rw [hd]; exact h.of_same rfl rfl rfl rfl hsub

/-- A discard order is sent while a ticket is CALLED. -/
theorem orderly_order {m : DiscardOrder} {k : TicketId} {n : Nat}
    (hd : desk t = { desk s with discards := (desk s).discards ++ [m] }) (hcalled : (k, n) ∈ (desk s).called) :
    Orderly s t where
  day := hd ▸ id
  tickets := fun _ h => by rw [hd]; exact ⟨h.once, h.own, h.order, h.apart, h.ahead, h.missed, h.recent⟩
  bound := fun _ _ _ h => by
    rw [hd]
    refine ⟨h.bound, h.called, h.once, h.gone, fun hclosed => ?_⟩
    exact absurd ((h.closed hclosed).1 ▸ hcalled) List.not_mem_nil

/-- A call or a recall is shown (R146). -/
theorem orderly_recall {k : TicketId} (hd : desk t = (desk s).recall k) : Orderly s t where
  day := hd ▸ id
  tickets := fun _ h => hd ▸ h.recall k
  bound := fun _ _ _ h => hd ▸ h.of_same rfl rfl rfl rfl (.refl _)

/-- On a CLOSED day no call is in progress. -/
theorem dayOpen_of_calls {x : Ticket} {calls : List Ticket} (h : (desk s).calls.Perm (x :: calls)) (hday : (desk s).DayLaw) :
    (desk s).dayOpen = true := by
  by_contra hclosed
  have hcalls := (hday (by simpa using hclosed)).2.1
  rw [hcalls] at h
  cases h.symm.eq_nil

theorem dayOpen_of_missed {x : Ticket} {missed : List Ticket} (h : (desk s).missed.Perm (x :: missed))
    (hday : (desk s).DayLaw) : (desk s).dayOpen = true := by
  by_contra hclosed
  have hmissed := (hday (by simpa using hclosed)).2.2.1
  rw [hmissed] at h
  cases h.symm.eq_nil

end Ways

/-! ### Issues (R133, R134) -/

section Issues
variable (s : State) (p : Port) (t : Tag)

/-- The number a ticket takes is held by none of its class. -/
theorem freeNumber_free {q : TicketQueue} {k : TicketClass} {tries n m : Nat} (h : q.freeNumber k tries n = some m) :
    q.holds ⟨k, m⟩ = false := by
  induction tries generalizing n with
  | zero => cases h
  | succ tries ih =>
    unfold TicketQueue.freeNumber at h
    split at h
    · exact ih h
    · next hfree => cases h; simpa using hfree

theorem notMem_inHand {k : TicketId} (h : s.queue.holds k = false) (hlaw : (desk s).TicketLaw) : k ∉ (desk s).inHand := by
  simp only [TicketQueue.holds, Bool.or_eq_false_iff, List.any_eq_false, decide_eq_true_eq] at h
  obtain ⟨⟨⟨hwaiting, hcalls⟩, hcalled⟩, hmissed⟩ := h
  have hother (j : TicketClass) (x : Ticket) (hx : x ∈ (desk s).waiting.get j) : x.id ≠ k := by
    rintro rfl
    obtain rfl := hlaw.own j x hx
    rw [show (desk s).waiting = waitingLists s.queue.classes from rfl, waitingLists_get] at hx
    exact hwaiting x hx rfl
  have hlist (x : Ticket) (hx : x ∈ allWaiting (desk s).waiting) : x.id ≠ k := by
    simp only [allWaiting, List.mem_append] at hx
    rcases hx with ((hx | hx) | hx) | hx
    · exact hother .a x hx
    · exact hother .b x hx
    · exact hother .c x hx
    · exact hother .d x hx
  rw [desk_inHand, TicketQueue.inHand, ← desk_queued, Desk.queued]
  intro hk
  rcases List.mem_append.1 hk with hk | hk
  · rcases List.mem_append.1 hk with hk | hk
    · obtain ⟨x, hx, hid⟩ := List.mem_map.1 hk
      rcases List.mem_append.1 hx with hx | hx
      · exact hlist x hx hid
      · obtain ⟨y, hy, rfl⟩ := List.mem_map.1 hx
        exact hcalls y hy hid
    · obtain ⟨x, hx, hid⟩ := List.mem_map.1 hk
      exact hcalled x hx hid
  · obtain ⟨x, hx, hid⟩ := List.mem_map.1 hk
    exact hmissed x hx hid

theorem issueTests_ok {s : State} {k : TicketClass} {n : Nat} (h : s.issueTests k = .ok n) :
    (desk s).dayOpen = true ∧ s.queue.holds ⟨k, n⟩ = false := by
  simp only [State.issueTests, bind_eq_ok, require_eq_ok, orRefuse_eq_ok, pure_eq_ok, Except.ok.injEq] at h
  obtain ⟨-, hopen, -, -, m, hm, -, -, rfl⟩ := h
  exact ⟨hopen, freeNumber_free hm⟩

/-- A free number issued, in a state that differs from the tested one by its outlets and lines at most. -/
theorem issue_orderly {s u : State} {k : TicketClass} {n : Nat} (h : s.issueTests k = .ok n) (hd : desk u = desk s) :
    Orderly s (u.issue k n) := by
  obtain ⟨hopen, hfree⟩ := issueTests_ok h
  have hissue : desk (u.issue k n) = _ := issue_desk u k n
  rw [hd] at hissue
  have hseq : u.queue.issueCounter = (desk s).issueCounter := congrArg Desk.issueCounter hd
  refine orderly_open (fun _ => hopen) (by rw [hissue]; rfl) (fun hlaw => ?_) fun _ _ _ hb => ?_
  · rw [hissue]
    exact hlaw.issue hseq rfl (notMem_inHand s hfree hlaw)
  · rw [hissue]
    exact hb.of_same rfl rfl rfl rfl (.refl _)

theorem issueTicket_keepsOrder (cls : TicketClass) : KeepsOrder s (execIssueTicket p t cls s) := by
  refine keepsOrder_takeRequest fun r u => ?_
  split
  · exact orderly_refuse r _
  · next n htests => exact (issue_orderly htests rfl).congr (ok_desk ..)

theorem dispenserIssue_orderly (k : TicketClass) : Orderly s (s.dispenserIssue k) := by
  unfold State.dispenserIssue
  split
  · exact orderly_of_desk (mapTotals_desk _ rfl)
  · next n htests =>
    split
    · exact orderly_of_desk (mapTotals_desk _ rfl)
    · next hoffer => exact issue_orderly htests (offerInOrder_desk hoffer)

theorem dispenserLineChange_keepsOrder (d : DispenserLine) (high : Bool) :
    KeepsOrder s (execDispenserLineChange d high s) := by
  unfold execDispenserLineChange
  dsimp only
  split
  · exact keepsOrder_done (orderly_of_desk rfl)
  · split
    · exact keepsOrder_done (orderly_of_desk rfl)
    · split
      · exact keepsOrder_done ((dispenserIssue_orderly _ _).after rfl (tableRules_of_txn rfl))
      · exact keepsOrder_done (orderly_of_desk rfl)

end Issues

/-! ### Calls (R139 to R141) -/

section CallSteps
variable (s : State) (p : Port) (t : Tag)

theorem leastBy_mem {α : Type} {value : α → Nat} {l : List α} {x : α} (h : leastBy value l = some x) : x ∈ l := by
  induction l generalizing x with
  | nil => cases h
  | cons y l ih =>
    unfold leastBy at h
    split at h
    · cases h; exact List.mem_cons_self
    · next z hz =>
      split_ifs at h <;> cases h
      · exact List.mem_cons_self
      · exact List.mem_cons_of_mem y (ih hz)

/-- The ticket chosen waits in a list. -/
theorem choose_waits {s : State} {x : Ticket} (h : s.choose p = some x) : ∃ k, x ∈ (desk s).waiting.get k := by
  have hhead : ∃ c, (c, x) ∈ s.heads p := by
    unfold State.choose at h
    dsimp only at h
    split at h
    · next y hy => cases h; exact ⟨y.1, List.mem_of_mem_filter (leastBy_mem hy)⟩
    · obtain ⟨y, hy, rfl⟩ := Option.map_eq_some_iff.1 h
      exact ⟨y.1, leastBy_mem hy⟩
  obtain ⟨c, hc⟩ := hhead
  obtain ⟨k, -, hk⟩ := List.mem_filterMap.1 hc
  obtain ⟨y, hy, he⟩ := Option.map_eq_some_iff.1 hk
  obtain rfl := (Prod.mk.inj he).2
  refine ⟨k, ?_⟩
  rw [show (desk s).waiting = waitingLists s.queue.classes from rfl, waitingLists_get]
  exact List.mem_of_mem_head? hy

theorem callNext_keepsOrder (clerk : Nat) : KeepsOrder s (execCallNext p t clerk s) := by
  refine keepsOrder_takeRequest fun r u => ?_
  split
  · exact orderly_refuse r _
  · next c x htests =>
    simp only [State.callTests, bind_eq_ok, require_eq_ok, orRefuse_eq_ok, pure_eq_ok, Except.ok.injEq,
      Prod.mk.injEq] at htests
    obtain ⟨c', -, -, hopen, -, -, y, hy, -, rfl⟩ := htests
    obtain ⟨k, hk⟩ := choose_waits p hy
    have hd : desk ((u.delist y.id).mapQueue fun q => { q with calls := q.calls ++ [⟨y, c, p, r⟩] }) =
        { (desk u).delist y.id with calls := (desk u).calls ++ [y] } := by
      rw [← delist_desk, State.mapQueue, desk_mk, deskOf]
      dsimp only
      rw [List.map_append]
      rfl
    refine orderly_open (fun _ => hopen) (by rw [hd]; rfl) (fun hlaw => ?_) fun _ _ _ hb => ?_
    · rw [hd]
      obtain rfl := hlaw.own k y hk
      exact hlaw.delist hk
    · rw [hd]
      exact hb.of_same rfl rfl rfl rfl (.refl _)

/-- A call in progress taken off the list: its ticket goes back to its place. -/
theorem enlistCall_orderly {s u : State} {x : Call} {rest : List Call} {test : Call → Bool}
    (h : takeFirst test s.queue.calls = some (x, rest))
    (hd : desk u = ({ desk s with calls := rest.map Call.ticket } : Desk).enlist x.ticket) : Orderly s u := by
  have hp : (desk s).calls.Perm (x.ticket :: rest.map (·.ticket)) := (takeFirst_perm h).map Call.ticket
  refine orderly_open (dayOpen_of_calls hp) (by rw [hd]; rfl) (fun hlaw => ?_) fun _ _ _ hb => ?_
  · rw [hd]
    exact (hlaw.calls_perm hp).enlist
  · rw [hd]
    exact hb.of_same rfl rfl rfl rfl (.refl _)

/-- A call confirmed: the opened transaction is bound to the ticket. -/
theorem openCall_orderly {s u : State} {x : Call} {rest : List Call} {test : Call → Bool}
    (h : takeFirst test s.queue.calls = some (x, rest))
    (hd : desk u = { (desk s).recall x.ticket.id with
      calls := rest.map (·.ticket)
      called := (desk s).called ++ [(x.ticket.id, s.txn.takesNumber)]
      held := (desk (s.openTxn x.clerk (some x.ticket.id) x.port)).held }) : Orderly s u := by
  have hp : (desk s).calls.Perm (x.ticket :: rest.map (·.ticket)) := (takeFirst_perm h).map Call.ticket
  refine orderly_open (dayOpen_of_calls hp) (by rw [hd]; rfl) (fun hlaw => ?_) fun hr hopen hlaw hb => ?_
  · rw [hd]
    have hconfirmed := (hlaw.calls_perm hp).confirm (n := s.txn.takesNumber) (hlaw.recallRoom x.ticket.id)
    exact ⟨hconfirmed.once, hconfirmed.own, hconfirmed.order, hconfirmed.apart, hconfirmed.ahead, hconfirmed.missed,
      hconfirmed.recent⟩
  · have hnew : x.ticket.id ∉ (desk s).called.map (·.1) := fun hmem => by
      have honce := (hlaw.calls_perm hp).once
      rw [Desk.inHand, Desk.queued] at honce
      refine (List.nodup_append.1 (List.nodup_append.1 honce).1).2.2 _ ?_ _ hmem rfl
      exact List.mem_map_of_mem (List.mem_append_right _ List.mem_cons_self)
    have hconfirmed := hb.confirm hopen hnew (openTxn_held_perm hr x.clerk (some x.ticket.id) x.port)
    rw [hd]
    exact hconfirmed.of_same rfl rfl rfl rfl (.refl _)

end CallSteps

end Sys2Proof.Machine.Tickets
end

section
/-! PROOF. The orders and reports of the ticket queue, the begin of the day, the starts and cancellations; every step keeps
the three laws (O9). -/

namespace Sys2Proof.Machine.Tickets

open PlatterOps Books Ordered Calls

/-! ### Orders and reports between the ticket queue and the transaction table (R127, R144) -/

section Orders
variable (s : State)

theorem openBound_keepsOrder (k : TicketId) : KeepsOrder s (execOpenBound k s) := by
  unfold execOpenBound
  split
  · exact keepsOrder_done (orderly_of_desk rfl)
  · next call rest h =>
    dsimp only
    split
    · refine keepsOrder_done (enlistCall_orderly h ?_)
      rw [refuse_desk, enlist_desk]
      rfl
    · have hid : call.ticket.id = k := by
        obtain ⟨_, _, _, _, htest, _⟩ := takeFirst_eq_some h
        simpa using htest
      subst hid
      refine keepsOrder_done (openCall_orderly h ?_)
      rw [ok_desk, confirmCall_desk, noteStation_desk]
      rfl

theorem discards_desk (rest : List DiscardOrder) :
    desk { s with transit := { s.transit with discards := rest } } = { desk s with discards := rest } := rfl

theorem takeFirst_sublist {α : Type} {test : α → Bool} {l rest : List α} {x : α} (h : takeFirst test l = some (x, rest)) :
    rest.Sublist l := by
  obtain ⟨before, after, rfl, rfl, -, -⟩ := takeFirst_eq_some h
  exact (List.sublist_cons_self x after).append_left before

theorem discard_found {s v : State} {n : Nat} {k : TicketId} (h : s.discard n k = .ok v) :
    ∃ x, s.findTxn n = some x ∧ x.ticket = some k ∧ v = s.removeTxn x := by
  simp only [State.discard, bind_eq_ok, require_eq_ok, orRefuse_eq_ok, pure_eq_ok, Except.ok.injEq, Bool.and_eq_true,
    decide_eq_true_eq] at h
  obtain ⟨x, hx, -, ⟨-, hticket⟩, -, -, rfl⟩ := h
  exact ⟨x, hx, hticket, rfl⟩

/-- What a discard that is done leaves of the desk: the ticket, if CALLED, is MISSED. -/
theorem afterDiscard_desk (v : State) (m : DiscardOrder) :
    (v.findCalled m.ticket = none ∧ desk (v.afterDiscard m) = desk v) ∨
      ∃ x missed, v.findCalled m.ticket = some x ∧ missed.Sublist (desk v).missed ∧
        ((desk v).missed.length ≤ Config.missedPlaces → missed.length < Config.missedPlaces) ∧
        desk (v.afterDiscard m) = { (desk v).dropCalled m.ticket with missed := missed ++ [x.ticket] } := by
  unfold State.afterDiscard
  split
  · next hnone => exact .inl ⟨hnone, replyTo_desk ..⟩
  · next x hx =>
    obtain ⟨missed, hsub, hroom, hd⟩ := missTicket_desk (v.dropCalled x.ticket.id) x.ticket
    rw [dropCalled_desk, findCalled_id hx] at hd
    refine .inr ⟨x, missed, hx, hsub, hroom, ?_⟩
    unfold State.skipTicket
    rw [findCalled_id hx, ← hd]
    dsimp only
    split <;> simp

theorem discard_orderly {s v : State} {m : DiscardOrder} {rest : List DiscardOrder}
    (hsub : rest.Sublist (desk s).discards)
    (hv : ({ s with transit := { s.transit with discards := rest } } : State).discard m.txn m.ticket = .ok v) :
    Orderly s (v.afterDiscard m) := by
  obtain ⟨y, hy, hticket, rfl⟩ := discard_found hv
  let u : State := { s with transit := { s.transit with discards := rest } }
  have hfound : s.findTxn m.txn = some y := hy
  have hnumber := findTxn_number hfound
  have hv : desk (u.removeTxn y) =
      { desk s with discards := rest, held := (desk s).held.filter fun z => z.1 ≠ y.number } := removeTxn_desk u y
  have hqueue : (u.removeTxn y).queue = s.queue := by
    rcases Classical.em ((u.clerk y.clerk).openTxn = some y.number) with h | h
    · rw [removeTxn_of_open u h]; rfl
    · rw [removeTxn_of_not_open u h]; rfl
  have hcalled : (u.removeTxn y).findCalled m.ticket = s.findCalled m.ticket := by
    simp only [State.findCalled, hqueue]
  have hmem : (y.number, some m.ticket) ∈ (desk s).held := hticket ▸ found_bond hfound
  -- The bound law, with the ticket CALLED no longer.
  have hbound (hr : TableRules s) (hb : (desk s).BoundLaw) :=
    (hb.takeAway (nodup_numbers hr.ascending) hmem).of_same (e := { (desk s).dropCalled m.ticket with
      held := (desk s).held.filter fun z => z.1 ≠ y.number, discards := rest }) rfl rfl rfl rfl hsub
  rcases afterDiscard_desk (u.removeTxn y) m with ⟨hnone, hd⟩ | ⟨x, missed, hx, hmissed, hroom, hd⟩
  · rw [hv] at hd
    rw [hcalled] at hnone
    refine orderly_open (dayOpen_of_found hfound) (by rw [hd]) (fun h => ?_) fun hr _ _ hb => ?_
    · rw [hd]
      exact ⟨h.once, h.own, h.order, h.apart, h.ahead, h.missed, h.recent⟩
    · rw [hd]
      exact (hbound hr hb).of_same rfl (congrArg Desk.called (dropCalled_of_none hnone)).symm rfl rfl (.refl _)
  · rw [hv] at hd hmissed hroom
    rw [hcalled] at hx
    have hid := findCalled_id hx
    refine orderly_open (dayOpen_of_found hfound) (by rw [hd]; rfl) (fun h => ?_) fun hr _ _ hb => ?_
    · rw [hd]
      have hm := h.miss (hid ▸ findCalled_bond hx) hmissed (hroom h.missed)
      rw [hid] at hm
      exact ⟨hm.once, hm.own, hm.order, hm.apart, hm.ahead, hm.missed, hm.recent⟩
    · rw [hd]
      exact (hbound hr hb).of_same rfl rfl rfl rfl (.refl _)

theorem discard_keepsOrder (k : TicketId) : KeepsOrder s (execDiscard k s) := by
  unfold execDiscard
  split
  · exact keepsOrder_done (orderly_of_desk rfl)
  · next m rest h =>
    dsimp only
    split
    · exact keepsOrder_done (orderly_discards ((replyTo_desk ..).trans (discards_desk s rest)) (takeFirst_sublist h))
    · next v hv => exact keepsOrder_done (discard_orderly (takeFirst_sublist h) hv)

/-- A report taken leaves the others; one of an end leaves the tickets reported gone without its own. -/
theorem takeReport_desk {s v : State} {k : TicketId} {m : TicketReport} (h : s.takeReport k = some (m, v)) :
    ∃ gone, desk v = { desk s with gone := gone } ∧ (desk s).gone.Perm ((goneTicket (k, m)).toList ++ gone) ∧
      (goneTicket (k, m) = none → gone = (desk s).gone) := by
  unfold State.takeReport at h
  split at h
  · cases h
  · next j report rest ht =>
    cases h
    obtain ⟨before, after, hall, rfl, htest, -⟩ := takeFirst_eq_some ht
    obtain rfl : j = k := by simpa using htest
    have hgone : (desk s).gone =
        before.filterMap goneTicket ++ ((goneTicket (j, m)).toList ++ after.filterMap goneTicket) := by
      rw [show (desk s).gone = s.transit.ticketReports.filterMap goneTicket from rfl, hall, List.filterMap_append,
        List.filterMap_cons]
      cases goneTicket (j, m) <;> rfl
    refine ⟨before.filterMap goneTicket ++ after.filterMap goneTicket, ?_, ?_, fun hnone => ?_⟩
    · rw [desk_mk, deskOf, List.filterMap_append]
      rfl
    · rw [hgone]
      exact List.perm_append_comm_assoc _ _ _
    · rw [hgone, hnone]
      rfl

theorem boundTxnReport_keepsOrder (k : TicketId) : KeepsOrder s (execBoundTxnReport k s) := by
  unfold execBoundTxnReport
  split
  · next report v h =>
    obtain ⟨gone, hd, -, hsame⟩ := takeReport_desk h
    exact keepsOrder_done (orderly_of_desk (by rw [hearBound_desk, hd, hsame rfl]))
  all_goals exact keepsOrder_done (orderly_of_desk rfl)

theorem ticketOutcomeReport_keepsOrder (k : TicketId) : KeepsOrder s (execTicketOutcomeReport k s) := by
  unfold execTicketOutcomeReport
  split
  · next o v h =>
    obtain ⟨gone, hv, hperm, -⟩ := takeReport_desk h
    have hd : desk (v.endTicket k o) =
        { desk s with gone := gone, called := (desk s).called.filter fun x => x.1 ∉ [k] } := by
      rw [endTicket_desk, hv]
      simp [Desk.dropCalled]
    refine keepsOrder_done ⟨fun hday => by rw [hd]; exact hday, fun _ hlaw => ?_, fun _ _ _ hb => ?_⟩
    · rw [hd]
      refine hlaw.of_hand rfl rfl rfl rfl ?_ hlaw.missed rfl
      exact ((((List.filter_sublist (l := (desk s).called)).map _).append_left _).append_right _).subperm
    · rw [hd]
      exact hb.hear hperm
  all_goals exact keepsOrder_done (orderly_of_desk rfl)

end Orders

/-! ### Called and missed tickets (R143 to R146) -/

section Called
variable (s : State) (p : Port) (t : Tag)

/-- A CALLED ticket changed and shown again. -/
theorem callAgain_orderly {u v : State} {k : TicketId} {x y : CalledTicket} (hx : u.findCalled k = some x)
    (hy : bond y = bond x) (hv : desk v = desk ((u.setCalled y).showCall k p)) : Orderly u v :=
  orderly_recall (hv.trans (by rw [showCall_desk, setCalled_desk hx hy]))

theorem boundLookup_ok {s : State} {clerk : Nat} {x : Txn} {y : CalledTicket} (h : s.boundLookup clerk = .ok (x, y)) :
    s.findCalled y.ticket.id = some y := by
  simp only [State.boundLookup, bind_eq_ok, orRefuse_eq_ok, pure_eq_ok, Except.ok.injEq, Prod.mk.injEq] at h
  obtain ⟨-, -, x', -, k, -, y', hy, -, rfl⟩ := h
  exact (findCalled_id hy).symm ▸ hy

theorem callTimerExpiry_keepsOrder (k : TicketId) : KeepsOrder s (execCallTimerExpiry k s) := by
  unfold execCallTimerExpiry
  split
  · exact keepsOrder_done (orderly_of_desk rfl)
  · next x hx =>
    split_ifs
    · exact keepsOrder_done (orderly_of_desk rfl)
    · exact keepsOrder_done (callAgain_orderly x.station hx
        (y := { x with recalls := x.recalls + 1, timer := some (s.classOf k.cls).callTimeout }) rfl (notify_desk ..))
    · refine keepsOrder_done (orderly_order (m := ⟨k, x.txn, true, none⟩) ?_ (findCalled_bond hx))
      rw [← setCalled_desk (y := { x with timer := none }) hx rfl]
      rfl

theorem recall_keepsOrder (clerk : Nat) : KeepsOrder s (execRecall p t clerk s) := by
  refine keepsOrder_takeRequest fun r u => ?_
  split
  · exact orderly_refuse r _
  · next x htests =>
    simp only [State.recallTests, bind_eq_ok, require_eq_ok, pure_eq_ok, Except.ok.injEq] at htests
    obtain ⟨⟨_, x'⟩, hx, -, -, rfl⟩ := htests
    exact callAgain_orderly p (boundLookup_ok hx) (y := { x' with
      recalls := x'.recalls + 1
      station := p
      timer := if x'.bound = .openEmpty then some (u.classOf x'.ticket.id.cls).callTimeout else x'.timer }) rfl (ok_desk ..)

theorem skip_keepsOrder (clerk : Nat) : KeepsOrder s (execSkip p t clerk s) := by
  refine keepsOrder_takeRequest fun r u => ?_
  split
  · exact orderly_refuse r _
  · next x y htests =>
    simp only [State.skipTests, bind_eq_ok, pure_eq_ok, Except.ok.injEq, Prod.mk.injEq] at htests
    obtain ⟨⟨x', y'⟩, hx, -, -, rfl, rfl⟩ := htests
    exact orderly_order (m := ⟨y'.ticket.id, x'.number, false, some r⟩) rfl (findCalled_bond (boundLookup_ok hx))

/-- A MISSED ticket back in its list, its turn of reinstatement the last (R145). -/
theorem reinstate_orderly {u v : State} {x : Ticket} {rest : List Ticket} (hp : (desk u).missed.Perm (x :: rest))
    (hd : desk v = ({ desk u with missed := rest, reinstateTurn := (desk u).reinstateTurn + 1 } : Desk).enlist
      { x with reinstated := some (desk u).reinstateTurn }) : Orderly u v := by
  refine orderly_open (dayOpen_of_missed hp) (by rw [hd]; rfl) (fun hlaw => ?_) fun _ _ _ hb => ?_
  · rw [hd]
    exact (hlaw.unmiss hp).enlist (d := { desk u with missed := rest, reinstateTurn := (desk u).reinstateTurn + 1 })
  · rw [hd]
    exact hb.of_same rfl rfl rfl rfl (.refl _)

theorem reinstate_keepsOrder (k : TicketId) : KeepsOrder s (execReinstate p t k s) := by
  refine keepsOrder_takeRequest fun r u => ?_
  split
  · exact orderly_refuse r _
  · next x rest htests =>
    simp only [State.reinstateTests, bind_eq_ok, orRefuse_eq_ok] at htests
    obtain ⟨-, -, htake⟩ := htests
    refine reinstate_orderly (takeFirst_perm htake) ?_
    dsimp only
    rw [ok_desk, queueChange_desk, queueWatches_desk, enlist_desk]
    rfl

end Called

/-! ### The begin of the day, the starts, and cancellations (R172, R192 to R194) -/

section Starts
variable (s : State) (p : Port) (t : Tag)

theorem openDay_desk (date : Date) :
    desk (s.openDay date) = { desk s with dayOpen := true, issueCounter := 1, recent := [] } := by
  unfold State.openDay
  dsimp only
  rw [notifyAll_desk]
  rfl

theorem openDay_keepsOrder (date : Date) : KeepsOrder s (execOpenDay p t date s) := by
  refine keepsOrder_takeRequest fun r u => ?_
  split
  · exact orderly_refuse r _
  · next htests =>
    simp only [State.openDayTests, bind_eq_ok, require_eq_ok, Bool.not_eq_true'] at htests
    obtain ⟨-, hclosed, -⟩ := htests
    have hclosed : (desk u).dayOpen = false := hclosed
    refine ⟨fun _ => ?_, fun hday hlaw => ?_, fun _ _ _ hb => ?_⟩ <;> rw [ok_desk, openDay_desk]
    · exact nofun
    · obtain ⟨-, hcalls, hmissed, hwaiting⟩ := hday hclosed
      exact ticketLaw_of_cleared hwaiting hcalls hmissed hlaw.called_nodup ⟨Nat.zero_le _, .nil⟩
    · exact ⟨hb.bound, hb.called, hb.once, hb.gone, nofun⟩

/-- A cold start leaves nothing in hand. -/
theorem coldStart_orderly (lv : Levels) : Orderly s (s.coldStart lv) where
  day := fun _ _ => ⟨rfl, rfl, rfl, fun k => by cases k <;> rfl⟩
  tickets := fun _ _ => ticketLaw_of_cleared (fun k => by cases k <;> rfl) rfl rfl .nil ⟨Nat.zero_le _, .nil⟩
  bound := fun _ _ _ _ => ⟨nofun, nofun, .nil, ⟨.nil, nofun⟩, fun _ => ⟨rfl, rfl⟩⟩

/-- The tickets of the calls given go back to their places. -/
def Desk.enlistAll (d : Desk) (ts : List Ticket) : Desk := ts.foldl Desk.enlist d

theorem Desk.TicketLaw.enlistAll {ts : List Ticket} {d : Desk} (h : ({ d with calls := ts } : Desk).TicketLaw) :
    (({ d with calls := [] } : Desk).enlistAll ts).TicketLaw := by
  induction ts generalizing d with
  | nil => exact h
  | cons x ts ih => exact ih (d := d.enlist x) h.enlist

theorem Desk.BoundLaw.enlistAll {ts : List Ticket} {d : Desk} (h : d.BoundLaw) : (d.enlistAll ts).BoundLaw := by
  induction ts generalizing d with
  | nil => exact h
  | cons x ts ih => exact ih (d := d.enlist x) (h.of_same rfl rfl rfl rfl (.refl _))

theorem settleUnits_desk :
    desk s.settleUnits = ({ desk s.settleTickets with calls := [] } : Desk).enlistAll (desk s).calls := by
  have hfold (cs : List Call) (v : State) :
      desk (cs.foldl (fun s x => s.enlist x.ticket) v) = (desk v).enlistAll (cs.map (·.ticket)) := by
    induction cs generalizing v with
    | nil => rfl
    | cons x cs ih =>
      refine (ih _).trans ?_
      rw [enlist_desk]
      rfl
  have hcalls : (desk s.settleTickets).calls = (desk s).calls := by rw [settleTickets_desk]
  unfold State.settleUnits
  dsimp only
  rw [hfold, ← hcalls]
  have hposted (v : State) (ms : List TotalsReport) : desk (v.mapTotals fun t => t.postReports ms) = desk v :=
    mapTotals_desk v (postReports_opened _ _)
  exact congrArg (fun d : Desk => ({ d with calls := [] } : Desk).enlistAll _) (hposted _ _)

theorem enlistAll_frame (d : Desk) (ts : List Ticket) :
    ∃ waiting, d.enlistAll ts = { d with waiting := waiting } ∧ (ts = [] → waiting = d.waiting) := by
  induction ts generalizing d with
  | nil => exact ⟨d.waiting, rfl, fun _ => rfl⟩
  | cons x ts ih =>
    obtain ⟨waiting, h, -⟩ := ih (d.enlist x)
    exact ⟨waiting, h, nofun⟩

theorem warmStart_desk (kind : StartKind) (lv : Levels) :
    desk (s.warmStart kind lv) = { desk s.settleUnits with discards := [], gone := [] } := by
  have hcalled : (s.settleUnits.queue.warm lv.dispenser).called.map bond = s.settleUnits.queue.called.map bond := by
    rw [TicketQueue.warm, List.map_map]
    rfl
  have hheld : s.settleUnits.txn.warm.held.map txnBond = s.settleUnits.txn.held.map txnBond :=
    map_txnBond_lines _ _
  unfold State.warmStart
  dsimp only
  rw [desk_mk, deskOf, hcalled, hheld, postReports_opened]
  rfl

/-- A start with the state kept settles the reports and the calls on their way. -/
theorem warmStart_orderly (kind : StartKind) (lv : Levels) : Orderly s (s.warmStart kind lv) := by
  let d : Desk := { desk s.settleTickets with calls := [] }
  have hd : desk (s.warmStart kind lv) = { d.enlistAll (desk s).calls with discards := [], gone := [] } := by
    rw [warmStart_desk, settleUnits_desk]
  have hsettled : desk s.settleTickets =
      { desk s with gone := [], called := (desk s).called.filter fun x => x.1 ∉ (desk s).gone } := settleTickets_desk s
  obtain ⟨waiting, hframe, hsame⟩ := enlistAll_frame d (desk s).calls
  refine ⟨fun hday => ?_, fun _ hlaw => ?_, fun _ _ _ hb => ?_⟩ <;> rw [hd]
  · rw [hframe]
    intro hclosed
    have hopen : d.dayOpen = (desk s).dayOpen := by simp only [d, hsettled]
    obtain ⟨hheld, hcalls, hmissed, hwaiting⟩ := hday (hopen.symm.trans hclosed)
    rw [hsame hcalls]
    simp only [d, hsettled]
    exact ⟨hheld, trivial, hmissed, hwaiting⟩
  · have hlaw' : (desk s.settleTickets).TicketLaw := by
      rw [hsettled]
      refine hlaw.of_hand rfl rfl rfl rfl ?_ hlaw.missed rfl
      exact ((((List.filter_sublist (l := (desk s).called)).map _).append_left _).append_right _).subperm
    have hcalls : (desk s.settleTickets).calls = (desk s).calls := by rw [hsettled]
    have h : (d.enlistAll (desk s).calls).TicketLaw :=
      Desk.TicketLaw.enlistAll (d := desk s.settleTickets) (by rw [← hcalls]; exact hlaw')
    exact ⟨h.once, h.own, h.order, h.apart, h.ahead, h.missed, h.recent⟩
  · have h : (d.enlistAll (desk s).calls).BoundLaw :=
      ((settleTickets_bound hb).of_same (e := d) rfl rfl rfl rfl (.refl _)).enlistAll
    have hgone : (d.enlistAll (desk s).calls).gone = [] := by
      rw [hframe]
      simp only [d, hsettled]
    exact h.of_same rfl rfl rfl hgone.symm (List.nil_sublist _)

theorem cancelAtTickets_orderly (r : Requester) : Orderly s (s.cancelAtTickets r) := by
  unfold State.cancelAtTickets
  split
  · next x rest h =>
    refine enlistCall_orderly h ?_
    rw [enlist_desk]
    rfl
  · exact orderly_discards (discards_desk s _) List.filter_sublist

theorem cancelAt_orderly (r : Requester) (b : Block) : Orderly s (s.cancelAt r b) := by
  cases b with
  | weighing w => exact orderly_of_desk (cancelAtChannel_desk s w r)
  | txn => exact orderly_of_desk (cancelPriceItem_desk s r)
  | tickets => exact cancelAtTickets_orderly s r
  | outlet o => exact orderly_of_desk (cancelAtOutlet_desk s o r)
  | link | plu | totals | clock => exact orderly_of_desk rfl

theorem requestCancellation_keepsOrder : KeepsOrder s (execRequestCancellation p t s) := by
  unfold execRequestCancellation
  split
  · exact keepsOrder_done (orderly_of_desk rfl)
  · exact keepsOrder_done ((cancelAt_orderly _ _ _).after rfl (tableRules_of_txn rfl))

end Starts

/-! ### Every command, every step -/

theorem exec_keepsOrder (s : State) (c : Instr) : KeepsOrder s (exec c s) := by
  cases hc : changesDesk c with
  | false => exact keepsOrder_of_keepsDesk (exec_keepsDesk s c hc)
  | true =>
    cases c
    case requestCancellation p t => exact requestCancellation_keepsOrder s p t
    case captureTaken w => exact captureTaken_keepsOrder s w
    case addCountItem p t plu quantity clerk label => exact addCountItem_keepsOrder s p t plu quantity clerk label
    case voidLine p t clerk index => exact voidLine_keepsOrder s p t clerk index
    case park p t clerk => exact park_keepsOrder s p t clerk
    case resume p t clerk target => exact resume_keepsOrder s p t clerk target
    case approve p t n => exact approve_keepsOrder s p t n
    case closeTransaction p t clerk label => exact closeTransaction_keepsOrder s p t clerk label
    case voidTransaction p t name => exact voidTransaction_keepsOrder s p t name
    case openBound k => exact openBound_keepsOrder s k
    case discard k => exact discard_keepsOrder s k
    case boundTxnReport k => exact boundTxnReport_keepsOrder s k
    case ticketOutcomeReport k => exact ticketOutcomeReport_keepsOrder s k
    case issueTicket p t k => exact issueTicket_keepsOrder s p t k
    case dispenserLineChange d high => exact dispenserLineChange_keepsOrder s d high
    case callNext p t clerk => exact callNext_keepsOrder s p t clerk
    case callTimerExpiry k => exact callTimerExpiry_keepsOrder s k
    case skip p t clerk => exact skip_keepsOrder s p t clerk
    case reinstate p t k => exact reinstate_keepsOrder s p t k
    case openDay p t date => exact openDay_keepsOrder s p t date
    case closeDay p t mode => exact closeDay_keepsOrder s p t mode
    case powerUp backupGood levels =>
      cases backupGood with
      | true => exact keepsOrder_done (warmStart_orderly s .warm levels)
      | false => exact keepsOrder_done (coldStart_orderly s levels)
    case restartEffects levels =>
      dsimp only [exec, execRestartEffects]
      split_ifs
      · exact keepsOrder_done (warmStart_orderly s .restart levels)
      · exact keepsOrder_done (orderly_of_desk rfl)
    all_goals cases hc
    -- The command left is RECALL, whose constructor's name is a keyword here.
    exact recall_keepsOrder s _ _ _

theorem step_orderly {s t : State} (h : step s = .next t) : Orderly s t := by
  unfold step at h
  split at h
  · cases h
    exact orderly_of_desk rfl
  · next c rest hpending =>
    exact (exec_keepsOrder _ c t h).after (withPending_desk s rest) (tableRules_of_txn rfl)

/-- Settles O9: every command of the unit is orderly on the desk, the part of the state that the laws speak of. -/
theorem stepsKeepTicketLaw : Obligations.StepsKeepTicketLaw := by
  unfold Obligations.StepsKeepTicketLaw
  simp only [dayLaw_iff, ticketLaw_iff, boundLaw_iff, tableLaw_iff]
  exact ⟨fun s t hday h => ⟨(step_orderly h).day hday, (step_orderly h).tickets hday⟩,
    fun s t hr hticket hday hbound h => (step_orderly h).bound hr hday hticket hbound⟩

end Sys2Proof.Machine.Tickets
end

section
/-! PROOF. APPROVE, PARK and RESUME (O37, O38). -/

namespace Sys2Proof.Machine.Clerking

open PlatterOps PluTable Books Ordered Tickets

/-! ### APPROVE (R120) -/

section Approve
variable {s : State} {p : Port} {t : Tag} {n : Nat}

theorem exec_approve (p : Port) (t : Tag) (n : Nat) (s : State) : exec (.approve p t n) s = execApprove p t n s := rfl

theorem approve_refuses {e : Result} (hw : Waiting s p t (.approve p t n)) (h : s.approveTests n = .error e) :
    Refuses (.approve p t n) p t s e := by
  have htaken : (s.taken p t (.approve p t n)).approveTests n = .error e := h
  exact refuses_takeRequest hw (exec_approve p t n s) (by rw [htaken])

theorem approveTests_of_range (hn : 1 ≤ n ∧ n ≤ 9999) : s.approveTests n = (do
    let x ← orRefuse (s.findTxn n) .noSuch
    require (x.approval = .required) .badValue
    return x) := by
  have hrange : txnNumberInRange n = true := by simp [txnNumberInRange, hn]
  rw [State.approveTests, hrange, require_true, ok_bind]

theorem approve_answers {before after : List Txn} {x : Txn} (hw : Waiting s p t (.approve p t n))
    (ha : Ascending Txn.number s.txn.held) (hheld : s.txn.held = before ++ x :: after)
    (h : s.approveTests n = .ok x) : Answers (.approve p t n) p t s .ok .empty
      { s with txn := { s.txn with held := before ++ { x with approval := .granted } :: after } } := by
  have htaken : (s.taken p t (.approve p t n)).approveTests n = .ok x := h
  have hput : putTxn { x with approval := .granted } s.txn.held = before ++ { x with approval := .granted } :: after := by
    rw [putTxn_eq_put, hheld]
    exact put_split (hheld ▸ ha) rfl
  refine answers_takeRequest hw (exec_approve p t n s) rfl rfl ?_
  rw [htaken, ← hput]
  rfl

end Approve

/-- Settles O38: the tests in their order, then the transaction put over itself with its approval. -/
theorem approveGrants : Obligations.ApproveGrants := by
  intro s p t n i
  refine ⟨rfl, fun hw hlaw => ⟨fun hout => approve_refuses hw ?_, fun h1 h2 hnone => approve_refuses hw ?_,
    fun h1 h2 before x after hheld hn => ?_⟩⟩
  · have hrange : txnNumberInRange n = false := by simp [txnNumberInRange]; omega
    rw [State.approveTests, hrange, require_false, error_bind]
  · have hfind : s.findTxn n = none := List.find?_eq_none.2 (by simpa using hnone)
    rw [approveTests_of_range ⟨h1, h2⟩, hfind]
    rfl
  · have hfind : s.findTxn n = some x := hn ▸ findTxn_of_mem hlaw.2 (by simp [hheld])
    have htests := approveTests_of_range (s := s) ⟨h1, h2⟩
    rw [hfind] at htests
    split_ifs with happroval
    · exact approve_answers hw hlaw.2 hheld (htests.trans (by simp [orRefuse, happroval]))
    · exact approve_refuses hw (htests.trans (by simp [orRefuse, happroval]))

/-! ### PARK and RESUME (R117, R118) -/

section Transfers
variable {s : State} {p : Port} {t : Tag} {clerk : Nat} {c : ClerkNo} {target : ResumeTarget}

theorem exec_park (p : Port) (t : Tag) (clerk : Nat) (s : State) : exec (.park p t clerk) s = execPark p t clerk s := rfl

theorem exec_resume (p : Port) (t : Tag) (clerk : Nat) (target : ResumeTarget) (s : State) :
    exec (.resume p t clerk target) s = execResume p t clerk target s := rfl

theorem park_refuses {e : Result} (hw : Waiting s p t (.park p t clerk)) (h : s.parkTests clerk = .error e) :
    Refuses (.park p t clerk) p t s e := by
  have htaken : (s.taken p t (.park p t clerk)).parkTests clerk = .error e := h
  exact refuses_takeRequest hw (exec_park p t clerk s) (by rw [htaken])

theorem resume_refuses {e : Result} (hw : Waiting s p t (.resume p t clerk target))
    (h : s.resumeTests clerk target = .error e) : Refuses (.resume p t clerk target) p t s e := by
  have htaken : (s.taken p t (.resume p t clerk target)).resumeTests clerk target = .error e := h
  exact refuses_takeRequest hw (exec_resume p t clerk target s) (by rw [htaken])

/-- The held transactions with one put over its number: found there, every other as before. -/
theorem find?_putTxn (s : State) (y : Txn) :
    (putTxn y s.txn.held).find? (fun z => z.number = y.number) = some y ∧
      ∀ n, n ≠ y.number → (putTxn y s.txn.held).find? (fun z => z.number = n) = s.findTxn n := by
  rw [putTxn_eq_put]
  exact ⟨find?_put_same y _, fun n hn => find?_put_of_ne hn _⟩

/-- The state with a clerk's transaction, parked or open again, and the report to the ticket queue. -/
def transferred (s : State) (p : Port) (c : ClerkNo) (y : Txn) (openTxn : Option Nat) (parked : List Nat)
    (report : BoundReport) : State :=
  { s.setClerk c { s.clerk c with openTxn := openTxn, lastStation := some p } with
    txn := { (s.setClerk c { s.clerk c with openTxn := openTxn, lastStation := some p }).txn with
      held := putTxn y s.txn.held, parked := parked }
    transit := { s.transit with ticketReports := s.transit.ticketReports ++
      (y.ticket.map fun k => (k, TicketReport.bound report)).toList } }

/-- The steps in which PARK and RESUME reach it. -/
theorem transferred_eq (s : State) (p : Port) (y : Txn) (openTxn : Option Nat) (parked : List Nat) (report : BoundReport) :
    let u : State := { s.setTxn y with txn := { (s.setTxn y).txn with parked := parked } }
    (u.setClerk y.clerk { u.clerk y.clerk with openTxn := openTxn, lastStation := some p }).reportTicket y.ticket
      (.bound report) = transferred s p y.clerk y openTxn parked report := by
  unfold transferred State.reportTicket
  cases y.ticket
  · simp only [Option.map_none, Option.toList_none, List.append_nil]
    rfl
  · rfl

theorem park_answers {x : Txn} (hw : Waiting s p t (.park p t clerk)) (h : s.parkTests clerk = .ok x) (hc : x.clerk = c) :
    Answers (.park p t clerk) p t s .ok (.parked x.number)
      (transferred s p c { x with parkedAt := some s.clock.now, lastStation := p } none (s.txn.parked ++ [x.number])
        .parked) := by
  subst hc
  have htaken : (s.taken p t (.park p t clerk)).parkTests clerk = .ok x := h
  refine answers_takeRequest hw (exec_park p t clerk s) rfl rfl ?_
  rw [htaken]
  have heffect := transferred_eq (s.taken p t (.park p t clerk)) p { x with parkedAt := some s.clock.now, lastStation := p }
    none (s.txn.parked ++ [x.number]) .parked
  exact congrArg (State.ok · ⟨p, t, requestCode (.park p t clerk)⟩ (.parked x.number)) heffect

theorem resume_answers {x : Txn} (hw : Waiting s p t (.resume p t clerk target)) (h : s.resumeTests clerk target = .ok x)
    (hc : x.clerk = c) : Answers (.resume p t clerk target) p t s .ok (.resumed x.number x.subtotal x.approval)
      (transferred s p c { x with parkedAt := none, lastStation := p } (some x.number)
        (s.txn.parked.filter (· ≠ x.number)) (.resumed x.lines.isEmpty)) := by
  subst hc
  have htaken : (s.taken p t (.resume p t clerk target)).resumeTests clerk target = .ok x := h
  refine answers_takeRequest hw (exec_resume p t clerk target s) rfl rfl ?_
  rw [htaken]
  have heffect := transferred_eq (s.taken p t (.resume p t clerk target)) p { x with parkedAt := none, lastStation := p }
    (some x.number) (s.txn.parked.filter (· ≠ x.number)) (.resumed x.lines.isEmpty)
  exact congrArg (State.ok · ⟨p, t, requestCode (.resume p t clerk target)⟩ (.resumed x.number x.subtotal x.approval))
    heffect

/-- The transaction that RESUME names (R118). -/
theorem resumeFinds_eq (s : State) (c : ClerkNo) (target : ResumeTarget) : s.resumeFinds c target =
    match target with
    | .number n => (s.findTxn n).bind fun x => if x.parkedAt ≠ none ∧ x.clerk = c then some x else none
    | .oldest => (s.txn.parked.filterMap s.findTxn).find? fun x => x.clerk = c := by
  cases target with
  | oldest => rfl
  | number n =>
    dsimp only [State.resumeFinds]
    cases s.findTxn n with
    | none => rfl
    | some x => simp [Option.isSome_iff_ne_none]

theorem resumeTests_of_val (hc : clerk = c.val + 1) : s.resumeTests clerk target = (do
    let x ← orRefuse (s.resumeFinds c target) .noSuch
    match s.openOf c with
    | none => return x
    | some y => if y.ticket.isSome ∧ x.ticket.isSome then .error .inService else .error .openTxn) := by
  rw [State.resumeTests, namedClerk_of_val hc]
  rfl

end Transfers

/-- PARK of a clerk's OPEN transaction (R117). -/
theorem park_settled (s : State) (p : Port) (t : Tag) (clerk : Nat) (hw : Waiting s p t (.park p t clerk)) (c : ClerkNo)
    (hc : clerk = c.val + 1) :
    match s.openOf c with
    | none => Refuses (.park p t clerk) p t s .noSuch
    | some x =>
      if 8 ≤ s.txn.parked.length then Refuses (.park p t clerk) p t s .tableFull
      else x.clerk = c → Answers (.park p t clerk) p t s .ok (.parked x.number)
        (transferred s p c { x with parkedAt := some s.clock.now, lastStation := p } none (s.txn.parked ++ [x.number])
          .parked) := by
  have htests : s.parkTests clerk = (do
      let x ← orRefuse (s.openOf c) .noSuch
      require (s.txn.parked.length < Config.parkedPlaces) .tableFull
      return x) := by
    rw [State.parkTests, namedClerk_of_val hc, ok_bind]
  cases hx : s.openOf c with
  | none => exact park_refuses hw (by rw [htests, hx]; rfl)
  | some x =>
    rw [hx] at htests
    dsimp only
    split_ifs with hfull
    · have hroom : ¬s.txn.parked.length < Config.parkedPlaces := Nat.not_lt.2 hfull
      exact park_refuses hw (htests.trans (by simp [orRefuse, hroom]))
    · have hroom : s.txn.parked.length < Config.parkedPlaces := Nat.not_le.1 hfull
      exact park_answers hw (htests.trans (by simp [orRefuse, hroom]))

/-- Settles O37: the tests of PARK and of RESUME in their order, and the one transfer that both make. -/
theorem parkAndResume : Obligations.ParkAndResume := by
  constructor
  · intro s p t clerk i hw
    refine ⟨fun hout => park_refuses hw (by rw [State.parkTests, namedClerk_of_out hout, error_bind]), fun c hc => ?_⟩
    have hpark := park_settled s p t clerk hw c hc
    cases hx : s.openOf c with
    | none => simpa only [hx] using hpark
    | some x =>
      rw [hx] at hpark
      dsimp only at hpark ⊢
      split_ifs at hpark ⊢ with hfull
      · exact hpark
      · intro hclerk
        exact ⟨_, hpark hclerk, find?_putTxn s { x with parkedAt := some s.clock.now, lastStation := p }⟩
  · intro s p t clerk target i hw
    refine ⟨fun hout => resume_refuses hw (by rw [State.resumeTests, namedClerk_of_out hout, error_bind]), fun c hc => ?_⟩
    intro found
    have hfound : s.resumeFinds c target = found := resumeFinds_eq s c target
    have htests := resumeTests_of_val (s := s) (target := target) hc
    rw [hfound] at htests
    cases hx : found with
    | none => exact resume_refuses hw (htests.trans (by rw [hx]; rfl))
    | some x =>
      rw [hx] at htests
      have hclerk : x.clerk = c := (resumeFinds_some (hfound.trans hx)).2
      cases hopen : s.openOf c with
      | some y =>
        rw [hopen] at htests
        refine resume_refuses hw (htests.trans ?_)
        simp only [orRefuse, ok_bind, Option.isSome_iff_ne_none]
        split_ifs <;> rfl
      | none =>
        rw [hopen] at htests
        refine ⟨putTxn { x with parkedAt := none, lastStation := p } s.txn.held, ?_,
          find?_putTxn s { x with parkedAt := none, lastStation := p }⟩
        have hempty : x.lines.isEmpty = decide (x.lines = []) := by cases x.lines <;> rfl
        exact hempty ▸ resume_answers hw htests hclerk

end Sys2Proof.Machine.Clerking
end

section
/-! PROOF. The outlets: the line flow of one outlet, and what a job that leaves its queue changes outside it
(O50 to O53). -/

namespace Sys2Proof.Machine.Printing

open PlatterOps Books Ordered

/-! ### The line flow (R157, R158) -/

theorem markedLines_length (total i : Nat) (l : List Text) : (markedLines total i l).length = l.length := by
  induction l generalizing i with
  | nil => rfl
  | cons text l ih => simp [markedLines, ih]

theorem markedLines_getElem? (total i k : Nat) (l : List Text) : (markedLines total i l)[k]? =
    l[k]?.map fun text => ⟨text, decide (i + k = 0), decide (i + k + 1 = total)⟩ := by
  induction l generalizing i k with
  | nil => rfl
  | cons text l ih =>
    cases k with
    | zero => rfl
    | succ k =>
      rw [markedLines, List.getElem?_cons_succ, List.getElem?_cons_succ, ih, show i + 1 + k = i + (k + 1) by omega]

theorem nextLines_length (j : QueuedJob) (n : Nat) : (j.nextLines n).length = min n (j.job.lines.length - j.moved) := by
  simp [QueuedJob.nextLines, markedLines_length]

theorem nextLines_getElem? (j : QueuedJob) {n k : Nat} (h : k < n) : (j.nextLines n)[k]? =
    (j.job.lines[j.moved + k]?).map fun text =>
      ⟨text, decide (j.moved + k = 0), decide (j.moved + k + 1 = j.job.lines.length)⟩ := by
  rw [QueuedJob.nextLines, markedLines_getElem?, List.getElem?_take_of_lt h, List.getElem?_drop]

section Flow
variable {x : Outlet} {j : QueuedJob} {rest : List QueuedJob}

/-- The lines that the refill moves: up to four places filled, where two or more are free. -/
def refillLines (x : Outlet) (j : QueuedJob) : List PrintLine :=
  if x.lineQueue.length ≤ 2 then j.nextLines (4 - x.lineQueue.length) else []

theorem refill_printing (hjobs : x.jobs = j :: rest) (hstate : x.state = .printing) : x.refill = { x with
    lineQueue := x.lineQueue ++ refillLines x j
    jobs := { j with moved := j.moved + (refillLines x j).length } :: rest } := by
  unfold Outlet.refill refillLines
  have hplaces : x.lineQueue.length + 2 ≤ Config.lineQueue ↔ x.lineQueue.length ≤ 2 :=
    Nat.add_le_add_iff_right (m := x.lineQueue.length) (k := 2)
  simp only [hjobs, hstate, true_and, hplaces]
  split_ifs
  · rfl
  · obtain ⟨⟩ := x
    simp only [List.append_nil, List.length_nil, Nat.add_zero]
    simp_all

/-- A refill changes the line queue and the head job's count of lines moved, and nothing else. -/
theorem refill_frame (x : Outlet) : ∃ queue jobs, x.refill = { x with lineQueue := queue, jobs := jobs } ∧
    jobs.map (·.id) = x.jobs.map (·.id) := by
  unfold Outlet.refill
  split
  · exact ⟨_, _, rfl, rfl⟩
  · next j rest hjobs =>
    split_ifs
    · exact ⟨_, _, rfl, by simp [hjobs]⟩
    · exact ⟨_, _, rfl, rfl⟩

theorem send_frame (x : Outlet) : ∃ transfer sent, x.send = { x with transfer := transfer, sent := sent } ∧
    x.sent ⊆ sent ∧ (x.lineQueue = [] → sent = x.sent ∧ transfer = x.transfer) := by
  unfold Outlet.send
  split_ifs
  · split
    · exact ⟨_, _, rfl, List.Subset.refl _, fun _ => ⟨rfl, rfl⟩⟩
    · next l ls h => exact ⟨_, _, rfl, List.subset_cons_self _ _, fun hnil => absurd (h.symm.trans hnil) nofun⟩
  · exact ⟨_, _, rfl, List.Subset.refl _, fun _ => ⟨rfl, rfl⟩⟩

/-- The line flow keeps the outlet's settings, state and counts, and the order of its jobs. -/
theorem pump_frame (x : Outlet) : ∃ queue jobs transfer sent,
    x.pump = { x with lineQueue := queue, jobs := jobs, transfer := transfer, sent := sent } ∧
      jobs.map (·.id) = x.jobs.map (·.id) ∧ x.sent ⊆ sent := by
  obtain ⟨queue, jobs, hrefill, hids⟩ := refill_frame x
  obtain ⟨transfer, sent, hsend, hsub, -⟩ := send_frame x.refill
  refine ⟨queue, jobs, transfer, sent, ?_, hids, ?_⟩
  · rw [Outlet.pump, hsend, hrefill]
  · rw [hrefill] at hsub; exact hsub

/-- Outside PRINTING nothing moves and nothing is sent. -/
theorem pump_of_not_printing (h : x.state ≠ .printing) : x.pump = x := by
  have hrefill : x.refill = x := by
    unfold Outlet.refill
    split
    · rfl
    · rw [if_neg fun hprinting => h hprinting.1]
  rw [Outlet.pump, hrefill, Outlet.send, if_neg fun hprinting => h hprinting.1]

theorem pump_of_empty (hjobs : x.jobs = []) (hqueue : x.lineQueue = []) : x.pump = x := by
  have hrefill : x.refill = x := by unfold Outlet.refill; rw [hjobs]
  rw [Outlet.pump, hrefill, Outlet.send]
  simp [hqueue]

/-- A send leaves the line queue; it sends its first line just where none is in transfer. -/
theorem send_printing (hstate : x.state = .printing) :
    (x.transfer = true → x.send.transfer = true ∧ x.send.sent = x.sent) ∧
      (x.transfer = false → ∀ l, x.lineQueue.head? = some l → x.send.transfer = true ∧ x.send.sent = .line l :: x.sent) := by
  unfold Outlet.send
  constructor
  · intro htransfer
    simp [htransfer]
  · intro htransfer l hl
    rw [if_pos ⟨hstate, by simp [htransfer]⟩]
    cases hqueue : x.lineQueue with
    | nil => rw [hqueue] at hl; cases hl
    | cons m ms => rw [hqueue] at hl; cases hl; exact ⟨rfl, rfl⟩

/-! ### Resuming (R156) -/

theorem resume_eq (x : Outlet) : x.resume =
    if x.paperOut then { x with state := .noPaper }
    else if x.hold then { x with state := .held, holdTimer := some (x.prescale * x.limitCount * 100) }
    else if x.jobs = [] then { x with state := .ready }
    else { x with state := .printing }.pump := by
  unfold Outlet.resume Outlet.limitMs
  cases x.jobs <;> simp

/-! ### A job leaves (R159, R160, R167) -/

theorem isLabel_iff {k : JobKind} : k.isLabel = true ↔ k = .item ∨ k = .total := by cases k <;> simp [JobKind.isLabel]

/-- The queued label count once a job has left. -/
theorem labelCount_eq (j : QueuedJob) (n : Nat) :
    (if j.job.kind.isLabel then n - 1 else n) = if j.job.kind = .item ∨ j.job.kind = .total then n - 1 else n := by
  simp only [isLabel_iff]

theorem leftOutlet_nil (hjobs : x.jobs = []) (j : QueuedJob) (wasHead : Bool) : leftOutlet x j wasHead = { x with
    labelCount := if j.job.kind = .item ∨ j.job.kind = .total then x.labelCount - 1 else x.labelCount
    completed := 0
    state := if x.state = .printing then .ready else x.state } := by
  rw [leftOutlet]
  simp only [hjobs, labelCount_eq]

theorem leftOutlet_cons (hjobs : x.jobs ≠ []) (j : QueuedJob) (wasHead : Bool) : leftOutlet x j wasHead =
    let y := { x with labelCount := if j.job.kind = .item ∨ j.job.kind = .total then x.labelCount - 1 else x.labelCount }
    if wasHead then y.pump else y := by
  rw [leftOutlet]
  cases h : x.jobs with
  | nil => exact absurd h hjobs
  | cons k ks => simp only [labelCount_eq]

/-- What an outlet keeps, and how its queue and label count stand, once a job has left. -/
theorem leftOutlet_frame (x : Outlet) (j : QueuedJob) (wasHead : Bool) :
    (leftOutlet x j wasHead).jobs.map (·.id) = x.jobs.map (·.id) ∧
      (leftOutlet x j wasHead).labelCount =
        (if j.job.kind = .item ∨ j.job.kind = .total then x.labelCount - 1 else x.labelCount) ∧
      x.sent ⊆ (leftOutlet x j wasHead).sent := by
  by_cases hjobs : x.jobs = []
  · rw [leftOutlet_nil hjobs]
    exact ⟨rfl, rfl, List.Subset.refl _⟩
  · rw [leftOutlet_cons hjobs]
    cases wasHead with
    | false => exact ⟨rfl, rfl, List.Subset.refl _⟩
    | true =>
      obtain ⟨queue, jobs, transfer, sent, h, hids, hsub⟩ := pump_frame { x with
        labelCount := if j.job.kind = .item ∨ j.job.kind = .total then x.labelCount - 1 else x.labelCount }
      dsimp only
      rw [if_pos rfl, h]
      exact ⟨hids, rfl, hsub⟩

/-- Outside PRINTING a job that leaves takes itself away, and the count of completed jobs with an emptied queue. -/
theorem leftOutlet_of_not_printing (h : x.state ≠ .printing) (j : QueuedJob) (wasHead : Bool) :
    leftOutlet x j wasHead = { x with
      labelCount := if j.job.kind = .item ∨ j.job.kind = .total then x.labelCount - 1 else x.labelCount
      completed := if x.jobs = [] then 0 else x.completed } := by
  by_cases hjobs : x.jobs = []
  · rw [leftOutlet_nil hjobs, if_neg h, if_pos hjobs]
  · rw [leftOutlet_cons hjobs, if_neg hjobs]
    cases wasHead with
    | false => rfl
    | true => exact pump_of_not_printing h

end Flow

/-! ### Notices and replies beside an outlet's change -/

/-- Only notices have been handed to links. -/
structure OnlyTold (s t : State) : Prop where
  frame : ∃ link, t = { s with link := link }
  slots : ∀ p, (t.linkOf p).slots = (s.linkOf p).slots
  replies : ∀ p, (t.linkOf p).replies = (s.linkOf p).replies
  hears : ∀ p k, t.hears p k ↔ s.hears p k

section Told
variable {s t u : State}

theorem OnlyTold.refl (s : State) : OnlyTold s s := ⟨⟨s.link, rfl⟩, fun _ => rfl, fun _ => rfl, fun _ _ => .rfl⟩

theorem OnlyTold.trans (h : OnlyTold s t) (h' : OnlyTold t u) : OnlyTold s u := by
  obtain ⟨link, hlink⟩ := h.frame
  obtain ⟨link', hlink'⟩ := h'.frame
  exact ⟨⟨link', by rw [hlink', hlink]⟩, fun p => (h'.slots p).trans (h.slots p),
    fun p => (h'.replies p).trans (h.replies p), fun p k => (h'.hears p k).trans (h.hears p k)⟩

theorem queueNotice_replies (k : Nat) (n : Notice) (l : Link) : (l.queueNotice k n).replies = l.replies := by
  have hready : (l.queueNotice k n).ready = l.ready := by
    rcases Link.queueNotice_cases k n l with ⟨h, -⟩ | ⟨-, -, -, h⟩ | ⟨-, -, -, h⟩ | ⟨-, -, -, h⟩ <;> rw [h]
  rw [Link.replies, Link.replies, queueNotice_tx, hready]

theorem onlyTold_notify (s : State) (p : Port) (n : Notice) : OnlyTold s (s.notify p n) where
  frame := ⟨_, rfl⟩
  slots := fun q => State.notify_slots s q p n
  replies := fun q => by
    rw [State.notify, State.linkOf_mapLink]
    split_ifs
    · exact queueNotice_replies _ _ _
    · rfl
  hears := fun q k => Calls.notify_hears s q p n k

theorem onlyTold_notifyAll (s : State) (ps : List Port) (n : Notice) : OnlyTold s (s.notifyAll ps n) := by
  induction ps generalizing s with
  | nil => exact .refl s
  | cons p ps ih => exact (onlyTold_notify s p n).trans (ih _)

theorem onlyTold_tellOutletState (s : State) (o : OutletId) (before : OutletState) :
    OnlyTold s (s.tellOutletState o before) := onlyTold_notifyAll _ _ _

theorem onlyTold_transmitAll (s : State) : OnlyTold s s.transmitAll where
  frame := ⟨_, rfl⟩
  slots := fun p => by
    obtain ⟨h, -⟩ := (s.linkOf p).startTransmitter_sameTraffic
    rw [State.transmitAll_linkOf]
    change (s.linkOf p).startTransmitter.still.slots = (s.linkOf p).still.slots
    rw [h]
  replies := fun p => by
    obtain ⟨-, h, -⟩ := (s.linkOf p).startTransmitter_sameTraffic
    rw [State.transmitAll_linkOf, h]
  hears := fun p k => by
    obtain ⟨h, -⟩ := (s.linkOf p).startTransmitter_sameTraffic
    have hstate : (s.linkOf p).startTransmitter.state = (s.linkOf p).state := by
      change (s.linkOf p).startTransmitter.still.state = (s.linkOf p).still.state
      rw [h]
    have hthreshold : (s.linkOf p).startTransmitter.threshold = (s.linkOf p).threshold := by
      change (s.linkOf p).startTransmitter.still.threshold = (s.linkOf p).still.threshold
      rw [h]
    unfold State.hears
    rw [State.transmitAll_linkOf, hstate, hthreshold]
    rfl

/-- OUTLET_DRAINED in mode DRAIN, when the queue has emptied (R160). -/
def tellDrained (s : State) (o : OutletId) (x : Outlet) : State :=
  if x.jobs = [] ∧ x.mode = .drain then s.notifyAll (s.outletPorts o) (.outletDrained o x.completed) else s

theorem onlyTold_tellDrained (s : State) (o : OutletId) (x : Outlet) : OnlyTold s (tellDrained s o x) := by
  unfold tellDrained
  split_ifs
  · exact onlyTold_notifyAll _ _ _
  · exact .refl s

theorem OnlyTold.replied {r : Requester} {e : Result} {payload : Payload} (h : OnlyTold s t) (hr : Replied s r e payload) :
    Replied t r e payload := by
  obtain ⟨link, hlink⟩ := h.frame
  unfold Replied at *
  rw [h.replies, show t.now = s.now by rw [hlink]; rfl, show t.clock = s.clock by rw [hlink]]
  exact hr

end Told

/-! ### A job that leaves its queue -/

/-- The transaction table forgets an item label job that has left (R106). -/
def forgotten (s : State) (o : OutletId) (j : QueuedJob) : State := if j.job.kind = .item then s.labelGone o j.id else s

section Leaving
variable (s : State) (o : OutletId)

theorem forgotten_frame (j : QueuedJob) : ∃ txn, forgotten s o j = { s with txn := txn } ∧ txn.routing = s.txn.routing := by
  unfold forgotten
  split_ifs
  · exact ⟨_, rfl, rfl⟩
  · exact ⟨_, rfl, rfl⟩

theorem jobLeft_eq (j : QueuedJob) (wasHead : Bool) : s.jobLeft o j wasHead =
    tellDrained ((forgotten s o j).setOutlet o (leftOutlet (s.outletOf o) j wasHead)) o (s.outletOf o) := by
  unfold State.jobLeft leftOutlet tellDrained forgotten
  dsimp only
  cases hjobs : (s.outletOf o).jobs with
  | nil =>
    simp only [true_and]
    rfl
  | cons k ks =>
    simp only [reduceCtorEq, false_and, if_false]
    rfl

theorem setOutlet_setOutlet (x y : Outlet) : (s.setOutlet o x).setOutlet o y = s.setOutlet o y := by
  simp only [State.setOutlet, PerOutlet.set_set]

theorem outletOf_setOutlet (x : Outlet) : (s.setOutlet o x).outletOf o = x := PerOutlet.get_set_same ..

theorem outletOf_setOutlet_of_ne {q : OutletId} (x : Outlet) (h : q ≠ o) :
    (s.setOutlet o x).outletOf q = s.outletOf q := PerOutlet.get_set_of_ne _ _ h

theorem forgotten_setOutlet (x : Outlet) (j : QueuedJob) :
    forgotten (s.setOutlet o x) o j = (forgotten s o j).setOutlet o x := by
  unfold forgotten
  split_ifs <;> rfl

/-- The job has left an outlet just changed. -/
theorem jobLeft_set_eq (x : Outlet) (j : QueuedJob) (wasHead : Bool) : (s.setOutlet o x).jobLeft o j wasHead =
    tellDrained ((forgotten s o j).setOutlet o (leftOutlet x j wasHead)) o x := by
  rw [jobLeft_eq, outletOf_setOutlet, forgotten_setOutlet, setOutlet_setOutlet]

theorem dropHead_set_eq (x : Outlet) (j : QueuedJob) : (s.setOutlet o x).dropHead o j =
    tellDrained ((forgotten s o j).setOutlet o (leftOutlet { x with jobs := x.jobs.drop 1 } j true)) o
      { x with jobs := x.jobs.drop 1 } := by
  rw [State.dropHead, setOutlet_setOutlet, outletOf_setOutlet, jobLeft_set_eq]

/-- The outlet in which a waiting cancel ends its head job: no line left of it, "abort job" sent (R168). -/
def cancelledHead (x : Outlet) (rest : List QueuedJob) : Outlet :=
  { x with
    lineQueue := [], transfer := false, jobs := rest
    sent := if x.state = .offline then x.sent else .abortJob :: x.sent }

theorem completeCancel_set_eq {x : Outlet} {k j : QueuedJob} {rest : List QueuedJob} (hjobs : x.jobs = k :: rest) :
    (s.setOutlet o x).completeCancel o j =
      (tellDrained ((forgotten s o j).setOutlet o (leftOutlet (cancelledHead x rest) j true)) o
        (cancelledHead x rest)).answerCancels j.cancels := by
  have habort : { x.abandonLines.abort with jobs := x.abandonLines.abort.jobs.drop 1 } = cancelledHead x rest := by
    unfold Outlet.abandonLines Outlet.abort cancelledHead
    split_ifs <;> simp [hjobs]
  rw [State.completeCancel, outletOf_setOutlet, setOutlet_setOutlet, dropHead_set_eq, habort]

end Leaving

/-! ### The answers to waiting cancels (R168) -/

/-- What the answering of cancels keeps: all but the links, and of them the outboxes, the replies made before, and who
hears what. -/
structure OnlyAnswered (s t : State) : Prop where
  frame : ∃ link, t = { s with link := link }
  outbox : ∀ p, (t.linkOf p).outbox = (s.linkOf p).outbox
  replies : ∀ p, (s.linkOf p).replies ⊆ (t.linkOf p).replies
  hears : ∀ p k, t.hears p k ↔ s.hears p k

section Answers
variable {s t u : State}

theorem OnlyAnswered.refl (s : State) : OnlyAnswered s s :=
  ⟨⟨s.link, rfl⟩, fun _ => rfl, fun _ => List.Subset.refl _, fun _ _ => .rfl⟩

theorem OnlyAnswered.trans (h : OnlyAnswered s t) (h' : OnlyAnswered t u) : OnlyAnswered s u := by
  obtain ⟨link, hlink⟩ := h.frame
  obtain ⟨link', hlink'⟩ := h'.frame
  exact ⟨⟨link', by rw [hlink', hlink]⟩, fun p => (h'.outbox p).trans (h.outbox p),
    fun p x hx => h'.replies p (h.replies p hx), fun p k => (h'.hears p k).trans (h.hears p k)⟩

theorem takeReply_kept (l : Link) (r : Requester) (reply : Reply) :
    (l.takeReply r reply).state = l.state ∧ (l.takeReply r reply).threshold = l.threshold ∧
      l.replies ⊆ (l.takeReply r reply).replies := by
  unfold Link.takeReply
  split_ifs
  · refine ⟨rfl, rfl, fun x hx => ?_⟩
    rcases List.mem_append.1 hx with hx | hx
    · exact List.mem_append_left _ hx
    · exact List.mem_append_right _ (List.mem_append_left _ hx)
  · exact ⟨rfl, rfl, List.Subset.refl _⟩

theorem onlyAnswered_reply (s : State) (r : Requester) (e : Result) (payload : Payload) :
    OnlyAnswered s (s.reply r e payload) := by
  rcases s.reply_cases r e payload with h | h
  · rw [h]; exact .refl s
  · refine ⟨⟨_, h⟩, reply_outbox s r e payload, fun p => ?_, fun p k => ?_⟩ <;> rw [h]
    · rw [State.linkOf_mapLink]
      split_ifs
      · exact (takeReply_kept _ _ _).2.2
      · exact List.Subset.refl _
    · unfold State.hears
      rw [State.linkOf_mapLink, State.mapLink_priorities]
      split_ifs with hp
      · obtain ⟨hstate, hthreshold, -⟩ := takeReply_kept (s.linkOf p) r (s.replyNow r e payload)
        rw [hstate, hthreshold]
      · rfl

theorem onlyAnswered_answerCancels (s : State) (rs : List Requester) : OnlyAnswered s (s.answerCancels rs) := by
  induction rs generalizing s with
  | nil => exact .refl s
  | cons r rs ih => exact (onlyAnswered_reply s r .cancelled .empty).trans (ih _)

theorem OnlyAnswered.replied {r : Requester} {e : Result} {payload : Payload} (h : OnlyAnswered s t)
    (hr : Replied s r e payload) : Replied t r e payload := by
  obtain ⟨link, hlink⟩ := h.frame
  have hnow : t.now = s.now := by rw [hlink]; rfl
  have hclock : t.clock = s.clock := by rw [hlink]
  unfold Replied at *
  rw [hnow, hclock]
  exact h.replies _ hr

theorem mem_updateFirst_of_not {α : Type} {test : α → Bool} {f : α → α} {l : List α} {x : α} (hx : x ∈ l)
    (htest : test x = false) : x ∈ updateFirst test f l := by
  induction l with
  | nil => cases hx
  | cons y l ih =>
    unfold updateFirst
    split_ifs with hy
    · rcases List.mem_cons.1 hx with rfl | hx
      · exact absurd (htest.symm.trans hy) nofun
      · exact List.mem_cons_of_mem _ hx
    · exact (List.mem_cons.1 hx).elim (fun h => h ▸ List.mem_cons_self) fun h => List.mem_cons_of_mem _ (ih h)

/-- The reply to a request of another port or tag leaves a waiting slot waiting. -/
theorem reply_waits {r r' : Requester} (e : Result) (payload : Payload) (hne : r'.port ≠ r.port ∨ r'.tag ≠ r.tag)
    (h : (s.linkOf r.port).slots.any (Slot.waitsFor r) = true) :
    ((s.reply r' e payload).linkOf r.port).slots.any (Slot.waitsFor r) = true := by
  rcases s.reply_cases r' e payload with hr | hr
  · rwa [hr]
  · rw [hr, State.linkOf_mapLink]
    split_ifs with hport
    · unfold Link.takeReply
      split_ifs
      · obtain ⟨x, hx, hwaits⟩ := List.any_eq_true.1 h
        have htag : x.tag = r.tag := by
          simp only [Slot.waitsFor, Bool.and_eq_true, decide_eq_true_eq] at hwaits
          exact hwaits.1.1
        have hother : Slot.waitsFor r' x = false := by
          have hne' : r.tag ≠ r'.tag := (hne.resolve_left fun hp => hp hport.symm).symm
          simp [Slot.waitsFor, htag, hne']
        exact List.any_eq_true.2 ⟨x, mem_updateFirst_of_not hx hother, hwaits⟩
      · exact h
    · exact h

/-- Every waiting cancel of a request of its own port and tag is answered CANCELLED. -/
theorem replied_answerCancels {rs : List Requester} {r : Requester} (hc : s.transit.cancellations = []) (hr : r ∈ rs)
    (hothers : ∀ r' ∈ rs, r' ≠ r → r'.port ≠ r.port ∨ r'.tag ≠ r.tag)
    (hwaits : (s.linkOf r.port).slots.any (Slot.waitsFor r) = true) : Replied (s.answerCancels rs) r .cancelled .empty := by
  induction rs generalizing s with
  | nil => cases hr
  | cons r' rs ih =>
    obtain ⟨link, hlink⟩ := (onlyAnswered_reply s r' .cancelled .empty).frame
    by_cases heq : r' = r
    · subst heq
      refine (onlyAnswered_answerCancels _ rs).replied ?_
      have hreply := replied_of_waits .cancelled .empty hwaits (by simp [hc])
      obtain ⟨link', hlink'⟩ := (onlyTold_transmitAll (s.refuse r' .cancelled)).frame
      unfold Replied at hreply ⊢
      rw [(onlyTold_transmitAll _).replies] at hreply
      exact hreply
    · have hmem : r ∈ rs := (List.mem_cons.1 hr).resolve_left fun he => heq he.symm
      refine ih (s := s.refuse r' .cancelled) ?_ hmem (fun x hx => hothers x (List.mem_cons_of_mem _ hx)) ?_
      · rw [State.refuse, hlink]; exact hc
      · exact reply_waits .cancelled .empty (hothers r' List.mem_cons_self heq) hwaits

end Answers

end Sys2Proof.Machine.Printing
end

section
/-! PROOF. The line flow, line taken and job done (O50). -/

namespace Sys2Proof.Machine.Printing

open PlatterOps Books Ordered Calls

/-! ### A waiting cancel completes (R168) -/

/-- What a completed cancel of a head job leaves: the outlet `y`, the label's line without its reference, every waiting
cancel answered, and otherwise the state as it was. -/
structure CancelCompleted (s : State) (o : OutletId) (j : QueuedJob) (y : Outlet) (t : State) : Prop where
  frame : ∃ link, t = { (forgotten s o j).setOutlet o y with link := link }
  hears : ∀ p k, t.hears p k ↔ s.hears p k
  replied : s.transit.cancellations = [] → ∀ r ∈ j.cancels,
    (∀ r' ∈ j.cancels, r' ≠ r → r'.port ≠ r.port ∨ r'.tag ≠ r.tag) →
    (s.linkOf r.port).slots.any (Slot.waitsFor r) = true → Replied t r .cancelled .empty

section Completed
variable {s t u : State} {o : OutletId} {j : QueuedJob} {y : Outlet}

theorem forgotten_link (s : State) (o : OutletId) (j : QueuedJob) : (forgotten s o j).link = s.link := by
  unfold forgotten; split_ifs <;> rfl

theorem forgotten_transit (s : State) (o : OutletId) (j : QueuedJob) : (forgotten s o j).transit = s.transit := by
  unfold forgotten; split_ifs <;> rfl

theorem linkOf_congr {s t : State} (h : t.link = s.link) (p : Port) : t.linkOf p = s.linkOf p := by
  simp only [State.linkOf, h]

theorem hears_congr {s t : State} (h : t.link = s.link) (p : Port) (k : NoticeKind) : t.hears p k ↔ s.hears p k := by
  simp only [State.hears, linkOf_congr h, h]

/-- Notices told between the job's leaving and the answers do not meet them. -/
theorem cancelCompleted_of_told (h : OnlyTold ((forgotten s o j).setOutlet o y) u) :
    CancelCompleted s o j y (u.answerCancels j.cancels) := by
  have hlink : ((forgotten s o j).setOutlet o y).link = s.link := forgotten_link s o j
  have hanswered := onlyAnswered_answerCancels u j.cancels
  obtain ⟨link, hu⟩ := h.frame
  obtain ⟨link', ht⟩ := hanswered.frame
  refine ⟨⟨link', by rw [ht, hu]⟩, fun p k => ?_, fun hc r hr hothers hwaits => ?_⟩
  · rw [hanswered.hears, h.hears, hears_congr hlink]
  · refine replied_answerCancels ?_ hr hothers ?_
    · have htransit : u.transit = s.transit := by rw [hu]; exact forgotten_transit s o j
      rw [htransit, hc]
    · rw [h.slots, linkOf_congr hlink]
      exact hwaits

theorem cancelCompleted_completeCancel {x : Outlet} {k : QueuedJob} {rest : List QueuedJob} (hjobs : x.jobs = k :: rest) :
    CancelCompleted s o j (leftOutlet (cancelledHead x rest) j true) ((s.setOutlet o x).completeCancel o j) := by
  rw [completeCancel_set_eq s o hjobs]
  exact cancelCompleted_of_told (onlyTold_tellDrained _ _ _)

theorem CancelCompleted.told (h : CancelCompleted s o j y t) (ht : OnlyTold t u) : CancelCompleted s o j y u := by
  obtain ⟨link, hlink⟩ := h.frame
  obtain ⟨link', hlink'⟩ := ht.frame
  exact ⟨⟨link', by rw [hlink', hlink]⟩, fun p k => (ht.hears p k).trans (h.hears p k),
    fun hc r hr hothers hwaits => ht.replied (h.replied hc r hr hothers hwaits)⟩

/-- The outlet changed once more. -/
theorem CancelCompleted.set (h : CancelCompleted s o j y t) (z : Outlet) : CancelCompleted s o j z (t.setOutlet o z) := by
  obtain ⟨link, hlink⟩ := h.frame
  refine ⟨⟨link, ?_⟩, h.hears, h.replied⟩
  rw [hlink]
  exact congrArg (fun v : State => { v with link := link }) (setOutlet_setOutlet (forgotten s o j) o y z)

theorem CancelCompleted.outlet (h : CancelCompleted s o j y t) : t.outletOf o = y := by
  obtain ⟨link, rfl⟩ := h.frame
  exact outletOf_setOutlet (forgotten s o j) o y

theorem CancelCompleted.txn (h : CancelCompleted s o j y t) :
    t.txn = (if j.job.kind = .item then s.labelGone o j.id else s).txn := by
  obtain ⟨link, rfl⟩ := h.frame
  rfl

/-- What a completed cancel keeps. -/
theorem CancelCompleted.kept (h : CancelCompleted s o j y t) : (∀ q, q ≠ o → t.outletOf q = s.outletOf q) ∧
    t.totals = s.totals ∧ t.transit = s.transit ∧ t.queue = s.queue := by
  obtain ⟨link, rfl⟩ := h.frame
  obtain ⟨txn, htxn, -⟩ := forgotten_frame s o j
  refine ⟨fun q hq => ?_, ?_, ?_, ?_⟩
  · refine (outletOf_setOutlet_of_ne (forgotten s o j) o y hq).trans ?_
    rw [htxn]; rfl
  all_goals rw [htxn]; rfl

end Completed

/-! ### Line taken (R158, R168) -/

section LineTaken
variable {s : State} {o : OutletId} {j : QueuedJob} {rest : List QueuedJob}

theorem exec_lineTaken (o : OutletId) (s : State) : exec (.lineTaken o) s = execLineTaken o s := rfl

theorem lineTaken_idle (h : (s.outletOf o).transfer = false) : Leaves (.lineTaken o) s s := by
  refine leaves_of_done ?_
  rw [exec_lineTaken, execLineTaken]
  cases (s.outletOf o).jobs with
  | nil => rfl
  | cons j rest => simp [h]

/-- The head job with one more line taken. -/
def lineTakenFrom (j : QueuedJob) : QueuedJob := { j with taken := j.taken + 1, started := true }

theorem execLineTaken_eq (hjobs : (s.outletOf o).jobs = j :: rest) (htransfer : (s.outletOf o).transfer = true) :
    exec (.lineTaken o) s =
      let x := { s.outletOf o with
        lineQueue := (s.outletOf o).lineQueue.drop 1, transfer := false, jobs := lineTakenFrom j :: rest }
      done (if j.cancelWaiting then (s.setOutlet o x).completeCancel o (lineTakenFrom j) else s.setOutlet o x.pump) := by
  rw [exec_lineTaken, execLineTaken]
  simp only [hjobs, htransfer, if_true]
  rfl

theorem lineTaken_flows (hjobs : (s.outletOf o).jobs = j :: rest) (htransfer : (s.outletOf o).transfer = true)
    (hcancel : j.cancelWaiting = false) : Leaves (.lineTaken o) s (s.setOutlet o { s.outletOf o with
      lineQueue := (s.outletOf o).lineQueue.drop 1
      transfer := false
      jobs := { j with taken := j.taken + 1, started := true } :: rest }.pump) := by
  have hnot : ¬j.cancelWaiting = true := by simp [hcancel]
  exact leaves_of_done ((execLineTaken_eq hjobs htransfer).trans (congrArg done (if_neg hnot)))

/-- A drained queue is told of, however many cancels are answered after it. -/
theorem tellDrained_mem {u : State} {x : Outlet} (hjobs : x.jobs = []) (hmode : x.mode = .drain)
    (hears : u.hears .office .outletDrained) :
    Notice.outletDrained o x.completed ∈ ((tellDrained u o x).linkOf .office).outbox := by
  rw [tellDrained, if_pos ⟨hjobs, hmode⟩]
  exact notifyAll_mem_outbox rfl List.mem_cons_self hears

theorem lineTaken_cancels (hjobs : (s.outletOf o).jobs = j :: rest) (htransfer : (s.outletOf o).transfer = true)
    (hcancel : j.cancelWaiting = true) : ∃ t, exec (.lineTaken o) s = .next t ∧
      CancelCompleted s o j (leftOutlet (cancelledHead (s.outletOf o) rest) j true) t ∧
      (rest = [] → (s.outletOf o).mode = .drain → s.hears .office .outletDrained →
        .outletDrained o (s.outletOf o).completed ∈ (t.linkOf .office).outbox) := by
  let x : Outlet := { s.outletOf o with
    lineQueue := (s.outletOf o).lineQueue.drop 1, transfer := false, jobs := lineTakenFrom j :: rest }
  have hexec : exec (.lineTaken o) s = done ((s.setOutlet o x).completeCancel o (lineTakenFrom j)) :=
    (execLineTaken_eq hjobs htransfer).trans (congrArg done (if_pos hcancel))
  have hx : x.jobs = lineTakenFrom j :: rest := rfl
  have hdone : CancelCompleted s o (lineTakenFrom j) (leftOutlet (cancelledHead x rest) (lineTakenFrom j) true) _ :=
    (cancelCompleted_completeCancel hx).told (onlyTold_transmitAll _)
  refine ⟨_, hexec, ⟨hdone.frame, hdone.hears, hdone.replied⟩, fun hrest hmode hears => ?_⟩
  rw [transmitAll_outbox, completeCancel_set_eq s o hx, (onlyAnswered_answerCancels _ _).outbox]
  refine tellDrained_mem (x := cancelledHead x rest) hrest hmode ?_
  exact (hears_congr (forgotten_link s o (lineTakenFrom j)) .office .outletDrained).2 hears

end LineTaken

/-! ### Job done (R159) -/

section JobDone
variable {s : State} {o : OutletId} {j : QueuedJob} {rest : List QueuedJob}

theorem exec_deviceJobDone (o : OutletId) (s : State) : exec (.deviceJobDone o) s = execDeviceJobDone o s := rfl

theorem jobDone_idle (hjobs : (s.outletOf o).jobs = j :: rest)
    (h : j.taken ≠ j.job.lines.length ∨ ((s.outletOf o).state ≠ .printing ∧ (s.outletOf o).state ≠ .held)) :
    Leaves (.deviceJobDone o) s s := by
  have hnot : ¬(j.taken = j.job.lines.length ∧ ((s.outletOf o).state = .printing ∨ (s.outletOf o).state = .held)) := by
    tauto
  refine leaves_of_done ?_
  rw [exec_deviceJobDone, execDeviceJobDone]
  simp only [hjobs, if_neg hnot]

theorem onlyTold_tellJobDone (s : State) (o : OutletId) (j : QueuedJob) : OnlyTold s (s.tellJobDone o j) := by
  unfold State.tellJobDone
  split
  · exact onlyTold_notify _ _ _
  · exact .refl s

/-- The outlet once its head job is done, before the next one follows. -/
def doneOutlet (x : Outlet) (rest : List QueuedJob) : Outlet := { x with jobs := rest, completed := x.completed + 1 }

/-- The totals unit's report of a label, by its job (R180). -/
theorem labelReports_eq (job : Job) : labelReports job =
    match job.origin with
    | some (.station st) => if job.kind = .item ∨ job.kind = .total then [.labelPrinted st] else []
    | some .office | none => [] := by
  unfold labelReports
  simp only [isLabel_iff]
  split_ifs <;> rcases job.origin with _ | (_ | _) <;> rfl

theorem execJobDone_eq (hjobs : (s.outletOf o).jobs = j :: rest) (htaken : j.taken = j.job.lines.length)
    (hstate : (s.outletOf o).state = .printing ∨ (s.outletOf o).state = .held) : exec (.deviceJobDone o) s =
      let x := doneOutlet (s.outletOf o) rest
      let u := (s.setOutlet o x).tellJobDone o j
      done (tellDrained ((forgotten { u with transit := { u.transit with
        totals := u.transit.totals ++ labelReports j.job } } o j).setOutlet o (leftOutlet x j true)) o x) := by
  rw [exec_deviceJobDone, execDeviceJobDone]
  simp only [hjobs, if_pos (And.intro htaken hstate)]
  obtain ⟨link, hlink⟩ := (onlyTold_tellJobDone (s.setOutlet o (doneOutlet (s.outletOf o) rest)) o j).frame
  have hout : ((s.setOutlet o (doneOutlet (s.outletOf o) rest)).tellJobDone o j).outletOf o =
      doneOutlet (s.outletOf o) rest := by
    rw [hlink]
    exact outletOf_setOutlet s o _
  rw [jobLeft_eq]
  exact congrArg (fun y => done (tellDrained ((forgotten _ o j).setOutlet o (leftOutlet y j true)) o y)) hout

/-- What "job done" leaves, but for the notices. -/
theorem jobDone_leaves (hjobs : (s.outletOf o).jobs = j :: rest) (htaken : j.taken = j.job.lines.length)
    (hstate : (s.outletOf o).state = .printing ∨ (s.outletOf o).state = .held) :
    ∃ t link, exec (.deviceJobDone o) s = .next t ∧ t = { (forgotten s o j).setOutlet o
      (leftOutlet (doneOutlet (s.outletOf o) rest) j true) with
        link := link
        transit := { s.transit with totals := s.transit.totals ++ labelReports j.job } } ∧
      ((s.outletOf o).mode = .each → ∀ p, j.job.origin = some p → s.hears p .jobDone →
        .jobDone o j.id j.job.kind j.job.copy ∈ (t.linkOf p).outbox) ∧
      ((s.outletOf o).mode = .drain → rest = [] → s.hears .office .outletDrained →
        .outletDrained o ((s.outletOf o).completed + 1) ∈ (t.linkOf .office).outbox) := by
  let x := doneOutlet (s.outletOf o) rest
  let u := (s.setOutlet o x).tellJobDone o j
  let v := (forgotten { u with transit := { u.transit with totals := u.transit.totals ++ labelReports j.job } } o j).setOutlet
    o (leftOutlet x j true)
  have htold : OnlyTold (s.setOutlet o x) u := onlyTold_tellJobDone _ o j
  have hvlink : v.link = u.link := forgotten_link _ o j
  have hdrained := (onlyTold_tellDrained v o x).trans (onlyTold_transmitAll _)
  have hexec : exec (.deviceJobDone o) s = .next (tellDrained v o x).transmitAll := execJobDone_eq hjobs htaken hstate
  obtain ⟨link, ht⟩ := hdrained.frame
  obtain ⟨link', hu⟩ := htold.frame
  have hv : v = { (forgotten s o j).setOutlet o (leftOutlet x j true) with
      link := link', transit := { s.transit with totals := s.transit.totals ++ labelReports j.job } } := by
    simp only [v, hu]
    unfold forgotten
    split_ifs
    · exact congrArg (fun outlets : PerOutlet Outlet => ({ s.labelGone o j.id with
        outlets := outlets, link := link',
        transit := { s.transit with totals := s.transit.totals ++ labelReports j.job } } : State)) (PerOutlet.set_set ..)
    · exact congrArg (fun outlets : PerOutlet Outlet => ({ s with
        outlets := outlets, link := link',
        transit := { s.transit with totals := s.transit.totals ++ labelReports j.job } } : State)) (PerOutlet.set_set ..)
  refine ⟨_, link, hexec, by rw [ht, hv], fun hmode p horigin hears => ?_, fun hmode hrest hears => ?_⟩
  · have hquiet : tellDrained v o x = v := if_neg fun h => by
      have : x.mode = .each := hmode
      rw [this] at h
      cases h.2
    have hnotify : u = (s.setOutlet o x).notify p (.jobDone o j.id j.job.kind j.job.copy) := by
      simp only [u, State.tellJobDone, outletOf_setOutlet, horigin]
      rw [show x.mode = .each from hmode]
    rw [transmitAll_outbox, hquiet, linkOf_congr hvlink, hnotify]
    exact notify_mem_outbox rfl hears
  · rw [transmitAll_outbox]
    refine tellDrained_mem hrest hmode ?_
    exact (hears_congr hvlink _ _).2 ((htold.hears _ _).2 hears)

end JobDone

/-! ### The obligation -/

theorem pump_printing {x : Outlet} {j : QueuedJob} {rest : List QueuedJob} (hjobs : x.jobs = j :: rest)
    (hstate : x.state = .printing) :
    let n := if x.lineQueue.length ≤ 2 then min (4 - x.lineQueue.length) (j.job.lines.length - j.moved) else 0
    let y := x.pump
    y.jobs = { j with moved := j.moved + n } :: rest ∧ y.lineQueue.length = x.lineQueue.length + n ∧
    (∀ k, k < x.lineQueue.length → y.lineQueue[k]? = x.lineQueue[k]?) ∧
    (∀ k, k < n → y.lineQueue[x.lineQueue.length + k]? = (j.job.lines[j.moved + k]?).map fun text =>
      ⟨text, decide (j.moved + k = 0), decide (j.moved + k + 1 = j.job.lines.length)⟩) ∧
    (x.transfer = true → y.transfer = true ∧ y.sent = x.sent) ∧
    (x.transfer = false → ∀ l, y.lineQueue.head? = some l → y.transfer = true ∧ y.sent = .line l :: x.sent) ∧
    y.state = x.state ∧ y.holdTimer = x.holdTimer ∧ y.labelCount = x.labelCount := by
  intro n y
  have hlength : (refillLines x j).length = n := by
    simp only [refillLines, n]
    split_ifs
    · exact nextLines_length j _
    · rfl
  have hrefill := refill_printing hjobs hstate
  rw [hlength] at hrefill
  obtain ⟨transfer, sent, hsend, -, -⟩ := send_frame x.refill
  have hy : y = { x.refill with transfer := transfer, sent := sent } := hsend
  obtain ⟨hbusy, hfree⟩ := send_printing (x := x.refill) (by rw [hrefill]; exact hstate)
  have hlines : y.lineQueue = x.lineQueue ++ refillLines x j := by rw [hy, hrefill]
  refine ⟨by rw [hy, hrefill], by rw [hlines, List.length_append, hlength], fun k hk => ?_, fun k hk => ?_,
    fun htransfer => ?_, fun htransfer l hl => ?_, by rw [hy, hrefill], by rw [hy, hrefill], by rw [hy, hrefill]⟩
  · rw [hlines, List.getElem?_append_left hk]
  · rw [hlines, List.getElem?_append_right (Nat.le_add_right _ _), Nat.add_sub_cancel_left]
    have hroom : x.lineQueue.length ≤ 2 := by
      by_contra hnot
      simp only [n, if_neg hnot] at hk
      exact Nat.not_lt_zero _ hk
    rw [refillLines, if_pos hroom]
    refine nextLines_getElem? j (lt_of_lt_of_le hk ?_)
    simp only [n, if_pos hroom]
    exact Nat.min_le_left _ _
  · have hkept := hbusy (by rw [hrefill]; exact htransfer)
    rw [hrefill] at hkept
    rw [show y = x.refill.send from rfl, hrefill]
    exact hkept
  · have hsent := hfree (by rw [hrefill]; exact htransfer) l (by rw [hlines] at hl; rw [hrefill]; exact hl)
    rw [hrefill] at hsent
    rw [show y = x.refill.send from rfl, hrefill]
    exact hsent

/-- Settles O50: the refill and the send of one outlet, then line taken and job done by what the leaving of a job
changes. -/
theorem lineFlow : Obligations.LineFlow := by
  refine ⟨fun x j rest hjobs hstate _ _ => pump_printing hjobs hstate, fun x h => ?idle,
    fun s o h => lineTaken_idle h, fun s o j rest hjobs htransfer hcancel => lineTaken_flows hjobs htransfer hcancel,
    fun s o j rest hjobs htransfer hcancel => ?cancel, fun s o j rest hjobs => ?jobDone⟩
  case idle =>
    rcases h with hstate | ⟨hjobs, hqueue⟩
    · exact pump_of_not_printing hstate
    · exact pump_of_empty hjobs hqueue
  case cancel =>
    obtain ⟨t, hexec, hdone, hdrained⟩ := lineTaken_cancels hjobs htransfer hcancel
    obtain ⟨hothers, htotals, htransit, hqueue⟩ := hdone.kept
    obtain ⟨hids, hcount, hsent⟩ := leftOutlet_frame (cancelledHead (s.outletOf o) rest) j true
    refine ⟨t, hexec, ?_, ?_, fun hoffline => ?_, ⟨fun hrest => ?_, fun hrest => ?_, hdrained⟩, hdone.txn, hothers,
      htotals, htransit, hqueue, hdone.replied⟩ <;> rw [hdone.outlet]
    · exact hids
    · exact hcount
    · refine hsent ?_
      simp only [cancelledHead, if_neg hoffline]
      exact List.mem_cons_self
    · exact leftOutlet_nil hrest j true
    · exact leftOutlet_cons hrest j true
  case jobDone =>
    refine ⟨fun h => jobDone_idle hjobs h, fun htaken hstate => ?_⟩
    obtain ⟨t, link, hexec, ht, heach, hdrain⟩ := jobDone_leaves hjobs htaken hstate
    obtain ⟨hids, hcount, -⟩ := leftOutlet_frame (doneOutlet (s.outletOf o) rest) j true
    have hout : t.outletOf o = leftOutlet (doneOutlet (s.outletOf o) rest) j true := by
      rw [ht]
      exact outletOf_setOutlet (forgotten s o j) o _
    obtain ⟨txn, htxn, -⟩ := forgotten_frame s o j
    have htransit := (congrArg State.transit ht).trans (congrArg (fun ms : List TotalsReport =>
      ({ s.transit with totals := s.transit.totals ++ ms } : Transit)) (labelReports_eq j.job))
    refine ⟨t, hexec, hout ▸ hids, fun hrest => ?_, fun hrest => ?_, hout ▸ hcount, by rw [ht]; rfl, fun q hq => ?_,
      by rw [ht, htxn]; rfl, by rw [ht, htxn]; rfl, by rw [ht, htxn]; rfl, htransit,
      fun hmode p hp hup hpriority => heach hmode p hp ⟨hup, hpriority⟩,
      fun hmode hrest hup hpriority => hdrain hmode hrest ⟨hup, hpriority⟩⟩
    · rw [hout, leftOutlet_nil hrest]
      refine ⟨?_, rfl⟩
      rcases hstate with h | h <;> simp [doneOutlet, h]
    · rw [hout, leftOutlet_cons hrest]
      obtain ⟨queue, jobs, transfer, sent, hpump, -, -⟩ := pump_frame { doneOutlet (s.outletOf o) rest with
        labelCount := if j.job.kind = .item ∨ j.job.kind = .total then (doneOutlet (s.outletOf o) rest).labelCount - 1
          else (doneOutlet (s.outletOf o) rest).labelCount }
      dsimp only
      rw [if_pos rfl, hpump]
      exact ⟨rfl, rfl⟩
    · rw [ht]
      refine (outletOf_setOutlet_of_ne (forgotten s o j) o _ hq).trans ?_
      rw [htxn]; rfl

end Sys2Proof.Machine.Printing
end

section
/-! PROOF. HOLD, the stall, paper and the present line of an outlet (O51, O52). -/

namespace Sys2Proof.Machine.Printing

open PlatterOps PluTable Books Ordered Calls

/-! ### The arms of `exec` -/

section Arms
variable (o : OutletId) (s : State)

theorem exec_holdAsserted : exec (.holdAsserted o) s = execHoldAsserted o s := rfl
theorem exec_holdReleased : exec (.holdReleased o) s = execHoldReleased o s := rfl
theorem exec_holdTimerExpiry : exec (.holdTimerExpiry o) s = execHoldTimerExpiry o s := rfl
theorem exec_paperOut : exec (.paperOut o) s = execPaperOut o s := rfl
theorem exec_paperReady : exec (.paperReady o) s = execPaperReady o s := rfl
theorem exec_outletPresentFalls : exec (.outletPresentFalls o) s = execOutletPresentFalls o s := rfl
theorem exec_outletPresentRises (hold : Bool) :
    exec (.outletPresentRises o hold) s = execOutletPresentRises o hold s := rfl
theorem exec_resumeOutlet (p : Port) (t : Tag) : exec (.resumeOutlet p t o) s = execResumeOutlet p t o s := rfl

end Arms

/-! ### The HOLD line and RESUME OUTLET (R161, R163) -/

section Hold
variable (s : State) (o : OutletId)

theorem holdAsserted_leaves : Leaves (.holdAsserted o) s (s.setOutlet o
    (if (s.outletOf o).state = .ready ∨ (s.outletOf o).state = .printing then { s.outletOf o with
        hold := true, state := .held
        holdTimer := some ((s.outletOf o).prescale * (s.outletOf o).limitCount * 100) }
      else { s.outletOf o with hold := true })) := leaves_of_done rfl

/-- What RESUME, the HOLD line's release, and the end of a paper or presence fault make of an outlet (R156). -/
def resumed (limit : Nat) (y : Outlet) : Outlet :=
  if y.paperOut then { y with state := .noPaper }
  else if y.hold then { y with state := .held, holdTimer := some limit }
  else if y.jobs = [] then { y with state := .ready }
  else { y with state := .printing }.pump

theorem resumed_eq (y : Outlet) : y.resume = resumed (y.prescale * y.limitCount * 100) y := resume_eq y

theorem holdReleased_leaves : Leaves (.holdReleased o) s (s.setOutlet o
    (if (s.outletOf o).state = .held then
        resumed ((s.outletOf o).prescale * (s.outletOf o).limitCount * 100)
          { s.outletOf o with hold := false, holdTimer := none }
      else { s.outletOf o with hold := false })) := by
  refine leaves_of_done ?_
  rw [exec_holdReleased, execHoldReleased, resumed_eq]

/-- OUTLET_STATE does not meet the taking of a request. -/
theorem tellOutletState_taken (before : OutletState) (p : Port) (t : Tag) (c : Instr) :
    (s.taken p t c).tellOutletState o before = (s.tellOutletState o before).taken p t c :=
  State.notifyAll_taken _ _ _ _ _ _

variable {s o}

theorem resumeOutlet_idle {p : Port} {t : Tag} (hw : Waiting s p t (.resumeOutlet p t o))
    (h : (s.outletOf o).state ≠ .stalled) :
    Answers (.resumeOutlet p t o) p t s .ok (.outletState (s.outletOf o).state) s := by
  refine answers_takeRequest hw (exec_resumeOutlet o s p t) rfl rfl ?_
  have htaken : (s.taken p t (.resumeOutlet p t o)).outletOf o = s.outletOf o := rfl
  simp only [htaken, if_neg h]
  rfl

theorem resumeOutlet_ends {p : Port} {t : Tag} (hw : Waiting s p t (.resumeOutlet p t o))
    (h : (s.outletOf o).state = .stalled) :
    let y := resumed ((s.outletOf o).prescale * (s.outletOf o).limitCount * 100) { s.outletOf o with holdTimer := none }
    Answers (.resumeOutlet p t o) p t s .ok (.outletState y.state) ((s.setOutlet o y).tellOutletState o .stalled) := by
  intro y
  have htold := onlyTold_tellOutletState (s.setOutlet o y) o .stalled
  obtain ⟨link, hlink⟩ := htold.frame
  refine answers_takeRequest hw (exec_resumeOutlet o s p t) (htold.slots p) (by rw [hlink]; rfl) ?_
  have htaken : (s.taken p t (.resumeOutlet p t o)).outletOf o = s.outletOf o := rfl
  have heffect : ((s.taken p t (.resumeOutlet p t o)).setOutlet o y).tellOutletState o .stalled =
      ((s.setOutlet o y).tellOutletState o .stalled).taken p t (.resumeOutlet p t o) :=
    tellOutletState_taken (s.setOutlet o y) o .stalled p t _
  have hstate : (((s.setOutlet o y).tellOutletState o .stalled).taken p t (.resumeOutlet p t o)).outletOf o = y := by
    rw [hlink]; exact outletOf_setOutlet s o y
  have hy : ({ s.outletOf o with holdTimer := none } : Outlet).resume = y := resumed_eq _
  simp only [htaken, if_pos h, hy, heffect, hstate]
  rfl

end Hold

/-! ### Lines abandoned (R162, R164, R165) -/

/-- The head job of a queue returned for reprint. -/
def returned : List QueuedJob → List QueuedJob
  | [] => []
  | j :: rest => { j with moved := 0, taken := 0, passes := j.passes + 1 } :: rest

section Abandoned
variable {s : State} {o : OutletId} {y : Outlet} {j : QueuedJob} {rest : List QueuedJob}

/-- With no cancel waiting the head job is returned for reprint. -/
theorem returnOrCancel_returns (h : ∀ k ∈ y.jobs.head?, k.cancelWaiting = false) :
    (s.setOutlet o y).returnOrCancel o = s.setOutlet o { y with jobs := returned y.jobs } := by
  unfold State.returnOrCancel
  rw [outletOf_setOutlet]
  cases hjobs : y.jobs with
  | nil =>
    have : ({ y with jobs := [] } : Outlet) = y := by rw [← hjobs]
    simp only [returned, this]
  | cons k ks =>
    have hk : k.cancelWaiting = false := h k (by rw [hjobs]; rfl)
    simp only [hk, Bool.false_eq_true, if_false, setOutlet_setOutlet, Outlet.returnHead, hjobs, returned]

/-- With a cancel waiting it ends; the state that was entered is not PRINTING, so no line follows. -/
theorem returnOrCancel_cancels (hjobs : y.jobs = j :: rest) (hcancel : j.cancelWaiting = true) (hstate : y.state ≠ .printing) :
    CancelCompleted s o j { cancelledHead y rest with
      labelCount := if j.job.kind = .item ∨ j.job.kind = .total then y.labelCount - 1 else y.labelCount
      completed := if rest = [] then 0 else y.completed } ((s.setOutlet o y).returnOrCancel o) := by
  have hcompletes : (s.setOutlet o y).returnOrCancel o = (s.setOutlet o y).completeCancel o j := by
    unfold State.returnOrCancel
    simp only [outletOf_setOutlet, hjobs, hcancel, if_true]
  rw [hcompletes]
  exact leftOutlet_of_not_printing (x := cancelledHead y rest) hstate j true ▸ cancelCompleted_completeCancel hjobs

/-- OUTLET_STATE reaches the office. -/
theorem tellOutletState_mem {t : State} {x : Outlet} {before : OutletState} (hx : t.outletOf o = x)
    (hears : t.hears .office .outletState) :
    .outletState o before x.state x.jobs.length (x.jobs.head?.map fun k => (k.id, k.passes)) x.stalls ∈
      ((t.tellOutletState o before).linkOf .office).outbox := by
  subst hx
  exact notifyAll_mem_outbox rfl List.mem_cons_self hears

/-- The end of a change that completed a cancel: OUTLET_STATE, with what stands now. -/
theorem CancelCompleted.ends {c : Instr} {t : State} {before : OutletState} (h : CancelCompleted s o j y t)
    (hexec : exec c s = done (t.tellOutletState o before)) :
    ∃ u, exec c s = .next u ∧ CancelCompleted s o j y u ∧ (s.hears .office .outletState →
      .outletState o before y.state y.jobs.length (y.jobs.head?.map fun k => (k.id, k.passes)) y.stalls ∈
        (u.linkOf .office).outbox) := by
  refine ⟨_, hexec, (h.told (onlyTold_tellOutletState _ _ _)).told (onlyTold_transmitAll _), fun hears => ?_⟩
  rw [transmitAll_outbox]
  exact tellOutletState_mem h.outlet ((h.hears _ _).2 hears)

end Abandoned

/-! ### The hold timer's expiry (R162) -/

section Stall
variable {s : State} {o : OutletId} {j : QueuedJob} {rest : List QueuedJob}

/-- An outlet as it enters STALLED, its stall not yet counted. -/
def stalledOutlet (x : Outlet) : Outlet :=
  { x with state := .stalled, holdTimer := none, lineQueue := [], transfer := false }

/-- The stalls, one more counted, up to 65,535. -/
def oneMoreStall (n : Nat) : Nat := if n < 65535 then n + 1 else n

theorem exec_stall (htimer : (s.outletOf o).holdTimer ≠ none) :
    exec (.holdTimerExpiry o) s =
      let u := (s.setOutlet o (stalledOutlet (s.outletOf o))).returnOrCancel o
      done ((u.setOutlet o { u.outletOf o with stalls := oneMoreStall (u.outletOf o).stalls }).tellOutletState o
        (s.outletOf o).state) := by
  rw [exec_holdTimerExpiry, execHoldTimerExpiry]
  dsimp only
  rw [if_neg htimer]
  rfl

theorem stall_returns (htimer : (s.outletOf o).holdTimer ≠ none)
    (h : ∀ k ∈ (s.outletOf o).jobs.head?, k.cancelWaiting = false) :
    Leaves (.holdTimerExpiry o) s ((s.setOutlet o { stalledOutlet (s.outletOf o) with
      stalls := oneMoreStall (s.outletOf o).stalls, jobs := returned (s.outletOf o).jobs }).tellOutletState o
        (s.outletOf o).state) := by
  refine leaves_of_done ((exec_stall htimer).trans ?_)
  rw [returnOrCancel_returns (y := stalledOutlet (s.outletOf o)) h]
  dsimp only
  rw [outletOf_setOutlet, setOutlet_setOutlet]
  rfl

theorem stall_cancels (htimer : (s.outletOf o).holdTimer ≠ none) (hjobs : (s.outletOf o).jobs = j :: rest)
    (hcancel : j.cancelWaiting = true) :
    let x := s.outletOf o
    let y := { cancelledHead (stalledOutlet x) rest with
      labelCount := if j.job.kind = .item ∨ j.job.kind = .total then x.labelCount - 1 else x.labelCount
      completed := if rest = [] then 0 else x.completed
      stalls := oneMoreStall x.stalls }
    ∃ t, exec (.holdTimerExpiry o) s = .next t ∧ CancelCompleted s o j y t ∧ (s.hears .office .outletState →
      .outletState o x.state .stalled rest.length (rest.head?.map fun k => (k.id, k.passes)) y.stalls ∈
        (t.linkOf .office).outbox) := by
  intro x y
  have hdone := returnOrCancel_cancels (s := s) (o := o) (y := stalledOutlet x) hjobs hcancel nofun
  have hexec := exec_stall htimer
  dsimp only at hexec
  rw [hdone.outlet] at hexec
  exact (hdone.set y).ends hexec

end Stall

/-- Settles O51: the HOLD line's edges, the expiry with and without a waiting cancel, and RESUME OUTLET. -/
theorem holdAndStall : Obligations.HoldAndStall := by
  refine ⟨fun s o => ⟨holdAsserted_leaves s o, holdReleased_leaves s o, ?_⟩, fun s o htimer => ?_, fun s o before => rfl⟩
  · intro p t i hw
    split_ifs with h
    · exact resumeOutlet_ends hw h
    · exact resumeOutlet_idle hw h
  · refine ⟨fun hjobs => ?_, fun j rest hjobs hcancel => ?_, fun j rest hjobs hcancel => ?_⟩
    · have hleaves := stall_returns htimer (by rw [hjobs]; nofun)
      have hnone : returned (s.outletOf o).jobs = (s.outletOf o).jobs := by rw [hjobs]; rfl
      rw [hnone] at hleaves
      exact hleaves
    · have hleaves := stall_returns htimer (by rw [hjobs]; rintro k ⟨⟩; exact hcancel)
      rw [hjobs] at hleaves
      exact hleaves
    · obtain ⟨t, hexec, hdone, htold⟩ := stall_cancels htimer hjobs hcancel
      obtain ⟨hothers, htotals, htransit, hqueue⟩ := hdone.kept
      refine ⟨t, hexec, ?_, ?_, ?_, ?_, ?_, ?_, ?_, ?_, hdone.txn, htotals, hqueue, hothers, htransit, hdone.replied, htold⟩ <;>
        rw [hdone.outlet] <;> rfl

/-! ### Paper and the present line (R164, R165) -/

section Faults
variable {s : State} {o : OutletId} {j : QueuedJob} {rest : List QueuedJob}

/-- An outlet as it enters NO_PAPER. -/
def paperlessOutlet (x : Outlet) : Outlet :=
  { x with lineQueue := [], transfer := false, holdTimer := none, paperOut := true, state := .noPaper }

/-- An outlet as it enters OFFLINE. -/
def absentOutlet (x : Outlet) : Outlet :=
  { x with lineQueue := [], transfer := false, holdTimer := none, present := false, state := .offline }

theorem exec_paperOut_of_working (hoffline : (s.outletOf o).state ≠ .offline) (hstalled : (s.outletOf o).state ≠ .stalled)
    (hpaper : (s.outletOf o).state ≠ .noPaper) : exec (.paperOut o) s =
      done (((s.setOutlet o (paperlessOutlet (s.outletOf o))).returnOrCancel o).tellOutletState o (s.outletOf o).state) := by
  rw [exec_paperOut, execPaperOut]
  cases h : (s.outletOf o).state <;> simp_all only [ne_eq, not_true_eq_false] <;> rfl

theorem exec_falls (hoffline : (s.outletOf o).state ≠ .offline) : exec (.outletPresentFalls o) s =
    done (((s.setOutlet o (absentOutlet (s.outletOf o))).returnOrCancel o).tellOutletState o (s.outletOf o).state) := by
  rw [exec_outletPresentFalls, execOutletPresentFalls]
  dsimp only
  rw [if_neg hoffline]
  rfl

/-- A fault at an outlet whose head job has a cancel waiting. -/
theorem fault_cancels {c : Instr} {y : Outlet} {before : OutletState} (hjobs : y.jobs = j :: rest)
    (hcancel : j.cancelWaiting = true) (hstate : y.state ≠ .printing)
    (hexec : exec c s = done (((s.setOutlet o y).returnOrCancel o).tellOutletState o before)) :
    let z := { cancelledHead y rest with
      labelCount := if j.job.kind = .item ∨ j.job.kind = .total then y.labelCount - 1 else y.labelCount
      completed := if rest = [] then 0 else y.completed }
    ∃ t, exec c s = .next t ∧ CancelCompleted s o j z t ∧ (s.hears .office .outletState →
      .outletState o before y.state rest.length (rest.head?.map fun k => (k.id, k.passes)) y.stalls ∈
        (t.linkOf .office).outbox) :=
  (returnOrCancel_cancels hjobs hcancel hstate).ends hexec

theorem paperReady_resumes (h : (s.outletOf o).state = .noPaper) : Leaves (.paperReady o) s ((s.setOutlet o
    (resumed ((s.outletOf o).prescale * (s.outletOf o).limitCount * 100) { s.outletOf o with paperOut := false })).tellOutletState
      o .noPaper) := by
  refine leaves_of_done ?_
  rw [exec_paperReady, execPaperReady]
  simp only [h, resumed_eq]

theorem rises_resumes (h : (s.outletOf o).state = .offline) (hold : Bool) :
    Leaves (.outletPresentRises o hold) s ((s.setOutlet o
      (resumed ((s.outletOf o).prescale * (s.outletOf o).limitCount * 100)
        { s.outletOf o with present := true, hold := hold, paperOut := false })).tellOutletState o .offline) := by
  refine leaves_of_done ?_
  rw [exec_outletPresentRises, execOutletPresentRises]
  simp only [h, if_true, resumed_eq]

end Faults

/-- Settles O52: what each event does in each state, with the one account of abandoned lines for paper out and the fall
of the present line. -/
theorem paperAndPresence : Obligations.PaperAndPresence := by
  intro s o x resume dropped uncancelled back
  have hback : back = returned x.jobs := rfl
  have hreturns {c : Instr} {y : Outlet} {before : OutletState} (hjobs : y.jobs = x.jobs) (h : uncancelled)
      (hexec : exec c s = done (((s.setOutlet o y).returnOrCancel o).tellOutletState o before)) :
      Leaves c s ((s.setOutlet o { y with jobs := back }).tellOutletState o before) := by
    rw [returnOrCancel_returns (hjobs ▸ h), hjobs, ← hback] at hexec
    exact leaves_of_done hexec
  refine ⟨fun hoffline => ⟨leaves_of_done ?outOffline, leaves_of_done ?readyOffline, leaves_of_done ?fallsOffline,
      rises_resumes hoffline⟩,
    fun hoffline => ⟨fun hfault => leaves_of_done ?outFaulty, fun hstalled hpaper huncancelled => ?outWorking,
      paperReady_resumes, fun hpaper => leaves_of_done ?readyWorking, fun huncancelled => ?falls,
      fun j rest hjobs hcancel => ?cancelled, fun hold => leaves_of_done ?rises⟩⟩
  case outOffline => rw [exec_paperOut, execPaperOut]; simp only [show (s.outletOf o).state = .offline from hoffline]
  case readyOffline => rw [exec_paperReady, execPaperReady]; simp only [show (s.outletOf o).state = .offline from hoffline]
  case fallsOffline => rw [exec_outletPresentFalls, execOutletPresentFalls]; exact if_pos hoffline
  case outFaulty =>
    rw [exec_paperOut, execPaperOut]
    dsimp only
    split
    · next h => exact absurd h hoffline
    · rfl
    · rfl
    all_goals
      next h => rcases hfault with hf | hf <;> exact absurd (h.symm.trans hf) nofun
  case outWorking =>
    exact hreturns (y := paperlessOutlet x) rfl huncancelled (exec_paperOut_of_working hoffline hstalled hpaper)
  case readyWorking =>
    rw [exec_paperReady, execPaperReady]
    cases h : (s.outletOf o).state <;> simp_all only [x, ne_eq, not_true_eq_false]
  case falls => exact hreturns (y := absentOutlet x) rfl huncancelled (exec_falls hoffline)
  case rises => rw [exec_outletPresentRises, execOutletPresentRises]; exact if_neg hoffline
  case cancelled =>
    intro ends
    refine ⟨fun hstalled hpaper => ?_, ?_⟩
    · obtain ⟨t, hexec, hdone, htold⟩ := fault_cancels (y := paperlessOutlet x) hjobs hcancel nofun
        (exec_paperOut_of_working hoffline hstalled hpaper)
      obtain ⟨hothers, htotals, htransit, hqueue⟩ := hdone.kept
      refine ⟨t, hexec, ?_, hdone.txn, hothers, htotals, hqueue, htransit, hdone.replied, htold⟩
      rw [hdone.outlet]
      exact ⟨rfl, rfl, rfl, rfl, rfl, rfl, rfl, rfl, rfl⟩
    · obtain ⟨t, hexec, hdone, htold⟩ := fault_cancels (y := absentOutlet x) hjobs hcancel nofun (exec_falls hoffline)
      obtain ⟨hothers, htotals, htransit, hqueue⟩ := hdone.kept
      refine ⟨t, hexec, ?_, hdone.txn, hothers, htotals, hqueue, htransit, hdone.replied, htold⟩
      rw [hdone.outlet]
      exact ⟨rfl, rfl, rfl, rfl, rfl, rfl, rfl, rfl, rfl⟩

end Sys2Proof.Machine.Printing
end

section
/-! PROOF. CANCEL JOB and the cancel order (O53). -/

namespace Sys2Proof.Machine.Printing

open PlatterOps PluTable Books Ordered Calls

/-! ### A cancel by where the job stands (R167) -/

section Cancel
variable {s : State} {o : OutletId} {id : Nat} {r : Option Requester}

/-- The outlet without a job that stood behind the head. -/
def withoutWaiting (x : Outlet) (head j : QueuedJob) (others : List QueuedJob) : Outlet := { x with
  jobs := head :: others
  labelCount := if j.job.kind = .item ∨ j.job.kind = .total then x.labelCount - 1 else x.labelCount }

theorem cancelQueued_waiting {head j : QueuedJob} {before after : List QueuedJob} (hx : (s.outletOf o).Lawful)
    (hjobs : (s.outletOf o).jobs = head :: (before ++ j :: after)) (hid : j.id = id) : s.cancelQueued o id r =
      ((forgotten s o j).setOutlet o (withoutWaiting (s.outletOf o) head j (before ++ after))).replyTo r .ok .empty := by
  subst hid
  have hids := hx.ids
  rw [hjobs, List.map_cons, List.map_append, List.map_cons] at hids
  obtain ⟨hhead, hrest⟩ := List.nodup_cons.1 hids
  have hne : head.id ≠ j.id := fun he => hhead (by simp [he])
  have hbefore : ∀ k ∈ before, decide (k.id = j.id) = false := fun k hk =>
    decide_eq_false ((List.nodup_append.1 hrest).2.2 k.id (List.mem_map_of_mem hk) j.id List.mem_cons_self)
  have htake : takeFirst (fun k : QueuedJob => k.id = j.id) (before ++ j :: after) = some (j, before ++ after) :=
    takeFirst_of_split hbefore (by simp)
  unfold State.cancelQueued
  simp only [hjobs, if_neg hne, htake]
  let y : Outlet := { s.outletOf o with jobs := head :: (before ++ after) }
  have hleft : leftOutlet y j false = withoutWaiting (s.outletOf o) head j (before ++ after) :=
    leftOutlet_cons (x := y) (List.cons_ne_nil _ _) j false
  have hquiet (v : State) : tellDrained v o y = v := if_neg fun h => List.cons_ne_nil _ _ h.1
  rw [jobLeft_set_eq, hleft, hquiet]

/-- The outlet once its head job has been cancelled with no line in transfer, before the next follows. -/
def endedHead (x : Outlet) (j : QueuedJob) (rest : List QueuedJob) : Outlet := { x with
  lineQueue := [], transfer := false, jobs := rest
  sent := if j.started ∧ x.state ≠ .offline then .abortJob :: x.sent else x.sent }

/-- The result of a cancel of the head job. -/
def headResult (j : QueuedJob) : Result := if j.started then .cancelled else .ok

theorem cancelQueued_head {j : QueuedJob} {rest : List QueuedJob} (hjobs : (s.outletOf o).jobs = j :: rest)
    (hid : j.id = id) (htransfer : (s.outletOf o).transfer = false) :
    let x := endedHead (s.outletOf o) j rest
    s.cancelQueued o id r = (tellDrained ((forgotten s o j).setOutlet o (leftOutlet x j true)) o x).replyTo r
      (headResult j) .empty := by
  intro x
  have hnot : ¬(s.outletOf o).transfer = true := by simp [htransfer]
  unfold State.cancelQueued headResult
  simp only [hjobs, if_pos hid, if_neg hnot]
  by_cases hstarted : j.started = true
  · have habort : { (s.outletOf o).abandonLines.abort with jobs := (s.outletOf o).abandonLines.abort.jobs.drop 1 } = x := by
      simp only [x, endedHead, Outlet.abandonLines, Outlet.abort, hstarted, true_and]
      by_cases hoffline : (s.outletOf o).state = .offline <;> simp [hoffline, hjobs]
    rw [if_pos hstarted, if_pos hstarted, dropHead_set_eq, habort]
  · have habandon : { (s.outletOf o).abandonLines with jobs := (s.outletOf o).abandonLines.jobs.drop 1 } = x := by
      simp [x, endedHead, Outlet.abandonLines, hjobs, hstarted]
    rw [if_neg hstarted, if_neg hstarted, dropHead_set_eq, habandon]

theorem cancelQueued_inTransfer {j : QueuedJob} {rest : List QueuedJob} (hjobs : (s.outletOf o).jobs = j :: rest)
    (hid : j.id = id) (htransfer : (s.outletOf o).transfer = true) : s.cancelQueued o id r =
      s.setOutlet o { s.outletOf o with jobs := { j with cancelWaiting := true, cancels := j.cancels ++ r.toList } :: rest } := by
  unfold State.cancelQueued
  simp only [hjobs, if_pos hid, htransfer, if_true]

end Cancel

/-- What the cancel of a head job with no line in transfer leaves of its outlet. -/
theorem endedHead_left (x : Outlet) (j : QueuedJob) (rest : List QueuedJob) :
    let y := leftOutlet (endedHead x j rest) j true
    y.jobs.map (·.id) = rest.map (·.id) ∧
    y.labelCount = (if j.job.kind = .item ∨ j.job.kind = .total then x.labelCount - 1 else x.labelCount) ∧
    (rest = [] → y.state = (if x.state = .printing then .ready else x.state) ∧ y.lineQueue = []) ∧
    (j.started = true → x.state ≠ .offline → DeviceSignal.abortJob ∈ y.sent) ∧
    (j.started = false → rest = [] → y.sent = x.sent) := by
  obtain ⟨hids, hcount, hsent⟩ := leftOutlet_frame (endedHead x j rest) j true
  refine ⟨hids, hcount, fun hrest => ?_, fun hstarted hoffline => hsent ?_, fun hstarted hrest => ?_⟩
  · rw [leftOutlet_nil hrest]
    exact ⟨rfl, rfl⟩
  · rw [endedHead, if_pos ⟨hstarted, hoffline⟩]
    exact List.mem_cons_self
  · rw [leftOutlet_nil hrest]
    exact if_neg fun h => by rw [hstarted] at h; cases h.1

/-- What a state that differs from an outlet's change by its links alone keeps. -/
theorem onlyLinks_kept {s t : State} {o : OutletId} {j : QueuedJob} {y : Outlet}
    (h : ∃ link, t = { (forgotten s o j).setOutlet o y with link := link }) :
    t.outletOf o = y ∧ t.txn = (if j.job.kind = .item then s.labelGone o j.id else s).txn ∧
      (∀ q, q ≠ o → t.outletOf q = s.outletOf q) ∧ t.totals = s.totals ∧ t.transit = s.transit ∧ t.queue = s.queue := by
  obtain ⟨link, rfl⟩ := h
  obtain ⟨txn, htxn, -⟩ := forgotten_frame s o j
  refine ⟨outletOf_setOutlet (forgotten s o j) o y, rfl, fun q hq => ?_, ?_, ?_, ?_⟩
  · refine (outletOf_setOutlet_of_ne (forgotten s o j) o y hq).trans ?_
    rw [htxn]; rfl
  all_goals rw [htxn]; rfl

/-! ### CANCEL JOB -/

section Request
variable {s : State} {p : Port} {tag : Tag} {o : OutletId} {id : Nat}

theorem exec_cancelJob (p : Port) (tag : Tag) (o : OutletId) (id : Nat) (s : State) :
    exec (.cancelJob p tag o id) s = execCancelJob p tag o id s := rfl

theorem cancelJob_unknown (hw : Waiting s p tag (.cancelJob p tag o id)) (h : ∀ j ∈ (s.outletOf o).jobs, j.id ≠ id) :
    Refuses (.cancelJob p tag o id) p tag s .noSuch := by
  have hnone : (s.outletOf o).jobs.any (fun j => j.id = id) = false := by simpa using h
  have htaken : ((s.taken p tag (.cancelJob p tag o id)).outletOf o).jobs.any (fun j => j.id = id) = false := hnone
  exact refuses_takeRequest hw (exec_cancelJob p tag o id s) (by simp only [htaken, Bool.false_eq_true, if_false])

/-- A job in the queue is cancelled where it stands. -/
theorem exec_cancelJob_of_mem {j : QueuedJob} (hw : Waiting s p tag (.cancelJob p tag o id))
    (hj : j ∈ (s.outletOf o).jobs) (hid : j.id = id) : exec (.cancelJob p tag o id) s =
      .next ((s.taken p tag (.cancelJob p tag o id)).cancelQueued o id
        (some ⟨p, tag, requestCode (.cancelJob p tag o id)⟩)).transmitAll := by
  have hany : ((s.taken p tag (.cancelJob p tag o id)).outletOf o).jobs.any (fun j => j.id = id) = true :=
    List.any_eq_true.2 ⟨j, hj, by simpa using hid⟩
  rw [exec_cancelJob, execCancelJob, takeRequest_of_awaits hw.2]
  simp only [hany, if_true]

theorem cancelJob_waiting {head j : QueuedJob} {before after : List QueuedJob} (hw : Waiting s p tag (.cancelJob p tag o id))
    (hx : (s.outletOf o).Lawful) (hjobs : (s.outletOf o).jobs = head :: (before ++ j :: after)) (hid : j.id = id) :
    Answers (.cancelJob p tag o id) p tag s .ok .empty
      ((forgotten s o j).setOutlet o (withoutWaiting (s.outletOf o) head j (before ++ after))) := by
  have hj : j ∈ (s.outletOf o).jobs := by simp [hjobs]
  refine answers_of hw.1 hw.2 ?_ (by rw [State.setOutlet, forgotten_transit]) ?_
  · exact congrArg Link.slots (linkOf_congr (forgotten_link s o j) p)
  · let u := s.taken p tag (.cancelJob p tag o id)
    rw [exec_cancelJob_of_mem hw hj hid, cancelQueued_waiting (s := u) hx hjobs hid]
    unfold forgotten
    split_ifs <;> rfl

theorem cancelJob_inTransfer {j : QueuedJob} {rest : List QueuedJob} (hw : Waiting s p tag (.cancelJob p tag o id))
    (hjobs : (s.outletOf o).jobs = j :: rest) (hid : j.id = id) (htransfer : (s.outletOf o).transfer = true) :
    Defers (.cancelJob p tag o id) p tag s (s.setOutlet o { s.outletOf o with jobs := { j with
      cancelWaiting := true, cancels := j.cancels ++ [⟨p, tag, requestCode (.cancelJob p tag o id)⟩] } :: rest }) := by
  have hj : j ∈ (s.outletOf o).jobs := by simp [hjobs]
  refine defers_of hw.1 hw.2 rfl ?_
  rw [exec_cancelJob_of_mem hw hj hid, cancelQueued_inTransfer
    (s := s.taken p tag (.cancelJob p tag o id)) hjobs hid htransfer]
  rfl

theorem cancelJob_head {j : QueuedJob} {rest : List QueuedJob} (hw : Waiting s p tag (.cancelJob p tag o id))
    (hjobs : (s.outletOf o).jobs = j :: rest) (hid : j.id = id) (htransfer : (s.outletOf o).transfer = false) :
    ∃ t, exec (.cancelJob p tag o id) s = .next t ∧
      Replied t ⟨p, tag, requestCode (.cancelJob p tag o id)⟩ (headResult j) .empty ∧
      ∃ link, t = { (forgotten s o j).setOutlet o (leftOutlet (endedHead (s.outletOf o) j rest) j true) with link := link } := by
  have hj : j ∈ (s.outletOf o).jobs := by simp [hjobs]
  let x := endedHead (s.outletOf o) j rest
  let u := s.taken p tag (.cancelJob p tag o id)
  let v := tellDrained ((forgotten u o j).setOutlet o (leftOutlet x j true)) o x
  have hexec : exec (.cancelJob p tag o id) s =
      .next (v.reply ⟨p, tag, requestCode (.cancelJob p tag o id)⟩ (headResult j) .empty).transmitAll := by
    rw [exec_cancelJob_of_mem hw hj hid, cancelQueued_head (s := u) hjobs hid htransfer]
    rfl
  have htold : OnlyTold _ v := onlyTold_tellDrained _ o x
  obtain ⟨link, hv⟩ := htold.frame
  refine ⟨_, hexec, replied_of_waits _ _ ?_ ?_, ?_⟩
  · have hlink : ((forgotten u o j).setOutlet o (leftOutlet x j true)).linkOf p = u.linkOf p :=
      linkOf_congr (forgotten_link u o j) p
    rw [htold.slots, hlink]
    exact taken_waits hw
  · have htransit : v.transit = s.transit := by rw [hv]; exact forgotten_transit u o j
    rw [htransit]
    exact State.awaits_uncancelled hw.2
  · obtain ⟨link', hreply⟩ := (onlyAnswered_reply v ⟨p, tag, requestCode (.cancelJob p tag o id)⟩ (headResult j) .empty).frame
    obtain ⟨link'', hsent⟩ := (onlyTold_transmitAll (v.reply ⟨p, tag, requestCode (.cancelJob p tag o id)⟩ (headResult j)
      .empty)).frame
    refine ⟨link'', hsent.trans ?_⟩
    rw [hreply, hv]
    unfold forgotten
    split_ifs <;> rfl

end Request

/-! ### The cancel order -/

section Order
variable {s : State} {o : OutletId} {id : Nat}

theorem cancelOrder_none (h : ∀ j ∈ (s.outletOf o).jobs, j.id ≠ id ∨ j.job.kind ≠ .item) : s.cancelOrder o id = s := by
  have hnone : (s.outletOf o).jobs.any (fun j => j.id = id && j.job.kind = .item) = false :=
    List.any_eq_false.2 fun j hj => by rcases h j hj with h | h <;> simp [h]
  rw [State.cancelOrder, hnone]
  rfl

theorem cancelOrder_of_mem {j : QueuedJob} (hj : j ∈ (s.outletOf o).jobs) (hid : j.id = id) (hkind : j.job.kind = .item) :
    s.cancelOrder o id = s.cancelQueued o id none := by
  have hany : (s.outletOf o).jobs.any (fun j => j.id = id && j.job.kind = .item) = true :=
    List.any_eq_true.2 ⟨j, hj, by simp [hid, hkind]⟩
  rw [State.cancelOrder, hany]
  rfl

end Order

/-- Settles O53: the request and the order, each by where the job stands. -/
theorem cancelJob : Obligations.CancelJob := by
  constructor
  · intro s p tag o id i hw hx x label
    refine ⟨fun h => cancelJob_unknown hw h, fun head before j after hjobs hid => ?_,
      fun j rest hjobs hid htransfer => cancelJob_inTransfer hw hjobs hid htransfer,
      fun j rest hjobs hid htransfer => ?_⟩
    · intro u
      have hanswers := cancelJob_waiting hw hx hjobs hid
      rw [← forgotten_setOutlet, forgotten, hid] at hanswers
      exact hanswers
    · obtain ⟨t, hexec, hreplied, hframe⟩ := cancelJob_head hw hjobs hid htransfer
      obtain ⟨hout, htxn, hothers, htotals, htransit, hqueue⟩ := onlyLinks_kept hframe
      obtain ⟨hids, hcount, hempty, habort, -⟩ := endedHead_left x j rest
      exact ⟨t, hexec, hreplied, hout ▸ hids, hout ▸ hcount, hout ▸ hempty, hout ▸ habort, hid ▸ htxn, hothers, htotals,
        htransit, hqueue⟩
  · intro s o id hx x u
    refine ⟨cancelOrder_none, fun head before j after hjobs hid hkind => ?_, fun j rest hjobs hid hkind => ?_⟩
    · have hj : j ∈ (s.outletOf o).jobs := by rw [show (s.outletOf o).jobs = _ from hjobs]; simp
      have hcancel : u = _ := (cancelOrder_of_mem hj hid hkind).trans (cancelQueued_waiting hx hjobs hid)
      rw [hcancel, ← forgotten_setOutlet, forgotten, if_pos hkind, hid, withoutWaiting, if_pos (.inl hkind)]
      rfl
    · have hj : j ∈ (s.outletOf o).jobs := by rw [show (s.outletOf o).jobs = _ from hjobs]; simp
      refine ⟨fun htransfer => ?_, fun htransfer => ?_⟩
      · have hcancel : u = _ := (cancelOrder_of_mem hj hid hkind).trans (cancelQueued_inTransfer hjobs hid htransfer)
        rw [hcancel, Option.toList_none, List.append_nil]
      · have hcancel : u = _ := (cancelOrder_of_mem hj hid hkind).trans (cancelQueued_head hjobs hid htransfer)
        have htold : OnlyTold ((forgotten s o j).setOutlet o (leftOutlet (endedHead x j rest) j true)) u := by
          rw [hcancel]
          exact onlyTold_tellDrained _ _ _
        obtain ⟨hout, htxn, hothers, htotals, htransit, hqueue⟩ := onlyLinks_kept htold.frame
        obtain ⟨hids, hcount, hempty, habort, hquiet⟩ := endedHead_left x j rest
        rw [if_pos (.inl hkind)] at hcount
        rw [if_pos hkind, hid] at htxn
        refine ⟨hout ▸ hids, hout ▸ hcount, hout ▸ hempty, hout ▸ habort, hout ▸ hquiet, htxn, hothers, fun q => ?_, htotals,
          htransit, hqueue⟩
        have hlink := linkOf_congr (forgotten_link s o j) q
        exact ⟨(htold.slots q).trans (congrArg Link.slots hlink), (htold.replies q).trans (congrArg Link.replies hlink)⟩

end Sys2Proof.Machine.Printing
end

section
/-! PROOF. SKIP, the discard order, and REINSTATE (O48). -/

namespace Sys2Proof.Machine.Clerking

open PlatterOps PluTable Books Ordered Calls Tickets

/-! ### SKIP (R145) -/

section Skip
variable {s : State} {p : Port} {t : Tag} {clerk : Nat} {c : ClerkNo}

theorem exec_skip (p : Port) (t : Tag) (clerk : Nat) (s : State) : exec (.skip p t clerk) s = execSkip p t clerk s := rfl

theorem skip_refuses {e : Result} (hw : Waiting s p t (.skip p t clerk)) (h : s.skipTests clerk = .error e) :
    Refuses (.skip p t clerk) p t s e := by
  have htaken : (s.taken p t (.skip p t clerk)).skipTests clerk = .error e := h
  exact refuses_takeRequest hw (exec_skip p t clerk s) (by rw [htaken])

theorem skip_defers {y : Txn} {x : CalledTicket} (hw : Waiting s p t (.skip p t clerk))
    (h : s.skipTests clerk = .ok (y, x)) : Defers (.skip p t clerk) p t s { s with transit := { s.transit with
      discards := s.transit.discards ++ [⟨x.ticket.id, y.number, false, some ⟨p, t, requestCode (.skip p t clerk)⟩⟩] } } := by
  have htaken : (s.taken p t (.skip p t clerk)).skipTests clerk = .ok (y, x) := h
  refine defers_of hw.1 hw.2 rfl ?_
  rw [exec_skip, execSkip, takeRequest_of_awaits hw.2, htaken]
  rfl

/-- SKIP is for the CALLED ticket of the clerk's OPEN transaction, with no line in it. -/
theorem skipTests_named (hc : clerk = c.val + 1) : s.skipTests clerk = (do
    let y ← orRefuse (s.openOf c) .noSuch
    let x ← orRefuse (y.ticket.bind s.findCalled) .noSuch
    require y.lines.isEmpty .hasLines
    return (y, x)) := by
  unfold State.skipTests State.boundLookup
  rw [namedClerk_of_val hc, ok_bind]
  cases s.openOf c with
  | none => rfl
  | some y =>
    cases hk : y.ticket with
    | none => simp [orRefuse, hk]
    | some k => cases hx : s.findCalled k <;> simp [orRefuse, hk, hx]

end Skip

/-! ### The discard (R127, R144) -/

section Discard
variable {s : State}

/-- A ticket joins the missed list: the seven last stay, the ticket behind them, and the others leave ABANDONED. -/
theorem missTicket_eq (t : Ticket) (hroom : s.queue.missed.length ≤ 8) : s.missTicket t = { s with
    queue := { s.queue with missed := s.queue.missed.drop (s.queue.missed.length - 7) ++ [t] }
    totals := ((s.queue.missed.take (s.queue.missed.length - 7)).foldl
      (fun (a : Totals) (z : Ticket) => a.postTicket z.id.cls .abandoned) s.totals).postTicket t.id.cls .missed } := by
  unfold State.missTicket
  dsimp only
  have hplaces : Config.missedPlaces = 8 := rfl
  by_cases h : s.queue.missed.length < Config.missedPlaces
  · have hnone : s.queue.missed.length - 7 = 0 := by omega
    rw [if_pos h, hnone]
    rfl
  · have hone : s.queue.missed.length - 7 = 1 := by omega
    rw [if_neg h, hone]
    cases hm : s.queue.missed with
    | nil => simp [hm, hplaces] at h
    | cons old rest => rfl

/-- The state with a discarded transaction gone and its ticket MISSED. -/
def discarded (s : State) (y : Txn) (k : TicketId) (t : Ticket) : State :=
  { s.setClerk y.clerk { s.clerk y.clerk with openTxn := none } with
    txn := { (s.setClerk y.clerk { s.clerk y.clerk with openTxn := none }).txn with
      held := s.txn.held.filter fun z => z.number ≠ y.number
      parked := s.txn.parked.filter fun n => n ≠ y.number }
    queue := { s.queue with
      called := s.queue.called.filter fun z => z.ticket.id ≠ k
      missed := s.queue.missed.drop (s.queue.missed.length - 7) ++ [t] }
    totals := ((s.queue.missed.take (s.queue.missed.length - 7)).foldl
      (fun (a : Totals) (z : Ticket) => a.postTicket z.id.cls .abandoned) s.totals).postTicket t.id.cls .missed }

theorem removeTxn_skipTicket {y : Txn} {x : CalledTicket} {k : TicketId} (hx : s.findCalled k = some x)
    (hopen : (s.clerk y.clerk).openTxn = some y.number) (hroom : s.queue.missed.length ≤ 8) :
    (s.removeTxn y).skipTicket x = discarded s y k x.ticket := by
  have hmissed : ((s.removeTxn y).dropCalled k).queue.missed = s.queue.missed := by
    rw [removeTxn_of_open s hopen]; rfl
  rw [State.skipTicket, findCalled_id hx, missTicket_eq _ (hmissed ▸ hroom), hmissed, removeTxn_of_open s hopen]
  rfl

theorem removeTxn_findCalled (y : Txn) (k : TicketId) : (s.removeTxn y).findCalled k = s.findCalled k := by
  by_cases h : (s.clerk y.clerk).openTxn = some y.number
  · rw [removeTxn_of_open s h]; rfl
  · rw [removeTxn_of_not_open s h]; rfl

theorem exec_discard (k : TicketId) (s : State) : exec (.discard k) s = execDiscard k s := rfl

/-- The order at the front is taken off the list, and decided. -/
theorem exec_discard_head {m : DiscardOrder} {rest : List DiscardOrder} (h : s.transit.discards = m :: rest) :
    let v := { s with transit := { s.transit with discards := rest } }
    (∀ e, v.discard m.txn m.ticket = .error e → exec (.discard m.ticket) s = done (v.replyTo m.replyTo e .empty)) ∧
      ∀ w, v.discard m.txn m.ticket = .ok w → exec (.discard m.ticket) s = done (w.afterDiscard m) := by
  intro v
  have htake : takeFirst (fun n : DiscardOrder => n.ticket = m.ticket) s.transit.discards = some (m, rest) := by
    rw [h]
    exact takeFirst_of_head (by simp)
  constructor
  · intro e he
    rw [exec_discard, execDiscard, htake]
    dsimp only
    rw [show ({ s with transit := { s.transit with discards := rest } } : State).discard m.txn m.ticket = _ from he]
  · intro w hw
    rw [exec_discard, execDiscard, htake]
    dsimp only
    rw [show ({ s with transit := { s.transit with discards := rest } } : State).discard m.txn m.ticket = _ from hw]

/-- The discard's tests (R127). -/
theorem discard_eq (n : Nat) (k : TicketId) : s.discard n k =
    match s.findTxn n with
    | none => .error .noSuch
    | some y =>
      if y.parkedAt ≠ none ∨ y.ticket ≠ some k then .error .noSuch
      else if y.lines ≠ [] then .error .hasLines
      else .ok (s.removeTxn y) := by
  unfold State.discard
  cases s.findTxn n with
  | none => rfl
  | some y =>
    by_cases hparked : y.parkedAt = none <;> by_cases hticket : y.ticket = some k <;> by_cases hlines : y.lines = [] <;>
      simp [orRefuse, require, hparked, hticket, hlines]

end Discard

/-! ### REINSTATE (R145) -/

section Reinstate
variable {s : State} {p : Port} {t : Tag} {k : TicketId}

/-- A ticket with the last turn of reinstatement stands after the reinstated ones and before all others. -/
theorem insertTicket_newest {x : Ticket} {turn : Nat} {l : List Ticket} (hx : x.reinstated = some turn)
    (horder : l.Pairwise fun a b => a.precedes b = true) (hturn : ∀ y ∈ l, ∀ n, y.reinstated = some n → n < turn) :
    insertTicket x l = (l.filter fun y => y.reinstated.isSome) ++ x :: l.filter fun y => y.reinstated.isNone := by
  induction l with
  | nil => rfl
  | cons y l ih =>
    obtain ⟨hy, hl⟩ := List.pairwise_cons.1 horder
    have hrest := ih hl fun z hz => hturn z (List.mem_cons_of_mem y hz)
    unfold insertTicket
    cases hr : y.reinstated with
    | some n =>
      have hbehind : x.precedes y = false := by
        have := hturn y List.mem_cons_self n hr
        simp [Ticket.precedes, hx, hr]
        omega
      rw [hbehind, hrest]
      simp [hr]
    | none =>
      have hahead : x.precedes y = true := by simp [Ticket.precedes, hx, hr]
      -- What follows a ticket never reinstated was never reinstated either.
      have hnever (z : Ticket) (hz : z ∈ l) : z.reinstated = none := by
        have hprecedes := hy z hz
        cases hz' : z.reinstated with
        | none => rfl
        | some n => simp [Ticket.precedes, hr, hz'] at hprecedes
      have hsome : l.filter (fun z => z.reinstated.isSome) = [] :=
        List.filter_eq_nil_iff.2 fun z hz => by simp [hnever z hz]
      have hnone : l.filter (fun z => z.reinstated.isNone) = l :=
        List.filter_eq_self.2 fun z hz => by simp [hnever z hz]
      rw [hahead]
      simp [hr, hsome, hnone]

theorem placeOf_append {x : Ticket} {before after : List Ticket} (hbefore : ∀ y ∈ before, y.id ≠ x.id) :
    placeOf x.id (before ++ x :: after) = before.length + 1 := by
  have hnone : before.findIdx (fun y => y.id = x.id) = before.length := List.findIdx_eq_length.2 (by simpa using hbefore)
  rw [placeOf, List.findIdx_append, hnone, if_neg (Nat.lt_irrefl _), List.findIdx_cons]
  simp

theorem officeHears_taken (ns : List Notice) (s : State) (p : Port) (t : Tag) (c : Instr) :
    officeHears ns (s.taken p t c) = (officeHears ns s).taken p t c := by
  induction ns generalizing s with
  | nil => rfl
  | cons n ns ih => rw [officeHears_cons, officeHears_cons, State.notify_taken, ih]

/-- What the watches and QUEUE_CHANGE make of a state, whoever has been taken. -/
theorem queueTold_frame (s : State) (k : TicketClass) (n : Nat) (cause : QueueCause) :
    let v := (s.queueWatches k n).queueChange k cause
    (∀ p t c, ((s.taken p t c).queueWatches k n).queueChange k cause = v.taken p t c) ∧
      (∀ q, (v.linkOf q).slots = (s.linkOf q).slots) ∧ v.transit = s.transit := by
  obtain ⟨ns, watches, heffect⟩ := queueWatches_effect s.totals k n
  dsimp only at heffect
  refine ⟨fun p t c => ?_, fun q => ?_, ?_⟩
  · have htaken : (s.taken p t c).queueWatches k n = (s.queueWatches k n).taken p t c := by
      rw [heffect s rfl, heffect (s.taken p t c) rfl, ← officeHears_taken]
      rfl
    rw [htaken]
    exact State.notifyAll_taken _ _ _ _ _ _
  · rw [State.queueChange, State.notifyAll_slots, heffect s rfl, officeHears_slots]
    rfl
  · obtain ⟨link, hlink⟩ := notifyAll_frame (s.queueWatches k n) ((s.queueWatches k n).classPorts k)
      (.queueChange k cause ((s.queueWatches k n).classOf k).waiting.length
        (((s.queueWatches k n).classOf k).waiting.head?.map (·.id.number)))
    rw [State.queueChange, hlink, heffect s rfl, officeHears_frame]

theorem exec_reinstate (p : Port) (t : Tag) (k : TicketId) (s : State) :
    exec (.reinstate p t k) s = execReinstate p t k s := rfl

theorem reinstate_refuses {e : Result} (hw : Waiting s p t (.reinstate p t k)) (h : s.reinstateTests k = .error e) :
    Refuses (.reinstate p t k) p t s e := by
  have htaken : (s.taken p t (.reinstate p t k)).reinstateTests k = .error e := h
  exact refuses_takeRequest hw (exec_reinstate p t k s) (by rw [htaken])

theorem reinstateTests_of_range (hk : 1 ≤ k.number ∧ k.number ≤ 99) :
    s.reinstateTests k = orRefuse (takeFirst (fun x : Ticket => x.id = k) s.queue.missed) .noSuch := by
  have hrange : (decide (1 ≤ k.number) && decide (k.number ≤ 99)) = true := by simp [hk]
  rw [State.reinstateTests, hrange, require_true, ok_bind]

/-- The state with a MISSED ticket back in its list. -/
def reinstated (s : State) (x : Ticket) (missed : List Ticket) : State :=
  let c := s.classOf x.id.cls
  { s with queue := { s.queue with
    classes := s.queue.classes.set x.id.cls { c with
      waiting := (c.waiting.filter fun y => y.reinstated.isSome) ++
        { x with reinstated := some s.queue.reinstateTurn } :: c.waiting.filter fun y => y.reinstated.isNone }
    missed := missed
    reinstateTurn := s.queue.reinstateTurn + 1 } }

theorem reinstated_classOf (s : State) (x : Ticket) (missed : List Ticket) :
    (reinstated s x missed).classOf x.id.cls = { s.classOf x.id.cls with
      waiting := ((s.classOf x.id.cls).waiting.filter fun y => y.reinstated.isSome) ++
        { x with reinstated := some s.queue.reinstateTurn } ::
          (s.classOf x.id.cls).waiting.filter fun y => y.reinstated.isNone } := PerClass.get_set_same ..

/-- Its ticket put at its place, a reinstatement reaches it. -/
theorem enlist_reinstated {x : Ticket} {missed : List Ticket} (hlaw : s.TicketLaw) :
    (s.mapQueue fun q => { q with missed := missed, reinstateTurn := q.reinstateTurn + 1 }).enlist
      { x with reinstated := some s.queue.reinstateTurn } = reinstated s x missed := by
  have hinsert : insertTicket { x with reinstated := some s.queue.reinstateTurn } (s.classOf x.id.cls).waiting = _ :=
    insertTicket_newest rfl (hlaw.order x.id.cls) fun y hy n hn => (hlaw.ahead y ?_).2 n hn
  · unfold State.enlist reinstated
    exact congrArg (fun l => ({ s with queue := { s.queue with
      classes := s.queue.classes.set x.id.cls { s.classOf x.id.cls with waiting := l }
      missed := missed
      reinstateTurn := s.queue.reinstateTurn + 1 } } : State)) hinsert
  · have hwaiting : y ∈ (desk s).waiting.get x.id.cls :=
      (show (desk s).waiting = waitingLists s.queue.classes from rfl) ▸ (waitingLists_get _ _).symm ▸ hy
    exact List.mem_append_left _ (mem_allWaiting hwaiting)

theorem length_filter_isNone (l : List Ticket) :
    (l.filter fun y => y.reinstated.isSome).length + (l.filter fun y => y.reinstated.isNone).length = l.length := by
  induction l with
  | nil => rfl
  | cons y l ih => cases h : y.reinstated <;> simp [h] <;> omega

theorem reinstate_answers {x : Ticket} {rest : List Ticket} (hw : Waiting s p t (.reinstate p t x.id)) (hlaw : s.TicketLaw)
    (h : s.reinstateTests x.id = .ok (x, rest)) (hfree : ∀ y ∈ (s.classOf x.id.cls).waiting, y.id ≠ x.id) :
    Answers (.reinstate p t x.id) p t s .ok
      (.reinstated x.id (((s.classOf x.id.cls).waiting.filter fun y => y.reinstated.isSome).length + 1))
      (((reinstated s x rest).queueWatches x.id.cls ((s.classOf x.id.cls).waiting.length + 1)).queueChange x.id.cls
        .reinstate) := by
  let u := s.taken p t (.reinstate p t x.id)
  have htaken : u.reinstateTests x.id = .ok (x, rest) := h
  obtain ⟨hcommute, hslots, htransit⟩ := queueTold_frame (reinstated s x rest) x.id.cls
    ((s.classOf x.id.cls).waiting.length + 1) .reinstate
  refine answers_takeRequest hw (exec_reinstate p t x.id s) (hslots p) (by rw [htransit]; rfl) ?_
  have hu : u.TicketLaw := ⟨hlaw.once, hlaw.own, hlaw.order, hlaw.apart, hlaw.ahead, hlaw.missed, hlaw.recent⟩
  have henlist := enlist_reinstated (x := x) (missed := rest) hu
  have hlist : ((reinstated u x rest).classOf x.id.cls).waiting = _ := congrArg ClassRecord.waiting (reinstated_classOf u x rest)
  have hlength : ((reinstated u x rest).classOf x.id.cls).waiting.length = (s.classOf x.id.cls).waiting.length + 1 := by
    rw [hlist, List.length_append, List.length_cons]
    exact congrArg (· + 1) (length_filter_isNone (s.classOf x.id.cls).waiting)
  have hplace : placeOf x.id ((reinstated u x rest).classOf x.id.cls).waiting =
      ((s.classOf x.id.cls).waiting.filter fun y => y.reinstated.isSome).length + 1 := by
    rw [hlist]
    exact placeOf_append (x := { x with reinstated := some s.queue.reinstateTurn })
      fun y hy => hfree y (List.mem_of_mem_filter hy)
  rw [show s.taken p t (.reinstate p t x.id) = u from rfl, htaken]
  dsimp only
  rw [henlist, hlength, hplace, ← hcommute]
  rfl

end Reinstate

/-- Settles O48: the tests of SKIP, of the discard and of REINSTATE in their order, then what each leaves. -/
theorem skipsAndReinstates : Obligations.SkipsAndReinstates := by
  refine ⟨⟨?skip, fun s m rest h => ?discard⟩, ?reinstate⟩
  case skip =>
    intro s p t clerk i hw
    refine ⟨fun hout => skip_refuses hw ?_, fun c hc => ?_⟩
    · rw [State.skipTests, State.boundLookup, namedClerk_of_out hout]
      rfl
    have htests := skipTests_named (s := s) hc
    cases hy : s.openOf c with
    | none => exact skip_refuses hw (htests.trans (by rw [hy]; rfl))
    | some y =>
      rw [hy] at htests
      cases hx : y.ticket.bind s.findCalled with
      | none =>
        simp only [hx]
        exact skip_refuses hw (htests.trans (by simp [orRefuse, hx]))
      | some x =>
        simp only [hx]
        have hempty : y.lines.isEmpty = decide (y.lines = []) := by cases y.lines <;> rfl
        split_ifs with hlines
        · exact skip_refuses hw (htests.trans (by simp [orRefuse, hx, hempty, hlines]))
        · exact skip_defers hw (htests.trans (by simp [orRefuse, hx, not_not.1 hlines]))
  case discard =>
    intro v
    obtain ⟨hrefused, hdone⟩ := exec_discard_head h
    have htests : v.discard m.txn m.ticket = _ := discard_eq m.txn m.ticket
    have hfind : v.findTxn m.txn = s.findTxn m.txn := rfl
    rw [hfind] at htests
    cases hy : s.findTxn m.txn with
    | none => exact leaves_of_done (hrefused _ (by rw [htests, hy]))
    | some y =>
      rw [hy] at htests
      dsimp only at htests ⊢
      by_cases hbound : y.parkedAt ≠ none ∨ y.ticket ≠ some m.ticket
      · rw [if_pos hbound] at htests ⊢
        exact leaves_of_done (hrefused _ htests)
      rw [if_neg hbound] at htests ⊢
      by_cases hlines : y.lines ≠ []
      · rw [if_pos hlines] at htests ⊢
        exact leaves_of_done (hrefused _ htests)
      · rw [if_neg hlines] at htests ⊢
        intro x hx hopen hroom
        refine leaves_of_done ((hdone _ htests).trans ?_)
        have hcalled : (v.removeTxn y).findCalled m.ticket = some x := (removeTxn_findCalled y m.ticket).trans hx
        rw [State.afterDiscard, hcalled]
        dsimp only
        rw [removeTxn_skipTicket (s := v) hx hopen hroom]
        rfl
  case reinstate =>
    intro s p t k i hw hlaw
    split_ifs with hout
    · have hrange : (decide (1 ≤ k.number) && decide (k.number ≤ 99)) = false := by
        rcases hout with h | h <;> simp [Nat.not_le.2 h]
      exact reinstate_refuses hw (by rw [State.reinstateTests, hrange, require_false, error_bind])
    · have htests := reinstateTests_of_range (s := s) (k := k) (by omega)
      refine ⟨fun hnone => reinstate_refuses hw (htests.trans ?_), fun before x after hmissed hid => ?_⟩
      · rw [takeFirst_of_none (by simpa using hnone)]
        rfl
      · subst hid
        have honce := hlaw.once
        rw [TicketQueue.inHand, hmissed, List.map_append, List.map_cons] at honce
        obtain ⟨-, hids, hapart⟩ := List.nodup_append.1 honce
        have hbefore : ∀ y ∈ before, decide (y.id = x.id) = false := fun y hy =>
          decide_eq_false ((List.nodup_append.1 hids).2.2 y.id (List.mem_map_of_mem hy) x.id List.mem_cons_self)
        have hfree : ∀ y ∈ (s.classOf x.id.cls).waiting, y.id ≠ x.id := fun y hy => by
          have hwaiting : y ∈ (desk s).waiting.get x.id.cls :=
            (show (desk s).waiting = waitingLists s.queue.classes from rfl) ▸ (waitingLists_get _ _).symm ▸ hy
          have hqueued : y.id ∈ s.queue.queued.map (·.id) :=
            List.mem_map_of_mem (List.mem_append_left _ (mem_allWaiting hwaiting))
          exact hapart y.id (List.mem_append_left _ hqueued) x.id (List.mem_append_right _ List.mem_cons_self)
        rw [hmissed, takeFirst_of_split hbefore (by simp)] at htests
        exact reinstate_answers hw hlaw htests hfree

end Sys2Proof.Machine.Clerking
end

section
/-! PROOF. CLOSE TRANSACTION: the posting, the sale of its stock, and the steps (O39). -/

namespace Sys2Proof.Machine.Closing

open PlatterOps PluTable Books Ordered Calls

/-! ### Posting a line (R177, R181) -/

section Posting

theorem departmentIndex_val (j : Fin 16) : departmentIndex (j.val + 1) = j := by
  apply Fin.ext
  simp [departmentIndex]

theorem vector_set_getElem {α : Type} (v : Vector α 16) (j i : Fin 16) (x : α) :
    (v.set j x)[i] = if i = j then x else v[i] := by
  by_cases h : i = j
  · subst h; simp
  · have hne : (j : Nat) ≠ i := fun he => h (Fin.ext he.symm)
    simp [h, Vector.getElem_set_ne _ _ hne]

theorem postedCount_eq (l : Line) : l.postedCount = if l.kind = .byWeight then 1 else l.quantity := by
  unfold Line.postedCount; cases l.kind <;> rfl

theorem postedWeight_eq (l : Line) : l.postedWeight = if l.kind = .byWeight then l.quantity else 0 := by
  unfold Line.postedWeight; cases l.kind <;> rfl

variable {n : Nat} {table : List PluTotal}

theorem find?_insertTotal_same {e : PluTotal} (h : table.find? (fun x => x.plu = e.plu) = none) :
    (insertTotal e table).find? (fun x => x.plu = e.plu) = some e := by
  induction table with
  | nil => simp [insertTotal]
  | cons x table ih =>
    have hall := List.find?_eq_none.1 h
    have hx := hall x List.mem_cons_self
    have htable : table.find? (fun y => y.plu = e.plu) = none :=
      List.find?_eq_none.2 fun y hy => hall y (List.mem_cons_of_mem x hy)
    unfold insertTotal
    split_ifs
    · simp
    · rw [List.find?_cons_of_neg (by simpa using hx)]
      exact ih htable

theorem find?_insertTotal_of_ne {e : PluTotal} (h : n ≠ e.plu) :
    (insertTotal e table).find? (fun x => x.plu = n) = table.find? fun x => x.plu = n := by
  induction table with
  | nil => simp [insertTotal, h.symm]
  | cons x table ih =>
    unfold insertTotal
    split_ifs
    · rw [List.find?_cons_of_neg (by simpa using h.symm)]
    · by_cases hx : x.plu = n
      · rw [List.find?_cons_of_pos (by simpa using hx), List.find?_cons_of_pos (by simpa using hx)]
      · rw [List.find?_cons_of_neg (by simpa using hx), List.find?_cons_of_neg (by simpa using hx), ih]

theorem find?_updateTotal_same {f : PluTotal → PluTotal} (hf : ∀ x, (f x).plu = x.plu) :
    (updateFirst (fun x => x.plu = n) f table).find? (fun x => x.plu = n) =
      (table.find? fun x => x.plu = n).map f := by
  induction table with
  | nil => rfl
  | cons x table ih =>
    unfold updateFirst
    by_cases hx : x.plu = n
    · rw [if_pos (by simpa using hx), List.find?_cons_of_pos (by simpa [hf] using hx),
        List.find?_cons_of_pos (by simpa using hx)]
      rfl
    · rw [if_neg (by simpa using hx), List.find?_cons_of_neg (by simpa using hx), List.find?_cons_of_neg (by simpa using hx),
        ih]

theorem find?_updateTotal_of_ne {m : Nat} {f : PluTotal → PluTotal} (hf : ∀ x, (f x).plu = x.plu) (h : m ≠ n) :
    (updateFirst (fun x => x.plu = n) f table).find? (fun x => x.plu = m) = table.find? fun x => x.plu = m := by
  induction table with
  | nil => rfl
  | cons x table ih =>
    unfold updateFirst
    by_cases hx : x.plu = n
    · have hm : ¬x.plu = m := fun he => h (he.symm.trans hx)
      rw [if_pos (by simpa using hx), List.find?_cons_of_neg (by simpa [hf] using hm),
        List.find?_cons_of_neg (by simpa using hm)]
    · rw [if_neg (by simpa using hx)]
      by_cases hm : x.plu = m
      · rw [List.find?_cons_of_pos (by simpa using hm), List.find?_cons_of_pos (by simpa using hm)]
      · rw [List.find?_cons_of_neg (by simpa using hm), List.find?_cons_of_neg (by simpa using hm), ih]

/-- The table is full for a PLU that has no entry in it (R181). -/
def noRoom (n : Nat) (table : List PluTotal) : Bool :=
  (table.find? fun e => e.plu = n).isNone && decide (1000 ≤ table.length)

theorem postPluTotal_full {count weight amount : Nat} (h : noRoom n table = true) :
    postPluTotal n count weight amount table = (table, true) := by
  obtain ⟨hnone, hlength⟩ := (Bool.and_eq_true _ _).mp h
  have hany : table.any (fun e => e.plu = n) = false := by
    rw [List.any_eq_false]
    exact List.find?_eq_none.1 (Option.isNone_iff_eq_none.1 hnone)
  have hroom : ¬table.length < Config.pluTotals := Nat.not_lt.2 (of_decide_eq_true hlength)
  rw [postPluTotal, hany, if_neg Bool.false_ne_true, if_neg hroom]

theorem postPluTotal_room {count weight amount : Nat} (h : noRoom n table = false) :
    let posted := postPluTotal n count weight amount table
    posted.2 = false ∧
      (posted.1.find? fun e => e.plu = n) = some
        (((table.find? fun e => e.plu = n).getD ⟨n, 0, 0, 0, false⟩).addLine count weight amount) ∧
      ∀ m, m ≠ n → (posted.1.find? fun e => e.plu = m) = table.find? fun e => e.plu = m := by
  dsimp only
  have hplu (e : PluTotal) : (e.addLine count weight amount).plu = e.plu := rfl
  unfold postPluTotal
  cases hfind : table.find? fun e => e.plu = n with
  | some e =>
    have hany : table.any (fun e => e.plu = n) = true :=
      List.any_eq_true.2 ⟨e, List.mem_of_find?_eq_some hfind, by simpa using List.find?_some hfind⟩
    rw [hany, if_pos rfl]
    refine ⟨rfl, ?_, fun m hm => find?_updateTotal_of_ne hplu hm⟩
    rw [find?_updateTotal_same hplu, hfind]
    rfl
  | none =>
    have hany : table.any (fun e => e.plu = n) = false := by
      rw [List.any_eq_false]
      exact List.find?_eq_none.1 hfind
    have hroom : table.length < Config.pluTotals := by
      by_contra hnot
      have hfull : noRoom n table = true := by
        simp only [noRoom, hfind, Option.isNone_none, Bool.true_and, decide_eq_true_eq]
        exact Nat.not_lt.1 hnot
      exact absurd (h.symm.trans hfull) nofun
    rw [hany, if_neg Bool.false_ne_true, if_pos hroom]
    exact ⟨rfl, find?_insertTotal_same (e := (⟨n, 0, 0, 0, false⟩ : PluTotal).addLine count weight amount) hfind,
      fun m hm => find?_insertTotal_of_ne hm⟩

end Posting

/-! ### The stock of the lines sold (R83) -/

/-- A record after some of its lines have been sold. -/
def soldLines (ls : List Line) (r : PluRecord) : PluRecord := { r with
  openLines := r.openLines - ls.length
  stock := r.stock.map fun a => { a with
    held := a.held - (ls.map (·.quantity)).sum
    sold := a.sold + (ls.map (·.quantity)).sum } }

theorem soldLines_nil (r : PluRecord) : soldLines [] r = r := by
  obtain ⟨⟩ := r
  simp [soldLines]

theorem soldLines_cons (l : Line) (ls : List Line) (r : PluRecord) :
    soldLines ls (Books.sold l.quantity r) = soldLines (l :: ls) r := by
  have hstock (a : Stock) : ({ a.sell l.quantity with
      held := (a.sell l.quantity).held - (ls.map (·.quantity)).sum
      sold := (a.sell l.quantity).sold + (ls.map (·.quantity)).sum } : Stock) = { a with
        held := a.held - ((l :: ls).map (·.quantity)).sum
        sold := a.sold + ((l :: ls).map (·.quantity)).sum } := by
    simp only [Stock.sell, List.map_cons, List.sum_cons, Nat.sub_sub, Nat.add_assoc]
  simp only [soldLines, Books.sold, Option.map_map, Function.comp_def, hstock, List.length_cons, Nat.sub_sub,
    Nat.add_comm 1]

/-- The table after a sell. -/
def soldTable (n q : Nat) (table : List PluRecord) : List PluRecord :=
  match findPlu n table with
  | none => table
  | some r => putPlu (Books.sold q r) table

theorem sellStock_eq (s : State) (n q : Nat) : s.sellStock n q = { s with plus := soldTable n q s.plus } := by
  unfold State.sellStock soldTable
  cases findPlu n s.plus <;> rfl

theorem findPlu_soldTable (m n q : Nat) (table : List PluRecord) : findPlu m (soldTable n q table) =
    (findPlu m table).map fun r => if m = n then Books.sold q r else r := by
  unfold soldTable
  cases hr : findPlu n table with
  | none =>
    by_cases hm : m = n
    · rw [hm, hr]; rfl
    · simp [hm]
  | some r =>
    have hr' : r.number = n := findPlu_number hr
    have hnumber : (Books.sold q r).number = n := hr'
    by_cases hm : m = n
    · rw [hm, findPlu_putPlu_same hnumber, hr]
      simp
    · rw [findPlu_putPlu_of_ne (hnumber ▸ hm)]
      simp [hm]

theorem sellAll_eq (ls : List Line) (s : State) : ls.foldl (fun s l => s.sellStock l.plu l.quantity) s =
    { s with plus := ls.foldl (fun table l => soldTable l.plu l.quantity table) s.plus } := by
  induction ls generalizing s with
  | nil => rfl
  | cons l ls ih => rw [List.foldl_cons, ih, sellStock_eq]; rfl

theorem findPlu_sellAll (ls : List Line) (m : Nat) (table : List PluRecord) :
    findPlu m (ls.foldl (fun table l => soldTable l.plu l.quantity table) table) =
      (findPlu m table).map (soldLines (ls.filter fun l => l.plu = m)) := by
  induction ls generalizing table with
  | nil =>
    have hid : soldLines [] = id := funext soldLines_nil
    rw [List.foldl_nil, List.filter_nil, hid, Option.map_id, id]
  | cons l ls ih =>
    rw [List.foldl_cons, ih, findPlu_soldTable, Option.map_map]
    congr 1
    funext r
    by_cases hl : l.plu = m
    · rw [List.filter_cons_of_pos (by simpa using hl), ← soldLines_cons]
      simp [hl]
    · have hm : ¬m = l.plu := fun h => hl h.symm
      rw [List.filter_cons_of_neg (by simpa using hl)]
      simp [hm]

/-! ### The watches of a clerk (R186) -/

section Watches

theorem clerkWatch_effect (totals : Totals) (c : ClerkNo) (i : Fin 4) :
    WatchesEffect totals fun s => s.clerkWatch c i := by
  cases hcond : totals.watches[i].cond with
  | off | pluSale | txnAmount | queueLength =>
    exact (watchesEffect_none totals).congr fun s hs => by simp only [State.clerkWatch, hs, hcond]
  | clerkAmount target threshold =>
    by_cases hfires : target = c ∧ totals.watches[i].armed ∧ threshold < totals.acc.clerks[c].amount
    · exact (watchesEffect_fire totals i totals.acc.clerks[c].amount none false).congr fun s hs => by
        simp only [State.clerkWatch, hs, hcond, if_pos hfires]
    · exact (watchesEffect_none totals).congr fun s hs => by simp only [State.clerkWatch, hs, hcond, if_neg hfires]

theorem clerkWatches_effect (totals : Totals) (c : ClerkNo) : WatchesEffect totals fun s => s.clerkWatches c := by
  unfold State.clerkWatches
  induction watchNumbers generalizing totals with
  | nil => exact watchesEffect_none totals
  | cons i is ih => exact (clerkWatch_effect totals c i).trans fun watches => ih { totals with watches := watches }

/-- A clerk's watches are looked at in the watches and the accumulators alone. -/
theorem clerkWatches_congr {s t : State} (c : ClerkNo) (hacc : t.totals.acc = s.totals.acc)
    (hwatches : t.totals.watches = s.totals.watches) :
    (t.clerkWatches c).totals.watches = (s.clerkWatches c).totals.watches := by
  have hone {s t : State} (i : Fin 4) (hacc : t.totals.acc = s.totals.acc) (hwatches : t.totals.watches = s.totals.watches) :
      (t.clerkWatch c i).totals.acc = (s.clerkWatch c i).totals.acc ∧
        (t.clerkWatch c i).totals.watches = (s.clerkWatch c i).totals.watches := by
    unfold State.clerkWatch
    dsimp only
    rw [hacc, hwatches]
    split
    · split
      · refine ⟨hacc, ?_⟩
        dsimp only [State.fireWatch, State.mapTotals, State.notify, State.mapLink, State.setLink]
        rw [hwatches]
      · exact ⟨hacc, hwatches⟩
    all_goals exact ⟨hacc, hwatches⟩
  unfold State.clerkWatches
  induction watchNumbers generalizing s t with
  | nil => exact hwatches
  | cons i is ih =>
    obtain ⟨h, h'⟩ := hone i hacc hwatches
    exact ih h h'

end Watches

/-! ### The steps of a close (R122) -/

section Steps
variable (s : State) (x : Txn) (p : Port)

/-- A transaction moved to the closed list, its clerk freed: of the state the transaction table alone changes. -/
theorem filed_frame (e : ClosedEntry) (hopen : (s.clerk x.clerk).openTxn = some x.number) :
    let t := ((s.addClosed e).removeTxn x).noteStation x.clerk p
    (∃ txn, t = { s with txn := txn }) ∧ t.txn.held = s.txn.held.filter (fun y => y.number ≠ x.number) ∧
      t.txn.closed = lastEntries 8 (s.txn.closed ++ [e]) ∧
      t.clerk x.clerk = { s.clerk x.clerk with openTxn := none, lastStation := some p } ∧
      ∀ c, c ≠ x.clerk → t.clerk c = s.clerk c := by
  intro t
  have hclerk : (s.addClosed e).clerk x.clerk = s.clerk x.clerk := rfl
  have hsame := removeTxn_clerk_same (s.addClosed e) x
  rw [hclerk, if_pos hopen] at hsame
  obtain ⟨clerks, hremoved⟩ := removeTxn_frame (x := x) (s.addClosed e)
  refine ⟨⟨t.txn, ?_⟩, ?_, ?_, ?_, fun c hc => ?_⟩
  · simp only [t, hremoved]; rfl
  · simp only [t, hremoved]; rfl
  · simp only [t, hremoved]; rfl
  · rw [noteStation_clerk_same, hsame]
  · exact (setClerk_clerk_of_ne _ hc _).trans (removeTxn_clerk_of_ne (s.addClosed e) hc)

/-- What the steps of a close leave. -/
structure Closed (t : State) : Prop where
  frame : ∃ link txn watches, t = { s with
    link := link
    txn := txn
    plus := (unvoided x.lines).foldl (fun table l => soldTable l.plu l.quantity table) s.plus
    totals := { s.totals.postClose x.clerk (unvoided x.lines) with watches := watches }
    transit := { s.transit with ticketReports := s.transit.ticketReports ++
      (x.ticket.map fun k => (k, TicketReport.outcome .sale)).toList } }
  slots : ∀ q, (t.linkOf q).slots = (s.linkOf q).slots
  held : t.txn.held = s.txn.held.filter fun y => y.number ≠ x.number
  closed : t.txn.closed = lastEntries 8 (s.txn.closed ++ [closedEntry x (s.clerk x.clerk).name s.now p])
  clerk : t.clerk x.clerk = { s.clerk x.clerk with openTxn := none, lastStation := some p }
  others : ∀ c, c ≠ x.clerk → t.clerk c = s.clerk c
  watches : t.totals.watches = ({ s with totals := { s.totals with
    acc := (s.totals.acc.addLines x.clerk (unvoided x.lines)).countTransaction x.clerk } }.clerkWatches x.clerk).totals.watches

theorem closeSteps_closed (hopen : (s.clerk x.clerk).openTxn = some x.number) : Closed s x p (s.closeSteps x p) := by
  let totals := s.totals.postClose x.clerk (unvoided x.lines)
  obtain ⟨ns, watches, heffect⟩ := clerkWatches_effect totals x.clerk
  let posted : State := { s with totals := totals }
  let watched : State := officeHears ns { s with totals := { totals with watches := watches } }
  have hwatched : posted.clerkWatches x.clerk = watched := heffect posted rfl
  let v : State := { watched with
    plus := (unvoided x.lines).foldl (fun table l => soldTable l.plu l.quantity table) s.plus
    transit := { s.transit with ticketReports := s.transit.ticketReports ++
      (x.ticket.map fun k => (k, TicketReport.outcome .sale)).toList } }
  have hframe : watched = { s with totals := { totals with watches := watches }, link := watched.link } :=
    officeHears_frame ns _
  have hv : ((unvoided x.lines).foldl (fun s l => s.sellStock l.plu l.quantity) watched).reportTicket x.ticket
      (.outcome .sale) = v := by
    have hplus : watched.plus = s.plus := by rw [hframe]
    have htransit : watched.transit = s.transit := by rw [hframe]
    rw [sellAll_eq, reportTicket_eq]
    dsimp only
    rw [hplus, htransit]
  have hclose : s.closeSteps x p =
      ((v.addClosed (closedEntry x (v.clerk x.clerk).name v.now p)).removeTxn x).noteStation x.clerk p := by
    rw [← hv, ← hwatched]
    rfl
  have htxn : v.txn = s.txn := by change watched.txn = s.txn; rw [hframe]
  have hclerk (c : ClerkNo) : v.clerk c = s.clerk c := by simp only [State.clerk, htxn]
  have hnow : v.now = s.now := by change watched.now = s.now; rw [hframe]; rfl
  obtain ⟨⟨txn, htable⟩, hheld, hclosed, hfreed, hothers⟩ :=
    filed_frame v x p (closedEntry x (v.clerk x.clerk).name v.now p) ((hclerk _).symm ▸ hopen)
  rw [← hclose] at htable hheld hclosed hfreed hothers
  have hvframe : v = { s with
      totals := { totals with watches := watches }
      link := watched.link
      plus := (unvoided x.lines).foldl (fun table l => soldTable l.plu l.quantity table) s.plus
      transit := { s.transit with ticketReports := s.transit.ticketReports ++
        (x.ticket.map fun k => (k, TicketReport.outcome .sale)).toList } } := by
    simp only [v]
    rw [hframe]
  refine ⟨⟨watched.link, txn, watches, by rw [htable, hvframe]⟩, fun q => ?_, htxn ▸ hheld, ?_, hclerk x.clerk ▸ hfreed,
    fun c hc => (hothers c hc).trans (hclerk c), ?_⟩
  · have hlink : (s.closeSteps x p).link = watched.link := by rw [htable]
    rw [Printing.linkOf_congr hlink, officeHears_slots]
    rfl
  · rw [hclosed, htxn, hclerk, hnow]
  · have hwatches : (s.closeSteps x p).totals.watches = (posted.clerkWatches x.clerk).totals.watches := by
      rw [hwatched, htable, hvframe, hframe]
    rw [hwatches]
    exact clerkWatches_congr x.clerk rfl rfl

end Steps

/-! ### The request (R121) -/

section Request
variable {s : State} {p : Port} {tag : Tag} {clerk : Nat} {label : Bool} {c : ClerkNo} {x : Txn}

theorem exec_closeTransaction (p : Port) (tag : Tag) (clerk : Nat) (label : Bool) (s : State) :
    exec (.closeTransaction p tag clerk label) s = execCloseTransaction p tag clerk label s := rfl

theorem close_refuses {e : Result} (hw : Waiting s p tag (.closeTransaction p tag clerk label))
    (h : s.closeTests clerk = .error e) : Refuses (.closeTransaction p tag clerk label) p tag s e := by
  have htaken : (s.taken p tag (.closeTransaction p tag clerk label)).closeTests clerk = .error e := h
  exact refuses_takeRequest hw (exec_closeTransaction p tag clerk label s) (by rw [htaken])

theorem closeTests_of_val (hc : clerk = c.val + 1) : s.closeTests clerk =
    match s.openOf c with
    | none => .error .noSuch
    | some x => if x.approval = .required then .error .approval
        else if unvoided x.lines = [] then .error .hasNoLines
        else .ok x := by
  rw [State.closeTests, namedClerk_of_val hc, ok_bind]
  cases s.openOf c with
  | none => rfl
  | some x =>
    rw [show orRefuse (some x) Result.noSuch = .ok x from rfl, ok_bind]
    by_cases happroval : x.approval = .required
    · simp [happroval, require]
    · by_cases hlines : unvoided x.lines = [] <;> simp [happroval, hlines, require]

/-- The job of a close's label (R122). -/
def saleLabel (s : State) (x : Txn) (p : Port) : Job :=
  totalLabel s.pricing false x.number x.clerk (s.clerk x.clerk).name x.ticket x.subtotal x.lines s.now p

/-- The outlet that takes the label of a close: the first of the station's that accepts it. -/
theorem routeLabel_find (s : State) (p : Port) (job : Job) : s.routeLabel p job =
    ((s.labelOutlets p).find? fun o => ((s.outletOf o).offer job).isSome).bind fun o =>
      ((s.outletOf o).offer job).map fun y => (s.setOutlet o y.1, o, y.2) := by
  rw [routeLabel_eq]
  cases p <;> rfl

/-- What a close leaves of the outlets, and the status it replies (R122). -/
def LabelOffered (s : State) (x : Txn) (label : Bool) (p : Port) (outlets : PerOutlet Outlet) (status : LabelStatus) : Prop :=
  (label = false → status = .notAsked ∧ outlets = s.outlets) ∧
  (label = true → ∃ o id y, status = .queued o id ∧
    ((s.labelOutlets p).find? fun o => ((s.outletOf o).offer (saleLabel s x p)).isSome) = some o ∧
    (s.outletOf o).offer (saleLabel s x p) = some (y, id) ∧ outlets = s.outlets.set o y)

theorem closeLabel_refused (hlabel : label = true)
    (hnone : (s.labelOutlets p).any (fun o => ((s.outletOf o).offer (saleLabel s x p)).isSome) = false) :
    s.closeLabel x label p = .error .noOutlet := by
  have hfind : ((s.labelOutlets p).find? fun o => ((s.outletOf o).offer (saleLabel s x p)).isSome) = none :=
    List.find?_eq_none.2 fun o ho => by simpa using (List.any_eq_false.1 hnone) o ho
  have hroute : s.routeLabel p (saleLabel s x p) = none := by rw [routeLabel_find, hfind]; rfl
  unfold State.closeLabel
  rw [if_pos hlabel]
  rw [show totalLabel s.pricing false x.number x.clerk (s.clerk x.clerk).name x.ticket x.subtotal x.lines s.now p =
    saleLabel s x p from rfl, hroute]

theorem closeLabel_offered
    (h : ¬(label = true ∧ (s.labelOutlets p).any (fun o => ((s.outletOf o).offer (saleLabel s x p)).isSome) = false)) :
    ∃ outlets status, s.closeLabel x label p = .ok ({ s with outlets := outlets }, status) ∧
      LabelOffered s x label p outlets status := by
  unfold State.closeLabel
  cases label with
  | false => exact ⟨s.outlets, .notAsked, rfl, fun _ => ⟨rfl, rfl⟩, nofun⟩
  | true =>
    have hany : (s.labelOutlets p).any (fun o => ((s.outletOf o).offer (saleLabel s x p)).isSome) = true :=
      Bool.not_eq_false _ ▸ fun hnone => h ⟨rfl, hnone⟩
    cases hfind : (s.labelOutlets p).find? fun o => ((s.outletOf o).offer (saleLabel s x p)).isSome with
    | none =>
      obtain ⟨o, ho, haccepts⟩ := List.any_eq_true.1 hany
      exact absurd haccepts (List.find?_eq_none.1 hfind o ho)
    | some o =>
      obtain ⟨⟨y, id⟩, hoffer⟩ := Option.isSome_iff_exists.1 (List.find?_some hfind :)
      have hroute : s.routeLabel p (saleLabel s x p) = some (s.setOutlet o y, o, id) := by
        rw [routeLabel_find, hfind, Option.bind_some, hoffer]
        rfl
      refine ⟨s.outlets.set o y, .queued o id, ?_, nofun, fun _ => ⟨o, id, y, rfl, hfind, hoffer, rfl⟩⟩
      rw [if_pos rfl]
      rw [show totalLabel s.pricing false x.number x.clerk (s.clerk x.clerk).name x.ticket x.subtotal x.lines s.now p =
        saleLabel s x p from rfl, hroute]
      rfl

/-- A close whose tests pass and whose label finds its outlet. -/
theorem close_closes (hw : Waiting s p tag (.closeTransaction p tag clerk label)) (h : s.closeTests clerk = .ok x)
    (hopen : (s.clerk x.clerk).openTxn = some x.number)
    (hoffer : ¬(label = true ∧ (s.labelOutlets p).any (fun o => ((s.outletOf o).offer (saleLabel s x p)).isSome) = false)) :
    ∃ t outlets status, exec (.closeTransaction p tag clerk label) s = .next t ∧
      Replied t ⟨p, tag, requestCode (.closeTransaction p tag clerk label)⟩ .ok
        (.closed x.number x.subtotal x.itemCount status) ∧
      LabelOffered s x label p outlets status ∧
      ∃ w link, Closed { s.taken p tag (.closeTransaction p tag clerk label) with outlets := outlets } x p w ∧
        t = { w with link := link } := by
  let i := Instr.closeTransaction p tag clerk label
  let u := s.taken p tag i
  obtain ⟨outlets, status, hlabel, hoffered⟩ := closeLabel_offered (s := u) (x := x) (p := p) (label := label) hoffer
  let w := ({ u with outlets := outlets } : State).closeSteps x p
  have hclosed : Closed { u with outlets := outlets } x p w := closeSteps_closed _ x p hopen
  have hexec : exec i s =
      .next (w.reply ⟨p, tag, requestCode i⟩ .ok (.closed x.number x.subtotal x.itemCount status)).transmitAll := by
    have htests : u.closeTests clerk = .ok x := h
    rw [exec_closeTransaction, execCloseTransaction, takeRequest_of_awaits hw.2, show s.taken p tag _ = u from rfl, htests]
    dsimp only
    rw [hlabel]
    rfl
  obtain ⟨link, hreply⟩ := (Printing.onlyAnswered_reply w ⟨p, tag, requestCode i⟩ .ok
    (.closed x.number x.subtotal x.itemCount status)).frame
  obtain ⟨link', hsent⟩ := (Printing.onlyTold_transmitAll (w.reply ⟨p, tag, requestCode i⟩ .ok
    (.closed x.number x.subtotal x.itemCount status))).frame
  refine ⟨_, outlets, status, hexec, replied_of_waits _ _ ?_ ?_, hoffered, w, link', hclosed, by rw [hsent, hreply]⟩
  · rw [hclosed.slots]
    exact taken_waits hw
  · obtain ⟨_, _, _, hframe⟩ := hclosed.frame
    have htransit : w.transit.cancellations = u.transit.cancellations := by rw [hframe]
    rw [htransit]
    exact State.awaits_uncancelled (s := s) hw.2

end Request

/-- The records of the PLU table after a close: those of the lines sold have sold them. -/
theorem plus_sold {s : State} (hs : s.StockLaw) (ls : List Line) {r : PluRecord} (hr : r ∈ s.plus) :
    soldLines (ls.filter fun l => l.plu = r.number) r ∈
      ls.foldl (fun table l => soldTable l.plu l.quantity table) s.plus := by
  have hfind := findPlu_sellAll ls r.number s.plus
  rw [findPlu_of_mem hs.order hr] at hfind
  exact findPlu_mem hfind

/-- The tests of CLOSE TRANSACTION by its clerk, in their order, then the close (R121 to R123). -/
theorem close_settled (s : State) (p : Port) (tag : Tag) (clerk : Nat) (label : Bool)
    (hw : Waiting s p tag (.closeTransaction p tag clerk label)) (hr : TableRules s) (c : ClerkNo)
    (hc : clerk = c.val + 1) (x : Txn) (hx : s.openOf c = some x) :
    let i := Instr.closeTransaction p tag clerk label
    if x.approval = .required then Refuses i p tag s .approval
    else if unvoided x.lines = [] then Refuses i p tag s .hasNoLines
    else if label = true ∧ (s.labelOutlets p).any (fun o => ((s.outletOf o).offer (saleLabel s x p)).isSome) = false then
      Refuses i p tag s .noOutlet
    else ∃ t outlets status, exec i s = .next t ∧
      Replied t ⟨p, tag, requestCode i⟩ .ok (.closed x.number x.subtotal x.itemCount status) ∧
      LabelOffered s x label p outlets status ∧
      ∃ w link, Closed { s.taken p tag i with outlets := outlets } x p w ∧ t = { w with link := link } := by
  intro i
  have htests := closeTests_of_val (s := s) hc
  rw [hx] at htests
  dsimp only at htests
  obtain ⟨-, hclerk, -, hopen⟩ := hr.openOf hx
  split_ifs at htests ⊢ with happroval hlines hoffer
  · exact close_refuses hw htests
  · exact close_refuses hw htests
  · have htaken : (s.taken p tag i).closeTests clerk = .ok x := htests
    have hlabel : (s.taken p tag i).closeLabel x label p = .error .noOutlet := closeLabel_refused hoffer.1 hoffer.2
    exact refuses_takeRequest hw (exec_closeTransaction p tag clerk label s) (by rw [htaken]; dsimp only; rw [hlabel])
  · exact close_closes hw htests (hclerk.symm ▸ hopen) hoffer

/-- A line posted, record by record (R177, R181). -/
theorem addLine_posted (a : Accumulators) (c : ClerkNo) (l : Line) (j : Fin 16) (hj : l.department = j.val + 1) :
    let up := fun cap n k : Nat => min cap (n + k)
    let passes := fun cap n k : Nat => decide (cap < n + k)
    let b := a.addLine c l
    let weight := if l.kind = .byWeight then l.quantity else 0
    let count := if l.kind = .byWeight then 1 else l.quantity
    let entry := fun e : PluTotal => { e with
      count := up 999999 e.count count
      weight := up 999999999 e.weight weight
      amount := up 999999999 e.amount l.amount
      saturated := e.saturated || passes 999999 e.count count || passes 999999999 e.weight weight ||
        passes 999999999 e.amount l.amount }
    let found := fun (n : Nat) (table : List PluTotal) => table.find? fun e => e.plu = n
    let full := (found l.plu a.plus).isNone && decide (1000 ≤ a.plus.length)
    b.stations = a.stations ∧
    (∀ i : Fin 16, let d := a.departments[i]
      b.departments[i] = if i = j then ⟨up 999999 d.items 1, up 999999999 d.amount l.amount,
        d.saturated || passes 999999 d.items 1 || passes 999999999 d.amount l.amount⟩ else d) ∧
    (∀ i : Fin 16, let k := a.clerks[i]
      b.clerks[i] = if i = c then { k with
        items := up 999999 k.items 1
        amount := up 999999999 k.amount l.amount
        saturated := k.saturated || passes 999999 k.items 1 || passes 999999999 k.amount l.amount } else k) ∧
    b.grand = { a.grand with
      items := up 999999 a.grand.items 1
      weight := up 999999999 a.grand.weight weight
      amount := up 999999999 a.grand.amount l.amount
      saturated := a.grand.saturated || passes 999999 a.grand.items 1 || passes 999999999 a.grand.weight weight ||
        passes 999999999 a.grand.amount l.amount || full } ∧
    (full = true → b.plus = a.plus) ∧
    (full = false → found l.plu b.plus = some (entry ((found l.plu a.plus).getD ⟨l.plu, 0, 0, 0, false⟩))) ∧
    ∀ n, n ≠ l.plu → found n b.plus = found n a.plus := by
  intro up passes b weight count entry found full
  have hup : capAdd = up := by funext cap n k; exact capAdd_eq_min cap n k
  have hentry (e : PluTotal) : e.addLine l.postedCount l.postedWeight l.amount = entry e := by
    simp only [PluTotal.addLine, postedCount_eq, postedWeight_eq, hup]
    rfl
  have hposted : (postPluTotal l.plu l.postedCount l.postedWeight l.amount a.plus).2 = full := by
    cases hfull : full with
    | true => rw [postPluTotal_full hfull]
    | false => exact (postPluTotal_room hfull).1
  refine ⟨rfl, fun i => ?_, fun i => ?_, ?_, fun hfull => ?_, fun hfull => ?_, fun n hn => ?_⟩
  · have hdepartment := vector_set_getElem a.departments j i (a.departments[j].addLine l.amount)
    simp only [b, Accumulators.addLine, hj, departmentIndex_val, DepartmentRecord.addLine, hup] at hdepartment ⊢
    rw [hdepartment]
    by_cases hi : i = j
    · subst hi; rfl
    · rw [if_neg hi, if_neg hi]
  · have hclerk := vector_set_getElem a.clerks c i (a.clerks[c].addLine l.amount)
    simp only [b, Accumulators.addLine, ClerkTotals.addLine, hup] at hclerk ⊢
    rw [hclerk]
    by_cases hi : i = c
    · subst hi; rfl
    · rw [if_neg hi, if_neg hi]
  · simp only [b, Accumulators.addLine, GrandRecord.addLine]
    rw [hposted, postedWeight_eq, hup]
    rfl
  · simp only [b, Accumulators.addLine]
    rw [postPluTotal_full hfull]
  · simp only [b, Accumulators.addLine, ← hentry]
    exact (postPluTotal_room hfull).2.1
  · simp only [b, Accumulators.addLine]
    cases hfull : full with
    | true => rw [postPluTotal_full hfull]
    | false => exact (postPluTotal_room hfull).2.2 n hn

/-- Two conditionals of one condition and one first branch, by their second branches. -/
theorem ite_same {c a b b' : Prop} [Decidable c] (h : if c then a else b) (hb : b → b') : if c then a else b' := by
  split_ifs at h ⊢
  · exact h
  · exact hb h

theorem postClose_day (t : Totals) (c : ClerkNo) (lines : List Line) : (t.postClose c lines).day = { t.day with
    postings := if t.day.postings < 999999 then t.day.postings + 1 else t.day.postings
    saturated := t.day.saturated || decide (999999 ≤ t.day.postings + 1) } := rfl

/-- Settles O39: the posting of a line and of a transaction, then the tests, the label and the steps of a close. -/
theorem closeTransaction : Obligations.CloseTransaction := by
  refine ⟨addLine_posted, fun a c => ⟨rfl, fun l rest => rfl, ?count⟩, ?request⟩
  case count =>
    simp only [Accumulators.countTransaction, capAdd_eq_min]
    rfl
  case request =>
    intro s p tag clerk label i hw hlaw hs
    have hr := tableLaw_iff.1 hlaw
    refine ⟨fun hout => close_refuses hw (by rw [State.closeTests, namedClerk_of_out hout, error_bind]), fun c hc => ?_⟩
    cases hx : s.openOf c with
    | none => exact close_refuses hw (by rw [closeTests_of_val hc, hx])
    | some x =>
      obtain ⟨-, hclerk, -, -⟩ := hr.openOf hx
      have hsettled := close_settled s p tag clerk label hw hr c hc x hx
      subst hclerk
      rw [Labels.unvoided_eq] at hsettled
      unfold saleLabel at hsettled
      dsimp only at hsettled ⊢
      refine ite_same hsettled fun hsettled => ite_same hsettled fun hsettled => ite_same hsettled fun hsettled => ?_
      obtain ⟨t, outlets, status, hexec, hreplied, ⟨hquiet, hqueued⟩, w, link, hclosed, rfl⟩ := hsettled
      obtain ⟨link', txn, watches, hframe⟩ := hclosed.frame
      have houtlets : w.outlets = outlets := by rw [hframe]
      have hday : w.totals.day = (s.totals.postClose x.clerk (unvoided x.lines)).day := by rw [hframe]; rfl
      have hacc : w.totals.acc = (s.totals.postClose x.clerk (unvoided x.lines)).acc := by rw [hframe]; rfl
      have hentry := hclosed.closed
      have hwatches := hclosed.watches
      rw [closedEntry, Labels.unvoided_eq] at hentry
      rw [Labels.unvoided_eq] at hacc hwatches
      refine ⟨_, status, hexec, hreplied, fun hlabel => ?_, fun hlabel => ?_, hclosed.held, hentry, hclosed.clerk,
        hclosed.others, by rw [hframe]; rfl, hday.trans (postClose_day ..), hacc,
        hwatches.trans (clerkWatches_congr x.clerk rfl rfl), by rw [hframe]; rfl,
        fun r hr => ?_, by rw [hframe]; rfl, by rw [hframe]; rfl, by rw [hframe]; rfl⟩
      · obtain ⟨hstatus, hsame⟩ := hquiet hlabel
        exact ⟨hstatus, houtlets.trans hsame⟩
      · obtain ⟨o, id, y, hstatus, hfind, hoffered, hset⟩ := hqueued hlabel
        exact ⟨o, id, y, hstatus, hfind, hoffered, houtlets.trans hset⟩
      · have hplus : w.plus = (unvoided x.lines).foldl (fun table l => soldTable l.plu l.quantity table) s.plus := by
          rw [hframe]; rfl
        have hsold := plus_sold hs (unvoided x.lines) hr
        rw [← hplus, Labels.unvoided_eq] at hsold
        exact ⟨_, hsold, rfl, rfl, rfl, rfl, rfl⟩

end Sys2Proof.Machine.Closing
end

section
/-! PROOF. CLOSE DAY: what the clearing of the counter leaves, the totals it posts, and the close (O56). -/

namespace Sys2Proof.Machine.DayEnd

open PlatterOps PluTable Books Ordered Calls

/-! ### What the clearing of the counter does not reach -/

/-- A held transaction without its lines. -/
def bare (x : Txn) : Txn := { x with lines := [] }

/-- The parts of a state that a close reads, or leaves as they are: beside the PLU table and the outlets, the held
transactions without their lines, and the clerks without their transactions. -/
structure Rest where
  weigh : PerPlatter Channel
  clock : Clock
  cancellations : List Cancellation
  inFlight : List InFlight
  clerks : ClerkNo → Clerk
  queue : TicketQueue
  totals : Totals
  held : List Txn
  slots : Port → List Slot
  hears : Port → NoticeKind → Prop

def rest (s : State) : Rest where
  weigh := s.weigh
  clock := s.clock
  cancellations := s.transit.cancellations
  inFlight := s.txn.inFlight
  clerks := fun c => { s.clerk c with openTxn := none }
  queue := s.queue
  totals := s.totals
  held := s.txn.held.map bare
  slots := fun p => (s.linkOf p).slots
  hears := s.hears

section Parts
variable (s : State)

theorem rest_of_onlyTold {s t : State} (h : Printing.OnlyTold s t) : rest t = rest s := by
  obtain ⟨⟨link, hframe⟩, hslots, -, hhears⟩ := h
  have hslots' : (fun p => (t.linkOf p).slots) = fun p => (s.linkOf p).slots := funext hslots
  have hhears' : t.hears = s.hears := funext fun p => funext fun k => propext (hhears p k)
  simp only [rest, hslots', hhears']
  rw [hframe]
  rfl

@[simp] theorem notifyAll_rest (ps : List Port) (n : Notice) : rest (s.notifyAll ps n) = rest s :=
  rest_of_onlyTold (Printing.onlyTold_notifyAll s ps n)

@[simp] theorem setOutlet_rest (o : OutletId) (x : Outlet) : rest (s.setOutlet o x) = rest s := rfl

@[simp] theorem clearLabel_rest (o : OutletId) (job : Nat) : rest (s.clearLabel o job) = rest s := by
  have hheld : (rest (s.clearLabel o job)).held = (rest s).held := by
    simp [rest, State.clearLabel, Function.comp_def, bare]
  exact congrArg (fun held => { rest s with held := held }) hheld

@[simp] theorem jobLeft_rest (o : OutletId) (j : QueuedJob) (wasHead : Bool) : rest (s.jobLeft o j wasHead) = rest s := by
  unfold State.jobLeft
  dsimp only
  split_ifs <;> split <;> simp

@[simp] theorem dropHead_rest (o : OutletId) (j : QueuedJob) : rest (s.dropHead o j) = rest s := by simp [State.dropHead]

theorem cancelQueued_rest (o : OutletId) (id : Nat) : rest (s.cancelQueued o id none) = rest s := by
  unfold State.cancelQueued
  dsimp only [State.replyTo]
  split
  · rfl
  · split_ifs
    · simp
    · simp
    · simp
    · split <;> simp

@[simp] theorem cancelOrder_rest (o : OutletId) (id : Nat) : rest (s.cancelOrder o id) = rest s := by
  unfold State.cancelOrder
  split_ifs
  · exact cancelQueued_rest s o id
  · rfl

@[simp] theorem cancelLabel_rest (l : Line) : rest (s.cancelLabel l) = rest s := by
  unfold State.cancelLabel; split <;> simp

@[simp] theorem returnStock_rest (n q : Nat) : rest (s.returnStock n q) = rest s := by
  unfold State.returnStock; split <;> rfl

theorem mapTotals_rest (f : Totals → Totals) : rest (s.mapTotals f) = { rest s with totals := f (rest s).totals } := rfl

theorem queueChange_rest (k : TicketClass) (cause : QueueCause) : rest (s.queueChange k cause) = rest s := by
  simp [State.queueChange]

end Parts

/-! ### The forced end of a transaction (R126) -/

theorem putTxn_filter (x : Txn) (l : List Txn) :
    (putTxn x l).filter (fun y => y.number ≠ x.number) = l.filter fun y => y.number ≠ x.number := by
  induction l with
  | nil => simp [putTxn]
  | cons y l ih =>
    unfold putTxn
    split_ifs with hlt heq
    · simp
    · simp [heq]
    · simp only [List.filter_cons, ih]

/-- The held list but for one transaction. -/
def heldBeside (n : Nat) (held : List Txn) : List Txn := held.filter fun y => y.number ≠ n

theorem heldBeside_map_bare (n : Nat) (held : List Txn) : heldBeside n (held.map bare) = (heldBeside n held).map bare := by
  simp only [heldBeside, List.filter_map]
  rfl

theorem voidOne_rest (s : State) (n : Nat) (l : Line) : ∃ held, rest (s.voidOne n l) = { rest s with held := held } ∧
    heldBeside n held = heldBeside n (rest s).held := by
  have hvoid : rest (s.voidOne n l) = rest (s.mapTxn n fun x => x.voidLine l) := by simp [State.voidOne]
  rw [hvoid]
  unfold State.mapTxn
  cases hx : s.findTxn n with
  | none => exact ⟨_, rfl, rfl⟩
  | some x =>
    refine ⟨(putTxn (x.voidLine l) s.txn.held).map bare, rfl, ?_⟩
    have hnumber : (x.voidLine l).number = n := findTxn_number (x := x) hx
    rw [heldBeside_map_bare, rest, heldBeside_map_bare]
    exact congrArg (List.map bare) (hnumber ▸ putTxn_filter (x.voidLine l) s.txn.held)

theorem voidAll_rest (s : State) (x : Txn) : ∃ held, rest (s.voidAll x) = { rest s with held := held } ∧
    heldBeside x.number held = heldBeside x.number (rest s).held := by
  unfold State.voidAll
  induction unvoided x.lines generalizing s with
  | nil => exact ⟨_, rfl, rfl⟩
  | cons l ls ih =>
    obtain ⟨held, hone, hbeside⟩ := voidOne_rest s x.number l
    obtain ⟨held', hrest, hbeside'⟩ := ih (s.voidOne x.number l)
    rw [hone] at hrest hbeside'
    exact ⟨held', hrest, hbeside'.trans hbeside⟩

theorem removeTxn_rest (s : State) (x : Txn) :
    rest (s.removeTxn x) = { rest s with held := heldBeside x.number (rest s).held } := by
  obtain ⟨clerks, hframe⟩ := removeTxn_frame x s
  have hclerks : (rest (s.removeTxn x)).clerks = (rest s).clerks := by
    funext c
    by_cases hc : c = x.clerk
    · subst hc
      simp only [rest, removeTxn_clerk_same]
      split_ifs <;> rfl
    · simp only [rest, removeTxn_clerk_of_ne s hc]
  have hheld : (rest (s.removeTxn x)).held = heldBeside x.number (rest s).held := by
    rw [rest, rest, heldBeside_map_bare, hframe]
    rfl
  calc rest (s.removeTxn x)
      = { rest s with clerks := (rest (s.removeTxn x)).clerks, held := (rest (s.removeTxn x)).held } := by
        rw [hframe]; rfl
    _ = { rest s with held := heldBeside x.number (rest s).held } := by rw [hclerks, hheld]

/-- The totals once a ticket's outcome is posted, if the ticket is CALLED (R148). -/
def endedTotals (called : List CalledTicket) (k : TicketId) (o : TicketOutcome) (t : Totals) : Totals :=
  match called.find? fun x => x.ticket.id = k with
  | none => t
  | some x => t.postTicket k.cls (o.change x.ticket)

/-- The CALLED tickets but for one. -/
def calledBeside (k : TicketId) (called : List CalledTicket) : List CalledTicket := called.filter fun x => x.ticket.id ≠ k

theorem endTicket_rest (s : State) (k : TicketId) (o : TicketOutcome) : rest (s.endTicket k o) = { rest s with
    queue := { (rest s).queue with called := calledBeside k (rest s).queue.called }
    totals := endedTotals (rest s).queue.called k o (rest s).totals } := by
  have hfind : s.findCalled k = (rest s).queue.called.find? fun x => x.ticket.id = k := rfl
  unfold State.endTicket endedTotals
  rw [hfind]
  cases h : (rest s).queue.called.find? fun x => x.ticket.id = k with
  | none =>
    have hsame : calledBeside k (rest s).queue.called = (rest s).queue.called :=
      List.filter_eq_self.2 fun x hx => by simpa using List.find?_eq_none.1 h x hx
    rw [hsame]
  | some x => rfl

/-- The CALLED tickets and the totals once a transaction is force-voided (R126, R174 step 1). -/
def forcedVoid (e : List CalledTicket × Totals) (x : Txn) : List CalledTicket × Totals :=
  let totals := e.2.postForcedVoid x.clerk x.subtotal
  match x.ticket with
  | none => (e.1, totals)
  | some k => (calledBeside k e.1, endedTotals e.1 k .abandoned totals)

theorem forceVoid_rest {s : State} {n : Nat} {x : Txn} (hx : s.findTxn n = some x) :
    let e := forcedVoid ((rest s).queue.called, (rest s).totals) x
    rest (s.forceVoid n) = { rest s with
      held := heldBeside n (rest s).held
      queue := { (rest s).queue with called := e.1 }
      totals := e.2 } := by
  intro e
  obtain ⟨held, hvoid, hbeside⟩ := voidAll_rest s x
  rw [Tickets.forceVoid_eq hx, removeTxn_rest, ← findTxn_number hx, ← hbeside]
  dsimp only [e, forcedVoid]
  cases x.ticket with
  | none => rw [Option.elim_none, id, mapTotals_rest, hvoid]
  | some k => rw [Option.elim_some, endTicket_rest, mapTotals_rest, hvoid]

theorem forceVoids_rest (ks : List Txn) (s : State) (h : (rest s).held = ks.map bare) (hn : (ks.map (·.number)).Nodup) :
    let e := ks.foldl forcedVoid ((rest s).queue.called, (rest s).totals)
    rest ((ks.map (·.number)).foldl State.forceVoid s) = { rest s with
      held := []
      queue := { (rest s).queue with called := e.1 }
      totals := e.2 } := by
  induction ks generalizing s with
  | nil => exact congrArg (fun held => { rest s with held := held }) h
  | cons y ys ih =>
    obtain ⟨hout, hys⟩ := List.nodup_cons.1 hn
    obtain ⟨x, xs, hheld, hxy, -⟩ := List.map_eq_cons_iff.1 (show s.txn.held.map bare = bare y :: ys.map bare from h)
    have hnumber : x.number = y.number := (congrArg Txn.number hxy :)
    have hfind : s.findTxn y.number = some x := by
      rw [State.findTxn, hheld, List.find?_cons_of_pos (by simpa using hnumber)]
    have hsame (e : List CalledTicket × Totals) : forcedVoid e x = forcedVoid e y :=
      (congrArg (forcedVoid e) hxy :)
    have hbeside : heldBeside y.number ((y :: ys).map bare) = ys.map bare := by
      rw [heldBeside_map_bare]
      refine congrArg (List.map bare) ?_
      rw [heldBeside, List.filter_cons_of_neg (by simp)]
      exact List.filter_eq_self.2 fun z hz => decide_eq_true fun hzy => hout (List.mem_map.2 ⟨z, hz, hzy⟩)
    have hone := forceVoid_rest hfind
    rw [hsame, h, hbeside] at hone
    rw [List.map_cons, List.foldl_cons, List.foldl_cons, ih _ (by rw [hone]) hys, hone]

theorem forceVoidAll_rest (s : State) (hn : (s.txn.held.map (·.number)).Nodup) :
    let e := s.txn.held.foldl forcedVoid (s.queue.called, s.totals)
    rest s.forceVoidAll = { rest s with
      held := []
      queue := { s.queue with called := e.1 }
      totals := e.2 } := forceVoids_rest s.txn.held s rfl hn

/-! ### The queue's end of the day (R149) -/

/-- The totals once some tickets are abandoned. -/
def abandoned (ts : List Ticket) (t : Totals) : Totals := ts.foldl (fun t x => t.postTicket x.id.cls .abandoned) t

theorem abandoned_append (ts us : List Ticket) (t : Totals) : abandoned (ts ++ us) t = abandoned us (abandoned ts t) :=
  List.foldl_append ..

theorem abandonTickets_eq (s : State) (ts : List Ticket) :
    s.abandonTickets ts = { s with totals := abandoned ts s.totals } := by
  unfold State.abandonTickets abandoned
  induction ts generalizing s with
  | nil => rfl
  | cons x ts ih => rw [List.foldl_cons, ih]; rfl

/-- A class record whose waiting list is empty. -/
def cleared (x : ClassRecord) : ClassRecord := { x with waiting := [] }

theorem abandonClass_rest (s : State) (k : TicketClass) : rest (s.abandonClass k) = { rest s with
    queue := { (rest s).queue with classes := (rest s).queue.classes.set k (cleared ((rest s).queue.classes.get k)) }
    totals := abandoned ((rest s).queue.classes.get k).waiting (rest s).totals } := by
  unfold State.abandonClass
  dsimp only
  split
  · next h =>
    have hnil : ((rest s).queue.classes.get k).waiting = [] := List.isEmpty_iff.1 h
    have hclear : cleared ((rest s).queue.classes.get k) = (rest s).queue.classes.get k := by
      rw [cleared, ← hnil]
    rw [hclear, hnil, PerClass.set_get]
    rfl
  · rw [queueChange_rest, abandonTickets_eq]
    rfl

/-- The classes with their waiting lists empty. -/
def clearedClasses (cs : PerClass ClassRecord) : PerClass ClassRecord :=
  ⟨cleared cs.a, cleared cs.b, cleared cs.c, cleared cs.d⟩

/-- Every ticket that waits or is missed, in the order in which the end of the day takes them (log entry 38). -/
def endedTickets (q : TicketQueue) : List Ticket :=
  q.classes.a.waiting ++ q.classes.b.waiting ++ q.classes.c.waiting ++ q.classes.d.waiting ++ q.missed

theorem endDay_rest (s : State) : rest s.endDay = { rest s with
    queue := { (rest s).queue with classes := clearedClasses (rest s).queue.classes, missed := [] }
    totals := abandoned (endedTickets (rest s).queue) (rest s).totals } := by
  let v := TicketClass.all.foldl State.abandonClass s
  have hend : rest s.endDay = { rest v with
      queue := { (rest v).queue with missed := [] }
      totals := abandoned (rest v).queue.missed (rest v).totals } := by
    rw [State.endDay, abandonTickets_eq]
    rfl
  have hall : rest v = { rest s with
      queue := { (rest s).queue with classes := clearedClasses (rest s).queue.classes }
      totals := abandoned (rest s).queue.classes.d.waiting (abandoned (rest s).queue.classes.c.waiting
        (abandoned (rest s).queue.classes.b.waiting (abandoned (rest s).queue.classes.a.waiting (rest s).totals))) } := by
    simp only [v, TicketClass.all, List.foldl_cons, List.foldl_nil, abandonClass_rest]
    rfl
  rw [hend, hall]
  simp only [endedTickets, abandoned_append]

end Sys2Proof.Machine.DayEnd
end

section
/-! PROOF. CLOSE DAY: the totals of a close, and the settling of the request (O56). -/

namespace Sys2Proof.Machine.DayEnd

open PlatterOps PluTable Books Ordered Calls

/-! ### What a close posts (R126, R149, R178, R179) -/

/-- What the postings of tickets' ends and of a number of forced voids leave of the totals. -/
structure Posted (t t' : Totals) (voids : Nat) : Prop where
  departments : t'.acc.departments = t.acc.departments
  stations : t'.acc.stations = t.acc.stations
  plus : t'.acc.plus = t.acc.plus
  opened : t'.day.opened = t.day.opened
  number : t'.day.number = t.day.number
  labelsLost : t'.day.labelsLost = t.day.labelsLost
  refusals : t'.day.refusals = t.day.refusals
  watches : t'.watches = t.watches
  forcedVoids : t.day.forcedVoids + voids ≤ 999999 → t'.day.forcedVoids = t.day.forcedVoids + voids
  quiet : voids = 0 → t'.acc.clerks = t.acc.clerks ∧ t'.day.forcedVoids = t.day.forcedVoids

section Posted
variable {t t' t'' : Totals} {n m : Nat}

theorem Posted.refl (t : Totals) : Posted t t 0 :=
  ⟨rfl, rfl, rfl, rfl, rfl, rfl, rfl, rfl, fun _ => rfl, fun _ => ⟨rfl, rfl⟩⟩

theorem Posted.trans (h : Posted t t' n) (h' : Posted t' t'' m) : Posted t t'' (n + m) where
  departments := h'.departments.trans h.departments
  stations := h'.stations.trans h.stations
  plus := h'.plus.trans h.plus
  opened := h'.opened.trans h.opened
  number := h'.number.trans h.number
  labelsLost := h'.labelsLost.trans h.labelsLost
  refusals := h'.refusals.trans h.refusals
  watches := h'.watches.trans h.watches
  forcedVoids := fun hroom => by
    have hfirst := h.forcedVoids (by omega)
    rw [h'.forcedVoids (by omega), hfirst, Nat.add_assoc]
  quiet := fun hnone => by
    obtain ⟨hclerks, hvoids⟩ := h.quiet (by omega)
    obtain ⟨hclerks', hvoids'⟩ := h'.quiet (by omega)
    exact ⟨hclerks'.trans hclerks, hvoids'.trans hvoids⟩

theorem posted_postTicket (t : Totals) (k : TicketClass) (change : TicketChange) : Posted t (t.postTicket k change) 0 :=
  ⟨rfl, rfl, rfl, rfl, rfl, rfl, rfl, rfl, fun _ => rfl, fun _ => ⟨rfl, rfl⟩⟩

theorem posted_postForcedVoid (t : Totals) (c : ClerkNo) (subtotal : Nat) : Posted t (t.postForcedVoid c subtotal) 1 where
  departments := rfl
  stations := rfl
  plus := rfl
  opened := rfl
  number := rfl
  labelsLost := rfl
  refusals := rfl
  watches := rfl
  forcedVoids := fun hroom => if_pos (show t.day.forcedVoids < 999999 by omega)
  quiet := nofun

theorem posted_abandoned (ts : List Ticket) (t : Totals) : Posted t (abandoned ts t) 0 := by
  induction ts generalizing t with
  | nil => exact .refl t
  | cons x ts ih => exact (posted_postTicket t x.id.cls .abandoned).trans (ih _)

theorem posted_endedTotals (called : List CalledTicket) (k : TicketId) (o : TicketOutcome) (t : Totals) :
    Posted t (endedTotals called k o t) 0 := by
  unfold endedTotals
  split
  · exact .refl t
  · exact posted_postTicket t _ _

theorem posted_forcedVoids (ks : List Txn) (e : List CalledTicket × Totals) :
    Posted e.2 (ks.foldl forcedVoid e).2 ks.length := by
  induction ks generalizing e with
  | nil => exact .refl e.2
  | cons x ks ih =>
    have hone : Posted e.2 (forcedVoid e x).2 1 := by
      unfold forcedVoid
      cases x.ticket with
      | none => exact posted_postForcedVoid e.2 x.clerk x.subtotal
      | some k => exact (posted_postForcedVoid e.2 x.clerk x.subtotal).trans (posted_endedTotals e.1 k .abandoned _)
    rw [List.length_cons, Nat.add_comm]
    exact hone.trans (ih _)

end Posted

/-! ### The CALLED tickets of the transactions voided -/

section Called
variable {ks : List Txn} {e : List CalledTicket × Totals}

theorem mem_calledBeside {k : TicketId} {y : CalledTicket} {called : List CalledTicket} :
    y ∈ calledBeside k called ↔ y ∈ called ∧ y.ticket.id ≠ k := by simp [calledBeside]

/-- The tickets that stay CALLED are those of no transaction voided. -/
theorem mem_forcedVoids {y : CalledTicket} (h : y ∈ (ks.foldl forcedVoid e).1) :
    y ∈ e.1 ∧ ∀ x ∈ ks, x.ticket ≠ some y.ticket.id := by
  induction ks generalizing e with
  | nil => exact ⟨h, fun x hx => absurd hx List.not_mem_nil⟩
  | cons x ks ih =>
    obtain ⟨hmem, hrest⟩ := ih h
    unfold forcedVoid at hmem
    cases hk : x.ticket with
    | none =>
      rw [hk] at hmem
      refine ⟨hmem, fun z hz => ?_⟩
      rcases List.mem_cons.1 hz with rfl | hz
      · rw [hk]; nofun
      · exact hrest z hz
    | some k =>
      rw [hk] at hmem
      obtain ⟨hmem, hne⟩ := mem_calledBeside.1 hmem
      refine ⟨hmem, fun z hz => ?_⟩
      rcases List.mem_cons.1 hz with rfl | hz
      · rw [hk]
        exact fun he => hne (Option.some.inj he).symm
      · exact hrest z hz

theorem endedTotals_of_find {called : List CalledTicket} {k : TicketId} {y : CalledTicket} (o : TicketOutcome) (t : Totals)
    (h : called.find? (fun x => x.ticket.id = k) = some y) :
    endedTotals called k o t = t.postTicket k.cls (o.change y.ticket) := by
  unfold endedTotals
  rw [h]

/-- The postings of a forced void whose ticket is CALLED. -/
def forcedPosting (t : Totals) (x : Txn) : Totals :=
  let t := t.postForcedVoid x.clerk x.subtotal
  match x.ticket with
  | some k => t.postTicket k.cls .abandoned
  | none => t

/-- With the tickets of all the transactions CALLED, and no two of one ticket, each forced void posts its ticket's end. -/
theorem forcedVoids_totals (hcalled : ∀ x ∈ ks, ∀ k, x.ticket = some k → ∃ y ∈ e.1, y.ticket.id = k)
    (honce : ks.Pairwise fun x y => x.ticket = none ∨ x.ticket ≠ y.ticket) :
    (ks.foldl forcedVoid e).2 = ks.foldl forcedPosting e.2 := by
  induction ks generalizing e with
  | nil => rfl
  | cons x ks ih =>
    obtain ⟨happart, honce⟩ := List.pairwise_cons.1 honce
    have hone : (forcedVoid e x).2 = forcedPosting e.2 x := by
      unfold forcedVoid forcedPosting
      cases hk : x.ticket with
      | none => rfl
      | some k =>
        obtain ⟨y, hy, hyk⟩ := hcalled x List.mem_cons_self k hk
        cases hfind : e.1.find? fun x => x.ticket.id = k with
        | none => exact absurd hyk (by simpa using List.find?_eq_none.1 hfind y hy)
        | some z => exact endedTotals_of_find .abandoned _ hfind
    rw [List.foldl_cons, List.foldl_cons, ← hone]
    refine ih (fun z hz k hk => ?_) honce
    obtain ⟨y, hy, hyk⟩ := hcalled z (List.mem_cons_of_mem x hz) k hk
    refine ⟨y, ?_, hyk⟩
    unfold forcedVoid
    cases hx : x.ticket with
    | none => exact hy
    | some m =>
      refine mem_calledBeside.2 ⟨hy, fun hym => ?_⟩
      refine (happart z hz).elim (fun hnone => nomatch hx.symm.trans hnone) fun hne => hne ?_
      rw [hx, hk, ← hyk, hym]

end Called

/-! ### The reports on their way (R149) -/

section Settled

theorem hearReport_frame (s : State) (m : TicketId × TicketReport) : ∃ called totals,
    s.hearReport m = { s with queue := { s.queue with called := called }, totals := totals } ∧ Posted s.totals totals 0 := by
  obtain ⟨k, r | o⟩ := m
  · change ∃ called totals, s.hearBound k r = _ ∧ _
    unfold State.hearBound
    split
    · exact ⟨_, _, rfl, .refl _⟩
    · exact ⟨_, _, rfl, .refl _⟩
  · change ∃ called totals, s.endTicket k o = _ ∧ _
    unfold State.endTicket
    split
    · exact ⟨_, _, rfl, .refl _⟩
    · exact ⟨_, _, rfl, posted_postTicket _ _ _⟩

theorem settleTickets_frame (s : State) : ∃ called totals, s.settleTickets = { s with
      queue := { s.queue with called := called }
      totals := totals
      transit := { s.transit with ticketReports := [] } } ∧ Posted s.totals totals 0 := by
  have hheard (ms : List (TicketId × TicketReport)) (s : State) : ∃ called totals, ms.foldl State.hearReport s =
      { s with queue := { s.queue with called := called }, totals := totals } ∧ Posted s.totals totals 0 := by
    induction ms generalizing s with
    | nil => exact ⟨_, _, rfl, .refl _⟩
    | cons m ms ih =>
      obtain ⟨called, totals, hone, hposted⟩ := hearReport_frame s m
      obtain ⟨called', totals', hall, hposted'⟩ := ih (s.hearReport m)
      rw [hone] at hall hposted'
      refine ⟨called', totals', ?_, hposted.trans hposted'⟩
      rw [List.foldl_cons, hone, hall]
  obtain ⟨called, totals, hframe, hposted⟩ := hheard s.transit.ticketReports s
  refine ⟨called, totals, ?_, hposted⟩
  unfold State.settleTickets
  rw [hframe]

/-- The links play no part in the settling. -/
theorem settleTickets_link (s : State) (link : LinkController) :
    ({ s with link := link } : State).settleTickets = { s.settleTickets with link := link } := by
  have hone (s : State) (m : TicketId × TicketReport) :
      ({ s with link := link } : State).hearReport m = { s.hearReport m with link := link } := by
    obtain ⟨k, r | o⟩ := m
    · change ({ s with link := link } : State).hearBound k r = { s.hearBound k r with link := link }
      have hfind : ({ s with link := link } : State).findCalled k = s.findCalled k := rfl
      unfold State.hearBound
      rw [hfind]
      cases s.findCalled k <;> rfl
    · change ({ s with link := link } : State).endTicket k o = { s.endTicket k o with link := link }
      have hfind : ({ s with link := link } : State).findCalled k = s.findCalled k := rfl
      unfold State.endTicket
      rw [hfind]
      cases s.findCalled k <;> rfl
  have hall (ms : List (TicketId × TicketReport)) (s : State) :
      ms.foldl State.hearReport { s with link := link } = { ms.foldl State.hearReport s with link := link } := by
    induction ms generalizing s with
    | nil => rfl
    | cons m ms ih => rw [List.foldl_cons, hone, ih]; rfl
  unfold State.settleTickets
  rw [hall]

end Settled

/-! ### The counter cleared (R174 steps 1 and 2) -/

/-- The CALLED tickets and the totals after the forced voids of a close. -/
def voided (s : State) : List CalledTicket × Totals :=
  s.txn.held.foldl forcedVoid (s.settleTickets.queue.called, s.settleTickets.totals)

section Cleared
variable {s : State} {mode : CloseMode}

theorem clearCounter_rest (h : mode = .force ∨ s.txn.held = []) (hn : (s.txn.held.map (·.number)).Nodup) :
    rest (s.clearCounter mode) = { rest s with
      held := []
      queue := { s.queue with called := (voided s).1, classes := clearedClasses s.queue.classes, missed := [] }
      totals := abandoned (endedTickets s.queue) (voided s).2 } := by
  obtain ⟨called, totals, hsettled, -⟩ := settleTickets_frame s
  have hrest : rest s.settleTickets = { rest s with
      queue := { s.queue with called := s.settleTickets.queue.called }
      totals := s.settleTickets.totals } := by rw [hsettled]; rfl
  have htxn : s.settleTickets.txn = s.txn := by rw [hsettled]
  have hqueue : s.settleTickets.queue = { s.queue with called := s.settleTickets.queue.called } := by rw [hsettled]
  have hends (v : State) (hv : rest v = { rest s with
      held := []
      queue := { s.queue with called := (voided s).1 }
      totals := (voided s).2 }) : rest v.endDay = { rest s with
        held := []
        queue := { s.queue with called := (voided s).1, classes := clearedClasses s.queue.classes, missed := [] }
        totals := abandoned (endedTickets s.queue) (voided s).2 } := by
    rw [endDay_rest, hv]
    rfl
  cases mode with
  | force =>
    refine hends s.settleTickets.forceVoidAll ?_
    have hall := forceVoidAll_rest s.settleTickets (htxn ▸ hn)
    rw [htxn, hrest] at hall
    rw [hall, hqueue]
    rfl
  | normal =>
    refine hends s.settleTickets ?_
    have hheld : s.txn.held = [] := h.resolve_left nofun
    have hnone : (rest s).held = [] := by rw [rest, hheld]; rfl
    have hsame : voided s = (s.settleTickets.queue.called, s.settleTickets.totals) := by rw [voided, hheld]; rfl
    rw [hsame, ← hnone]
    exact hrest

/-- What the clearing posts. -/
theorem clearCounter_posted (s : State) (ts : List Ticket) :
    Posted s.totals (abandoned ts (voided s).2) s.txn.held.length := by
  obtain ⟨called, totals, hsettled, hposted⟩ := settleTickets_frame s
  have htotals : s.settleTickets.totals = totals := by rw [hsettled]
  have hall := (hposted.trans (posted_forcedVoids s.txn.held (s.settleTickets.queue.called, totals))).trans
    (posted_abandoned ts _)
  rw [Nat.zero_add, Nat.add_zero] at hall
  rw [voided, htotals]
  exact hall

/-- Where each CALLED ticket is bound to one held transaction, each transaction posts its ticket's end. -/
theorem voided_totals (h : s.BoundLaw) : (voided s).2 = s.txn.held.foldl forcedPosting s.settleTickets.totals := by
  have hbound : s.settleTickets.BoundLaw := Tickets.boundLaw_iff.2 (Tickets.settleTickets_bound (Tickets.boundLaw_iff.1 h))
  obtain ⟨_, _, hsettled, -⟩ := settleTickets_frame s
  have htxn : s.settleTickets.txn = s.txn := by rw [hsettled]
  rw [voided, ← htxn]
  refine forcedVoids_totals (fun x hx k hk => ?_) hbound.once
  obtain ⟨⟨y, hy, hyk, -⟩, -⟩ := hbound.called x hx k hk
  exact ⟨y, hy, hyk⟩

/-- The totals after the forced voids of a close, where its mode or the law of the bound transactions settles them. -/
theorem voided_standing (hmode : mode = .force ∨ s.txn.held = []) (h : mode = .normal ∨ s.BoundLaw) : (voided s).2 =
    if mode = .force then s.txn.held.foldl forcedPosting s.settleTickets.totals else s.settleTickets.totals := by
  cases mode with
  | force => exact voided_totals (h.resolve_left nofun)
  | normal => rw [voided, hmode.resolve_left nofun]; rfl

/-- No ticket stays CALLED where each is of a held transaction, or its end is on its way. -/
theorem voided_called (h : ∀ y ∈ s.queue.called, (∃ x ∈ s.txn.held, x.ticket = some y.ticket.id) ∨
    ∃ o, (y.ticket.id, TicketReport.outcome o) ∈ s.transit.ticketReports) : (voided s).1 = [] := by
  refine List.eq_nil_iff_forall_not_mem.2 fun y hy => ?_
  obtain ⟨hsettled, hvoided⟩ := mem_forcedVoids hy
  have hbond : Tickets.bond y ∈ (Tickets.desk s.settleTickets).called := List.mem_map_of_mem hsettled
  rw [Tickets.settleTickets_desk] at hbond
  obtain ⟨hcalled, hgone⟩ := List.mem_filter.1 hbond
  obtain ⟨z, hz, hzy⟩ := List.mem_map.1 hcalled
  have hid : z.ticket.id = y.ticket.id := congrArg Prod.fst hzy
  rcases h z hz with ⟨x, hx, hticket⟩ | ⟨o, ho⟩
  · exact hvoided x hx (hid ▸ hticket)
  · exact of_decide_eq_true hgone (Tickets.mem_gone.2 ⟨o, show (y.ticket.id, _) ∈ _ from hid ▸ ho⟩)

end Cleared

/-! ### The request (R173, R174) -/

section Request
variable {s : State} {p : Port} {t : Tag} {mode : CloseMode} {d : OpenDay}

theorem exec_closeDay (p : Port) (t : Tag) (mode : CloseMode) (s : State) :
    exec (.closeDay p t mode) s = execCloseDay p t mode s := rfl

theorem unitsEnded_iff : s.unitsEnded = true ↔ s.queue.calls = [] ∧ s.transit.discards = [] := by
  simp [State.unitsEnded]

theorem closeDay_waits (h : s.queue.calls ≠ [] ∨ s.transit.discards ≠ []) : exec (.closeDay p t mode) s = .next s := by
  rw [exec_closeDay, execCloseDay, if_neg]
  rw [unitsEnded_iff, not_and_or]
  exact h

/-- What a close does once its request is taken. -/
def closeEffect (mode : CloseMode) (r : Requester) (s : State) : State :=
  match s.closeDayTests mode with
  | .error e => s.refuse r e
  | .ok d => ((s.clearCounter mode).sealDay mode d).ok r
      (.dayClosed (s.clearCounter mode).totals.day.number (s.clearCounter mode).totals.day.forcedVoids)

theorem exec_closeDay_of_ended (hcalls : s.queue.calls = []) (hdiscards : s.transit.discards = []) :
    exec (.closeDay p t mode) s = takeRequest p t (.closeDay p t mode) s (closeEffect mode) := by
  rw [exec_closeDay, execCloseDay, if_pos (unitsEnded_iff.2 ⟨hcalls, hdiscards⟩)]
  rfl

theorem closeDayTests_eq (s : State) (mode : CloseMode) : s.closeDayTests mode =
    match s.totals.day.opened with
    | none => .error .dayClosed
    | some d => if mode = .normal ∧ s.txn.held ≠ [] then .error .openTxn else .ok d := by
  unfold State.closeDayTests
  cases s.totals.day.opened with
  | none => rfl
  | some d =>
    cases mode with
    | force => rfl
    | normal => cases hheld : s.txn.held <;> rfl

theorem closeDay_refuses {e : Result} (hw : Waiting s p t (.closeDay p t mode)) (hcalls : s.queue.calls = [])
    (hdiscards : s.transit.discards = []) (h : s.closeDayTests mode = .error e) :
    Refuses (.closeDay p t mode) p t s e := by
  have htaken : (s.taken p t (.closeDay p t mode)).closeDayTests mode = .error e := h
  exact refuses_takeRequest hw (exec_closeDay_of_ended hcalls hdiscards) (by rw [closeEffect, htaken])

/-- A cleared counter once its day is sealed: beside the notices and the reply, the totals and the closed list change. -/
theorem closeDay_seals (hw : Waiting s p t (.closeDay p t mode)) (hcalls : s.queue.calls = [])
    (hdiscards : s.transit.discards = []) (h : s.closeDayTests mode = .ok d)
    (hkept : ∀ v, v = (s.taken p t (.closeDay p t mode)).clearCounter mode →
      (∀ q, (v.linkOf q).slots = ((s.taken p t (.closeDay p t mode)).linkOf q).slots) ∧
      v.transit.cancellations = s.transit.cancellations) :
    ∃ v link u, v = (s.taken p t (.closeDay p t mode)).clearCounter mode ∧ exec (.closeDay p t mode) s = .next u ∧
      u = { v with
        link := link
        txn := { v.txn with closed := [] }
        totals := v.totals.closeDay mode v.now } ∧
      Replied u ⟨p, t, requestCode (.closeDay p t mode)⟩ .ok (.dayClosed v.totals.day.number v.totals.day.forcedVoids) ∧
      ∀ q, v.hears q .dayState →
        .dayState false v.totals.day.number d.date (closeCause mode) v.totals.day.forcedVoids ∈ (u.linkOf q).outbox := by
  let i := Instr.closeDay p t mode
  let v := (s.taken p t i).clearCounter mode
  let n := Notice.dayState false v.totals.day.number d.date (closeCause mode) v.totals.day.forcedVoids
  let sealed : State := { v with
    txn := { v.txn with closed := [] }
    totals := v.totals.closeDay mode v.now }
  let w := sealed.notifyAll Port.all n
  let r : Requester := ⟨p, t, requestCode i⟩
  let answered := w.ok r (.dayClosed v.totals.day.number v.totals.day.forcedVoids)
  obtain ⟨hslots, hcancellations⟩ := hkept v rfl
  have hexec : exec i s = .next answered.transmitAll := by
    have htaken : (s.taken p t i).closeDayTests mode = .ok d := h
    rw [exec_closeDay_of_ended hcalls hdiscards, takeRequest_of_awaits hw.2, closeEffect, htaken]
    rfl
  have htold := Printing.onlyTold_notifyAll sealed Port.all n
  obtain ⟨link, hnotified⟩ := htold.frame
  obtain ⟨link', hreply⟩ := (Printing.onlyAnswered_reply w r .ok
    (.dayClosed v.totals.day.number v.totals.day.forcedVoids)).frame
  obtain ⟨link'', hsent⟩ := (Printing.onlyTold_transmitAll answered).frame
  refine ⟨v, link'', answered.transmitAll, rfl, hexec, ?_, replied_of_waits _ _ ?_ ?_, fun q hq => ?_⟩
  · rw [hsent]
    have hanswered : answered = { w with link := link' } := hreply
    rw [hanswered, show w = { sealed with link := link } from hnotified]
  · have hwaits : (w.linkOf p).slots = ((s.taken p t i).linkOf p).slots := (htold.slots p).trans (hslots p)
    rw [hwaits]
    exact taken_waits hw
  · have htransit : w.transit.cancellations = s.transit.cancellations := by
      rw [show w = { sealed with link := link } from hnotified]
      exact hcancellations
    rw [htransit]
    exact State.awaits_uncancelled (s := s) hw.2
  · rw [transmitAll_outbox]
    rw [show (answered.linkOf q).outbox = (w.linkOf q).outbox from reply_outbox w r .ok _ q]
    exact notifyAll_mem_outbox rfl (mem_all_ports q) hq

theorem taken_rest (s : State) (p : Port) (t : Tag) (c : Instr) :
    rest (s.taken p t c) = { rest s with slots := fun q => ((s.taken p t c).linkOf q).slots } := by
  have hhears : (s.taken p t c).hears = s.hears := by
    funext q k
    simp only [State.hears, State.taken, State.linkOf_mapLink, State.mapLink_priorities]
    split_ifs <;> rfl
  have htaken : rest (s.taken p t c) = { rest s with
    slots := fun q => ((s.taken p t c).linkOf q).slots
    hears := (s.taken p t c).hears } := rfl
  rw [htaken, hhears]
  rfl

theorem voided_taken (s : State) (p : Port) (t : Tag) (c : Instr) : voided (s.taken p t c) = voided s := by
  have hsettled := settleTickets_link s (s.taken p t c).link
  have htaken : ({ s with link := (s.taken p t c).link } : State) = s.taken p t c := rfl
  rw [htaken] at hsettled
  unfold voided
  rw [hsettled]
  rfl

/-- The counter that a close has cleared. -/
theorem taken_clearCounter_rest (h : mode = .force ∨ s.txn.held = []) (ha : Ascending Txn.number s.txn.held) (c : Instr) :
    rest ((s.taken p t c).clearCounter mode) = { rest s with
      held := []
      queue := { s.queue with called := (voided s).1, classes := clearedClasses s.queue.classes, missed := [] }
      totals := abandoned (endedTickets s.queue) (voided s).2
      slots := fun q => ((s.taken p t c).linkOf q).slots } := by
  have hn : ((s.taken p t c).txn.held.map (·.number)).Nodup := List.pairwise_map.2 (List.Pairwise.imp (fun h => Nat.ne_of_lt h) ha)
  rw [clearCounter_rest (s := s.taken p t c) h hn, taken_rest, voided_taken]
  rfl

theorem rearmAll_getElem (ws : Vector Watch 4) (j : Fin 4) :
    (rearmAll ws)[j] = { ws[j] with armed := ws[j].armed || ws[j].cond ≠ .off } := by
  fin_cases j <;> simp [rearmAll, Watch.rearm]

/-- With no transaction held none is parked or any clerk's, and no stock is held. -/
theorem nothing_held {v : State} (hr : TableRules v) (hk : Stocked v.plus (uses v)) (hheld : v.txn.held = []) :
    v.txn.parked = [] ∧ (∀ c, (v.clerk c).openTxn = none) ∧
      ∀ r ∈ v.plus, r.openLines = 0 ∧ ∀ a, r.stock = some a → a.held = 0 := by
  have hnone (n : Nat) : v.findTxn n = none := by rw [State.findTxn, hheld]; rfl
  have huses : uses v = [] := by rw [uses, hheld]; rfl
  refine ⟨List.eq_nil_iff_forall_not_mem.2 fun n hn => ?_, fun c => Option.eq_none_iff_forall_ne_some.2 fun n hn => ?_,
    fun r hr => ?_⟩
  · obtain ⟨x, hx, -⟩ := (hr.parked n).1 hn
    exact nomatch (hnone n).symm.trans hx
  · obtain ⟨x, hx, -⟩ := (hr.openTxns c n).1 hn
    exact nomatch (hnone n).symm.trans hx
  · obtain ⟨hopen, hstock⟩ := hk.tallies r hr
    rw [huses] at hopen hstock
    exact ⟨hopen, fun a ha => (hstock a ha).2⟩


end Request

/-- Settles O56: the wait, the refusals, and the close: the counter cleared, its postings, and the day sealed. -/
theorem closeDay : Obligations.CloseDay := by
  intro s p t mode i
  refine ⟨closeDay_waits, fun hw hcalls hdiscards hlaw hstock => ?_⟩
  have htests := closeDayTests_eq s mode
  cases hd : s.totals.day.opened with
  | none =>
    rw [hd] at htests
    exact closeDay_refuses hw hcalls hdiscards htests
  | some d =>
    rw [hd] at htests
    dsimp only at htests ⊢
    by_cases hnormal : mode = .normal ∧ s.txn.held ≠ []
    · rw [if_pos hnormal] at htests ⊢
      exact closeDay_refuses hw hcalls hdiscards htests
    rw [if_neg hnormal] at htests ⊢
    have hmode : mode = .force ∨ s.txn.held = [] := by
      cases mode with
      | force => exact .inl rfl
      | normal => exact .inr (by simpa using hnormal)
    have hr := tableLaw_iff.1 hlaw
    let u₀ := s.taken p t i
    have hrules : TableRules u₀ := tableRules_of_books (taken_books s p t i) hr
    obtain ⟨hrulesCleared, hstocked⟩ := clearCounter_follows hrules mode
    have hrest := taken_clearCounter_rest (p := p) (t := t) hmode hr.ascending i
    have hkept (v : State) (hv : v = u₀.clearCounter mode) : (∀ q, (v.linkOf q).slots = (u₀.linkOf q).slots) ∧
        v.transit.cancellations = s.transit.cancellations := by
      subst hv
      exact ⟨fun q => congrFun (congrArg Rest.slots hrest) q, congrArg Rest.cancellations hrest⟩
    obtain ⟨v, link, u, hv, hexec, hframe, hreplied, houtbox⟩ := closeDay_seals hw hcalls hdiscards htests hkept
    rw [← hv] at hrest hrulesCleared hstocked
    have htotals : v.totals = abandoned (endedTickets s.queue) (voided s).2 := (congrArg Rest.totals hrest :)
    have hqueue : v.queue = { s.queue with
      called := (voided s).1, classes := clearedClasses s.queue.classes, missed := [] } := (congrArg Rest.queue hrest :)
    have hheld : v.txn.held = [] := List.map_eq_nil_iff.1 (congrArg Rest.held hrest :)
    have hclock : v.clock = s.clock := (congrArg Rest.clock hrest :)
    obtain ⟨hparked, hopen, hplus⟩ := nothing_held hrulesCleared (hstocked (stockLaw_iff.1 hstock :)) hheld
    have hposted := clearCounter_posted s (endedTickets s.queue)
    rw [← htotals] at hposted
    have hnow : v.now = s.clock.now := by rw [State.now, hclock]
    subst hframe
    refine ⟨_, ⟨v.totals.day, v.totals.acc, mode, v.now⟩, hexec, ?_, hheld, hparked, rfl, (congrArg Rest.inFlight hrest :),
      fun c => ?_, hplus, fun k => ?_, ?_, fun hcalled => ?_, ?_, rfl, rfl, fun j => ?_, fun hstanding => ?_, fun hquiet => ?_,
      rfl, hnow, hposted.opened.trans hd, hposted.number, hposted.labelsLost, hposted.refusals, fun hquiet => ?_,
      fun _ => hposted.forcedVoids, hposted.departments, hposted.stations, hposted.plus, fun q hup hthreshold => ?_,
      (congrArg Rest.weigh hrest :), hclock⟩
    · rw [← hposted.number]
      exact hreplied
    · have hclerk : { v.clerk c with openTxn := none } = { s.clerk c with openTxn := none } :=
        (congrFun (congrArg Rest.clerks hrest) c :)
      rw [← hclerk, ← hopen c]
      rfl
    · have hclass : v.queue.classes.get k = { s.queue.classes.get k with waiting := [] } := by
        rw [hqueue]
        cases k <;> rfl
      exact hclass
    · exact congrArg TicketQueue.missed hqueue
    · exact (congrArg TicketQueue.called hqueue).trans (voided_called hcalled)
    · rw [← hposted.number]
      rfl
    · rw [← hposted.watches]
      exact rearmAll_getElem v.totals.watches j
    · have htotals' := htotals.trans (congrArg (abandoned _) (voided_standing hmode hstanding))
      exact ⟨congrArg Totals.acc htotals', congrArg Totals.day htotals'⟩
    · have hnone : s.txn.held = [] := hmode.resolve_left (hquiet ▸ nofun)
      exact (hposted.quiet (by rw [hnone]; rfl)).1
    · have hnone : s.txn.held = [] := hmode.resolve_left (hquiet ▸ nofun)
      exact (hposted.quiet (by rw [hnone]; rfl)).2
    · have hhears : v.hears q .dayState := by
        rw [show v.hears = s.hears from (congrArg Rest.hears hrest :)]
        exact ⟨hup, hthreshold⟩
      have hcause : (if mode = .normal then DayCause.closeNormal else .closeForce) = closeCause mode := by
        cases mode <;> rfl
      rw [hcause, ← hposted.number]
      exact houtbox q hhears

end Sys2Proof.Machine.DayEnd
end
